-- ==== Sys2Proof/Word.lean ====
section
/-!
DEFINITION. The bit-vector types of the formats (chapter 12): data bytes, the 32-bit words the management cursor
reaches, and 11-bit body-bus identifiers (00_scope 4.1 C). Everything the manual does not treat as bits is a number,
a name or a record.
-/

namespace Sys2Proof

/-- One data byte of a frame or of a door-link record. -/
abbrev Byte := BitVec 8

/-- One table word, as READ shows it and WRITE carries it (R198). -/
abbrev Word := BitVec 32

/-- A body CAN identifier, 000h..7FFh (00_scope 4.1 C). -/
abbrev CanId := BitVec 11

end Sys2Proof
end

