-- ==== Sys2Proof/Syntax.lean ====
section
/-!
DEFINITION. The names the commands use, and the commands themselves: one constructor of `Instr` for each row of
spec/opcode_table.json, in the table's order. Every command carries `elapsed`, the time in ms that passes before it
(log entry 1); its other operands are what the row's rule says the event or the frame carries.
-/

namespace Sys2Proof

/-- The five closures; a closure, its node and its channel share one name (00_scope 2). -/
inductive Closure where
  | fl | fr | rl | rr | tg
  deriving DecidableEq, Repr

/-- The four windows, named after their doors (00_scope 2). -/
inductive WindowId where
  | fl | fr | rl | rr
  deriving DecidableEq, Repr

/-- The two rear doors, which carry the child locks (00_scope 2). -/
inductive RearDoor where
  | rl | rr
  deriving DecidableEq, Repr

/-- The six wake lines (10 section 10.3): IGN, and the closure line of each closure. -/
inductive WakeLine where
  | ign
  | door (closure : Closure)
  deriving DecidableEq, Repr

/-- A pin's level. -/
inductive Level where
  | high | low
  deriving DecidableEq, Repr

/-- The ignition, the level of the IGN line (R182). -/
inductive Ignition where
  | run | off
  deriving DecidableEq, Repr

/-- How far a running save had written the image when the supply went away (R209). -/
inductive WriteExtent where
  | nothing | part | whole
  deriving DecidableEq, Repr

/-- The commands of the block, one for each row of spec/opcode_table.json. -/
inductive Instr where
  | powerOn (elapsed : Nat) (strap0 strap1 strap2 : Bool)
  | loadComplete (elapsed : Nat)
  | listenEnd (elapsed : Nat)
  | bodyFrameReceived (elapsed : Nat) (id : CanId) (data : List Byte)
  | select (elapsed : Nat) (table index word : Byte)
  | read (elapsed : Nat)
  | write (elapsed : Nat) (value : Word)
  | writeTravel (elapsed : Nat) (value : Word)
  | writeOpenLimit (elapsed : Nat) (value : Word)
  | writeChildOpenLimit (elapsed : Nat) (value : Word)
  | writeWindowLockout (elapsed : Nat) (value : Word)
  | writeParameters (elapsed : Nat) (value : Word)
  | writeChannelPowerMode (elapsed : Nat) (value : Word)
  | writeParkDelay (elapsed : Nat) (value : Word)
  | writeDeepDelay (elapsed : Nat) (value : Word)
  | writeProfiles (elapsed : Nat) (value : Word)
  | writeFobs (elapsed : Nat) (value : Word)
  | writePassiveSettings (elapsed : Nat) (value : Word)
  | writeOperations (elapsed : Nat) (value : Word)
  | writeRules (elapsed : Nat) (value : Word)
  | writeWakeLines (elapsed : Nat) (value : Word)
  | writeManagement (elapsed : Nat) (value : Word)
  | mask (elapsed : Nat) (bits : Word)
  | release (elapsed : Nat) (ticket : Byte)
  | discard (elapsed : Nat) (ticket : Byte)
  | lockAll (elapsed : Nat)
  | unlockAll (elapsed : Nat)
  | unlockDriver (elapsed : Nat)
  | deadlockAll (elapsed : Nat)
  | unlockTailgate (elapsed : Nat)
  | releaseTailgate (elapsed : Nat)
  | crashUnlock (elapsed : Nat)
  | crashClear (elapsed : Nat)
  | childSet (elapsed : Nat) (closure childState : Byte)
  | clearNormalized (elapsed : Nat) (window : Byte)
  | windowMove (elapsed : Nat) (window : Byte) (count : BitVec 16)
  | windowStop (elapsed : Nat) (window : Byte)
  | operationStart (elapsed : Nat) (descriptor : Byte)
  | operationCancel (elapsed : Nat)
  | clearWake (elapsed : Nat) (lines : Byte)
  | faults (elapsed : Nat)
  | clearFaults (elapsed : Nat)
  | save (elapsed : Nat)
  | protect (elapsed : Nat) (readFlags writeFlags lockByte : Byte)
  | restart (elapsed : Nat)
  | status (elapsed : Nat)
  | unknownRequest (elapsed : Nat) (data : List Byte)
  | nodeReport (elapsed : Nat) (channel : Closure) (record : List Byte)
  | linkCycleEnd (elapsed : Nat) (channel : Closure)
  | motionGrant (elapsed : Nat)
  | pendingRequestTaken (elapsed : Nat)
  | driveDeadline (elapsed : Nat) (closure : Closure)
  | settleDeadline (elapsed : Nat) (closure : Closure)
  | childSettleDeadline (elapsed : Nat) (door : RearDoor)
  | refillDeadline (elapsed : Nat)
  | relockDeadline (elapsed : Nat)
  | releaseDeadline (elapsed : Nat)
  | driverFirstWindowExpiry (elapsed : Nat)
  | doubleLockWindowExpiry (elapsed : Nat)
  | timedPatternDeadline (elapsed : Nat)
  | retainedDeadline (elapsed : Nat)
  | normalizationHoldDeadline (elapsed : Nat) (window : WindowId)
  | runTimeLimit (elapsed : Nat) (window : WindowId)
  | candidateDeadline (elapsed : Nat) (fob : Fin 8)
  | holdDeadline (elapsed : Nat)
  | leaseDeadline (elapsed : Nat)
  | searchDeadline (elapsed : Nat) (slot : Fin 4)
  | trapExpiry (elapsed : Nat) (ticket : Byte)
  | speedFreshnessDeadline (elapsed : Nat)
  | voltageFreshnessDeadline (elapsed : Nat)
  | statusPeriod (elapsed : Nat)
  | idleDeadline (elapsed : Nat)
  | parkSave (elapsed : Nat)
  | deepDeadline (elapsed : Nat)
  | ignitionTransition (elapsed : Nat) (level : Ignition)
  | wakeLineDetection (elapsed : Nat) (line : WakeLine)
  | busOff (elapsed : Nat)
  | portActiveReturn (elapsed : Nat)
  | beginTransmission (elapsed : Nat)
  | frameAcknowledged (elapsed : Nat)
  | transmissionFailed (elapsed : Nat)
  | saveComplete (elapsed : Nat) (verified : Bool)
  | powerLoss (elapsed : Nat) (extent : WriteExtent)
  | wakeLineLevelChange (elapsed : Nat) (line : WakeLine) (level : Level)
  deriving DecidableEq, Repr

end Sys2Proof
end

