-- ==== Sys2Proof/Decode.lean ====
section
/-!
DEFINITION. The command that a word spells by the bits of spec/opcode_table.json. The table gives no row any bits, so no
word spells a command (log entry 26). What a management frame's bytes ask for is read in Machine/Formats.lean.
-/

namespace Sys2Proof

/-- Every row of the table has an empty list of fields, so every word is refused. -/
def decodeTableWord (_nbits _w : Nat) : Option Instr := none

end Sys2Proof
end

