-- ==== Sys2Proof/Config.lean ====
section
/-!
DEFINITION. What the manual fixes once for every part (times, sizes, limits), and the one free value of the model:
what a failed save leaves in the image. All times are in ms.
-/

namespace Sys2Proof.Config

/-- The length of stage LISTEN (R212). -/
abbrev listenTime : Nat := 100
/-- The period of a FAST channel (09 section 9.1). -/
abbrev fastPeriod : Nat := 10
/-- The period of a SLOW channel (09 section 9.1). -/
abbrev slowPeriod : Nat := 100
/-- Missing reports in a row that declare a node LOST (R173). -/
abbrev lostAfter : Nat := 3

/-- The most tokens the lock group holds (R5). -/
abbrev tokenMax : Nat := 12
/-- The refill interval (R5). -/
abbrev refillTime : Nat := 5000
/-- What the drive deadline adds to the pulse length (R12). -/
abbrev driveMargin : Nat := 100
/-- The settle deadline of a lock (R12, R14). -/
abbrev settleTime : Nat := 300
/-- The settle deadline of a child lock (R32). -/
abbrev childSettleTime : Nat := 800
/-- The fixed length of a tailgate release (R24). -/
abbrev releaseTime : Nat := 300
/-- The least age at which an OFF→RUN transition ends crash hold (R20). -/
abbrev crashHoldMin : Nat := 10000
/-- The driver-first window (R27). -/
abbrev driverFirstTime : Nat := 3000
/-- The double-lock window (R27). -/
abbrev doubleLockTime : Nat := 1500

/-- The run-time limit of a motion and of a reversal (R62, R86). -/
abbrev runTimeMax : Nat := 8000
/-- The normalization hold (R56). -/
abbrev holdTime : Nat := 1000
/-- The number of motor slots (R58). -/
abbrev motorSlots : Nat := 2
/-- The upper clamp of heat (R64). -/
abbrev heatMax : Nat := 30000
/-- Heat that sets hot (R65). -/
abbrev hotSet : Nat := 24000
/-- Heat that clears hot (R65). -/
abbrev hotClear : Nat := 12000
/-- The least voltage, in 0.1 V, that does not refuse a motion (R66). -/
abbrev lowSupply : Nat := 90
/-- The voltage the compensation takes while the voltage is stale (R74). -/
abbrev nominalVoltage : Nat := 135
/-- The speed at which the rough margin applies (R76). -/
abbrev roughSpeed : Nat := 20
/-- The least start position of an adapted run (R90). -/
abbrev adaptStart : Nat := 200

/-- The life of a resync candidate (R98). -/
abbrev candidateTime : Nat := 5000
/-- The hold deadline after a press or a counted repeat (R105, R106). -/
abbrev fobHoldTime : Nat := 300
/-- The lease of a hold-to-run operation (R131, R136). -/
abbrev leaseTime : Nat := 300
/-- The farthest forward distance that can be a candidate (05 section 5.3). -/
abbrev farAhead : Nat := 32768
/-- The modulus of the fob counters. -/
abbrev counterModulus : Nat := 1048576
/-- The repeat number that starts a comfort operation (R107). -/
abbrev comfortRepeat : Nat := 8

/-- The number of places of the Trap Buffer (R154). -/
abbrev trapPlaces : Nat := 4
/-- The time a frame is held (R154). -/
abbrev trapTime : Nat := 2000
/-- The places of one Pass Queue (R158). -/
abbrev passPlaces : Nat := 2
/-- The places of the Body Transmit Queue (R160). -/
abbrev txPlaces : Nat := 16
/-- How long the port stays SILENT (R141). -/
abbrev silentTime : Nat := 250
/-- The status period in AWAKE (R163). -/
abbrev statusTime : Nat := 100

/-- How long a context value stays fresh (R180). -/
abbrev freshTime : Nat := 1000
/-- The idle delay while a latch is AJAR (R187). -/
abbrev ajarDelay : Nat := 600000

/-- What the image can be after a save that did not verify: its check word is bad, or it is one of the whole images
that were involved, counted from the oldest. DEDUCED: an agreeing check word is taken to mean a whole image
(log entry 9). -/
inductive FailedImage where
  | bad
  | whole (index : Nat)
  deriving DecidableEq, Repr, Inhabited

/-- Free value: what the LOAD after a failed save finds, drawn afresh at each such LOAD (R209; log entry 9). -/
opaque failedImage : Nat → FailedImage

end Sys2Proof.Config
end

