-- ==== Sys2Proof/Machine/Indexed.lean ====
section
/-!
DEFINITION. Records kept once per closure, window, rear door or wake line, with the one read and the one write of
each. Naming the places, rather than numbering them, means that no read or write can be out of range.
-/

namespace Sys2Proof.Machine

/-- One value for each of the five closures (and their nodes and channels). -/
structure Five (α : Type) where
  fl : α
  fr : α
  rl : α
  rr : α
  tg : α
  deriving DecidableEq, Repr

/-- One value for each of the four windows. -/
structure Four (α : Type) where
  fl : α
  fr : α
  rl : α
  rr : α
  deriving DecidableEq, Repr

/-- One value for each of the two rear doors. -/
structure Two (α : Type) where
  rl : α
  rr : α
  deriving DecidableEq, Repr

/-- One value for each of the six wake lines. -/
structure Six (α : Type) where
  ign : α
  doors : Five α
  deriving DecidableEq, Repr

variable {α β : Type}

def Five.get (v : Five α) : Closure → α
  | .fl => v.fl
  | .fr => v.fr
  | .rl => v.rl
  | .rr => v.rr
  | .tg => v.tg

def Five.set (v : Five α) (c : Closure) (a : α) : Five α :=
  match c with
  | .fl => { v with fl := a }
  | .fr => { v with fr := a }
  | .rl => { v with rl := a }
  | .rr => { v with rr := a }
  | .tg => { v with tg := a }

def Five.const (a : α) : Five α := ⟨a, a, a, a, a⟩

/-- Each value replaced by what `f` gives for its closure and the value. -/
def Five.mapWith (f : Closure → α → β) (v : Five α) : Five β :=
  ⟨f .fl v.fl, f .fr v.fr, f .rl v.rl, f .rr v.rr, f .tg v.tg⟩

def Four.get (v : Four α) : WindowId → α
  | .fl => v.fl
  | .fr => v.fr
  | .rl => v.rl
  | .rr => v.rr

def Four.set (v : Four α) (w : WindowId) (a : α) : Four α :=
  match w with
  | .fl => { v with fl := a }
  | .fr => { v with fr := a }
  | .rl => { v with rl := a }
  | .rr => { v with rr := a }

def Four.const (a : α) : Four α := ⟨a, a, a, a⟩

def Four.mapWith (f : WindowId → α → β) (v : Four α) : Four β :=
  ⟨f .fl v.fl, f .fr v.fr, f .rl v.rl, f .rr v.rr⟩

def Two.get (v : Two α) : RearDoor → α
  | .rl => v.rl
  | .rr => v.rr

def Two.set (v : Two α) (d : RearDoor) (a : α) : Two α :=
  match d with
  | .rl => { v with rl := a }
  | .rr => { v with rr := a }

def Two.const (a : α) : Two α := ⟨a, a⟩

def Two.mapWith (f : RearDoor → α → β) (v : Two α) : Two β := ⟨f .rl v.rl, f .rr v.rr⟩

def Six.get (v : Six α) : WakeLine → α
  | .ign => v.ign
  | .door c => v.doors.get c

def Six.set (v : Six α) (l : WakeLine) (a : α) : Six α :=
  match l with
  | .ign => { v with ign := a }
  | .door c => { v with doors := v.doors.set c a }

def Six.mapWith (f : WakeLine → α → β) (v : Six α) : Six β :=
  ⟨f .ign v.ign, v.doors.mapWith fun c => f (.door c)⟩

/-- The closures in the order FL, FR, RL, RR, TG that every table and format uses. -/
def allClosures : List Closure := [.fl, .fr, .rl, .rr, .tg]

/-- The windows in the order FL, FR, RL, RR. -/
def allWindows : List WindowId := [.fl, .fr, .rl, .rr]

/-- The rear doors in the order RL, RR. -/
def allRearDoors : List RearDoor := [.rl, .rr]

/-- The wake lines in the order of CLEAR_WAKE (12 section 12.2). -/
def allLines : List WakeLine := [.ign, .door .fl, .door .fr, .door .rl, .door .rr, .door .tg]

/-- The closure that carries a window. -/
def windowClosure : WindowId → Closure
  | .fl => .fl
  | .fr => .fr
  | .rl => .rl
  | .rr => .rr

/-- The window of a closure; TG has none. -/
def closureWindow : Closure → Option WindowId
  | .fl => some .fl
  | .fr => some .fr
  | .rl => some .rl
  | .rr => some .rr
  | .tg => none

/-- The closure of a rear door. -/
def rearClosure : RearDoor → Closure
  | .rl => .rl
  | .rr => .rr

/-- The rear door of a closure, if it is one. -/
def closureRear : Closure → Option RearDoor
  | .rl => some .rl
  | .rr => some .rr
  | _ => none

/-- The rear door of a window, if it is on one. -/
def windowRear : WindowId → Option RearDoor
  | .rl => some .rl
  | .rr => some .rr
  | _ => none

/-- The window of a rear door. -/
def rearWindow : RearDoor → WindowId
  | .rl => .rl
  | .rr => .rr

end Sys2Proof.Machine
end

