-- ==== Sys2Proof/Machine/State.lean ====
section
/-!
DEFINITION. The whole state of the DZ410 as plain data, block by block, and the state after reset. The stored tables
stand together in `Tables`: the working tables (`State.cfg`), the snapshot of a running save and the stored image all
have this one type (11 section 11.7). INVENTORY.md lists every field with the rule that names it.
-/

namespace Sys2Proof.Machine

/-! ## Lock Controller: names and records (chapters 1 and 2) -/

/-- The state the Lock Controller wants a lock to reach (01 section 1.1). -/
inductive LockTarget where
  | unlocked | locked | deadlocked
  deriving DecidableEq, Repr

/-- The lock state a node reports (01 section 1.1). -/
inductive LockSensed where
  | unlocked | locked | deadlocked | between | unknown
  deriving DecidableEq, Repr

/-- Where a closure stands in an actuation (01 section 1.5). -/
inductive LockPhase where
  | idle | driving | settling | retrying | fault
  deriving DecidableEq, Repr

inductive Latch where
  | shut | ajar | unknown
  deriving DecidableEq, Repr

/-- The source of a lock request, or of the last change of a target (01 section 1.2). -/
inductive LockSource where
  | fob | passive | insideSwitch | keyCylinder | driveAway | autoRelock | remote | body | crash | management | manual
  deriving DecidableEq, Repr

/-- The kinds of request that act on lock targets (01 section 1.2). -/
inductive LockKind where
  | lockAll | unlockAll | unlockDriver | deadlockAll | unlockTailgate | crashUnlock
  deriving DecidableEq, Repr

/-- The lock command of a Node Drive (12 section 12.1). -/
inductive LockCommand where
  | idle | lockPulse | unlockPulse | deadlockPulse | abandon
  deriving DecidableEq, Repr

/-- One Closure Lock record (01 section 1.1), with the lock command prepared for the next drive (R8, R12) and whether the
first known sensed state since SENSE is still awaited (R28). -/
structure ClosureLock where
  target : LockTarget
  sensed : LockSensed
  phase : LockPhase
  latch : Latch
  openedSinceUnlock : Bool
  lastSource : LockSource
  driveDeadline : Option Nat
  settleDeadline : Option Nat
  command : LockCommand
  pulseSteps : Nat
  senseWaits : Bool
  deriving DecidableEq, Repr

/-- A lock request as it arrives or waits (01 section 1.3). -/
structure LockRequest where
  kind : LockKind
  source : LockSource
  releaseAfter : Bool
  deriving DecidableEq, Repr

/-- The in-flight request, with the driver closure as it was when the request was taken (R3). -/
structure InFlight where
  request : LockRequest
  driver : Closure
  deriving DecidableEq, Repr

/-- Why the lock group last turned a request away (R6). -/
inductive LockRefusal where
  | budget | crashHold | ajar | moving | locked | keyInside
  deriving DecidableEq, Repr

/-- The relock timer (R21). -/
structure RelockTimer where
  deadline : Nat
  restore : LockTarget
  deriving DecidableEq, Repr

/-- The double-lock window, which carries a fob index (R27). -/
structure DoubleLockWindow where
  fob : Nat
  deadline : Nat
  deriving DecidableEq, Repr

/-- The Lock Group record (01 section 1.3), and the CRASH_UNLOCK kept during start-up (R19). -/
structure LockGroup where
  inFlight : Option InFlight
  slot : Option LockRequest
  tokens : Nat
  refillDeadline : Option Nat
  crashHold : Option Nat
  relockTimer : Option RelockTimer
  driveAwayArmed : Bool
  lastRefusal : Option LockRefusal
  driverFirst : Option Nat
  doubleLock : Option DoubleLockWindow
  crashKept : Bool
  deriving DecidableEq, Repr

/-- The tailgate release: its deadline, and whether its command waits for a drive (R24). -/
structure TailgateRelease where
  deadline : Option Nat
  prepared : Bool
  deriving DecidableEq, Repr

inductive ChildTarget where
  | disengaged | engaged
  deriving DecidableEq, Repr

inductive ChildSensed where
  | disengaged | engaged | unknown
  deriving DecidableEq, Repr

inductive ChildPhase where
  | idle | driving | settling | fault
  deriving DecidableEq, Repr

inductive ChildCommand where
  | engage | disengage
  deriving DecidableEq, Repr

/-- One Child Lock record (02 section 2.1). -/
structure ChildLock where
  target : ChildTarget
  sensed : ChildSensed
  phase : ChildPhase
  command : Option ChildCommand
  retried : Bool
  settleDeadline : Option Nat
  deriving DecidableEq, Repr

/-- A lamp pattern (02 section 2.5). -/
inductive Pattern where
  | off | slow | fast | steady
  deriving DecidableEq, Repr

/-- The timed pattern of the lock lamp (R39). -/
structure TimedPattern where
  pattern : Pattern
  deadline : Nat
  deriving DecidableEq, Repr

/-! ## Window Controller (chapters 3 and 4) -/

inductive WindowState where
  | idle | waiting | movingManual | movingAuto | reversing | fault
  deriving DecidableEq, Repr

/-- UP is closing (03 section 3.1). -/
inductive Direction where
  | up | down
  deriving DecidableEq, Repr

inductive Origin where
  | ownSwitch | driverPack | fobOperation | operation | body | management
  deriving DecidableEq, Repr

/-- Why a window request was turned away (R48). -/
inductive WindowRefusal where
  | notNormalized | hot | lowSupply | fault | busy
  deriving DecidableEq, Repr

/-- How a motion ended (03 section 3.7). -/
inductive MotionOutcome where
  | reached | released | stopped | cancelled | replaced | overridden | pinched | runtime | lost
  deriving DecidableEq, Repr

inductive PinchCause where
  | excess | current | block
  deriving DecidableEq, Repr

/-- The motor command of a Node Drive (12 section 12.1). -/
inductive MotorCommand where
  | stop | up | down
  deriving DecidableEq, Repr

/-- One Window record: the fields of 03 section 3.1 (the effective target is computed, R45), the anti-pinch working
fields of 04 section 4.1, and what the last drive told the motor (R43, R68). -/
structure Window where
  position : Nat
  normalized : Bool
  state : WindowState
  direction : Direction
  requested : Nat
  origin : Option Origin
  held : Bool
  heat : Nat
  hot : Bool
  heatStamp : Nat
  runStart : Option Nat
  normHold : Option Nat
  suppressed : Bool
  lastPinchPosition : Nat
  pinchCount : Nat
  lastRefusal : Option WindowRefusal
  lastOutcome : Option MotionOutcome
  clearPending : Bool
  runCounter : Nat
  debounce : Nat
  zeroCount : Nat
  startPosition : Nat
  maxima : List (Option Nat)
  reversalTarget : Option Nat
  reversalRipple : Nat
  reversalDistance : Nat
  pinchFlag : Bool
  lastPinchCause : Option PinchCause
  lastDrive : MotorCommand
  coast : Option Direction
  stopDue : Bool
  overtemp : Bool
  deriving DecidableEq, Repr

/-- One motor slot in use: its window, and whether it only waits for the window's first STOP drive (R58). -/
structure Slot where
  window : WindowId
  ending : Bool
  deriving DecidableEq, Repr

/-- The Motion Queue in its two classes (R59), the motor slots in use (R58) and the retained deadline (R51). -/
structure Motion where
  switchQueue : List WindowId
  otherQueue : List WindowId
  slots : List Slot
  retained : Option Nat
  deriving DecidableEq, Repr

/-! ## Key Unit (chapters 5 and 6) -/

inductive FobState where
  | empty | active | blocked
  deriving DecidableEq, Repr

inductive UnlockMode where
  | all | driverFirst
  deriving DecidableEq, Repr

/-- The stored fields of a Fob Table entry (05 section 5.1, R109). -/
structure Fob where
  state : FobState
  serial : Nat
  accepted : Option Nat
  remoteAllowed : Bool
  passiveAllowed : Bool
  comfortAllowed : Bool
  mode : UnlockMode
  deriving DecidableEq, Repr

/-- A resync candidate (R98). -/
structure Candidate where
  counter : Nat
  deadline : Nat
  deriving DecidableEq, Repr

/-- The fields of a Fob Table entry that are not stored (R109). -/
structure FobRun where
  candidate : Option Candidate
  batteryLow : Bool
  deriving DecidableEq, Repr

inductive Button where
  | lock | unlock | tailgate
  deriving DecidableEq, Repr

inductive TelegramResult where
  | accepted | resynced | candidate | replay | unknownFob | refused | repeatCounted | repeatIgnored
  deriving DecidableEq, Repr

/-- The last telegram record (05 section 5.2). -/
structure TelegramRecord where
  serial : Nat
  button : Button
  repeatNumber : Nat
  fob : Option Nat
  result : TelegramResult
  deriving DecidableEq, Repr

/-- The hold (05 section 5.5). -/
structure Hold where
  fob : Nat
  button : Button
  counter : Nat
  lastCounted : Nat
  operationStarted : Bool
  deadline : Nat
  /-- Comfort allowed of the hold's fob was cleared while the hold stood, so it starts no operation (R95 D). -/
  comfortCleared : Bool
  deriving DecidableEq, Repr

/-- The remote-key records that are not stored (R111, R112). -/
structure KeyRun where
  lastTelegram : Option TelegramRecord
  unknownCount : Nat
  refusedCount : Nat
  hold : Option Hold
  deriving DecidableEq, Repr

inductive Purpose where
  | unlock | lock | tailgate
  deriving DecidableEq, Repr

inductive Trigger where
  | handle | wakeLine
  deriving DecidableEq, Repr

/-- An open Search Slot (06 section 6.1). -/
structure SearchSlot where
  closure : Closure
  purpose : Purpose
  tag : Nat
  deadline : Nat
  trigger : Trigger
  deriving DecidableEq, Repr

inductive SearchOutcome where
  | keyOutside | keyInside | noKey | moduleError | superseded | disabled
  deriving DecidableEq, Repr

/-- The last search record (06 section 6.1). -/
structure SearchRecord where
  closure : Closure
  purpose : Purpose
  tag : Nat
  outcome : SearchOutcome
  fob : Option Nat
  deriving DecidableEq, Repr

/-- The passive-entry records (R113, R126). A slot that is free is `none`. -/
structure Search where
  slots : List (Option SearchSlot)
  tagCounter : Nat
  last : Option SearchRecord
  noSlot : Nat
  deriving DecidableEq, Repr

/-! ## Operation Engine (chapter 7) -/

inductive KindLabel where
  | comfortClose | comfortOpen | vent | parkClose
  deriving DecidableEq, Repr

inductive StepTarget where
  | closed
  | count (n : Nat)
  | opened
  deriving DecidableEq, Repr

/-- One entry of a descriptor's step list (07 section 7.1). -/
structure StepSpec where
  window : WindowId
  target : StepTarget
  deriving DecidableEq, Repr

/-- An Operation Descriptor (07 section 7.1). -/
structure Descriptor where
  enabled : Bool
  kind : KindLabel
  steps : List StepSpec
  holdToRun : Bool
  deriving DecidableEq, Repr

inductive OpSource where
  | fob (index : Nat)
  | body
  | management
  deriving DecidableEq, Repr

inductive StepStatus where
  | pending | issued | done | skipped | overridden | pinched | cancelled
  deriving DecidableEq, Repr

inductive AbortCause where
  | superseded | pinchAbort | leaseLost | crashAbort | cancelled
  deriving DecidableEq, Repr

/-- A step of the Active Operation (07 section 7.2). -/
structure OpStep where
  window : WindowId
  target : StepTarget
  status : StepStatus
  deriving DecidableEq, Repr

/-- The Active Operation record (07 section 7.2). -/
structure ActiveOp where
  descriptor : Nat
  kind : KindLabel
  holdToRun : Bool
  source : OpSource
  lease : Option Nat
  steps : List OpStep
  remaining : Nat
  abortCause : Option AbortCause
  deriving DecidableEq, Repr

inductive StartResult where
  | started | renewed | crashHold | disabled | holdRequired
  deriving DecidableEq, Repr

/-- The last start result (07 section 7.3, R139). -/
structure LastStart where
  result : StartResult
  descriptor : Nat
  source : OpSource
  deriving DecidableEq, Repr

/-- The last operation (R133, R139); its outcome is COMPLETE when no abort cause was written. -/
structure LastOp where
  descriptor : Nat
  kind : KindLabel
  source : OpSource
  outcome : Option AbortCause
  steps : List OpStep
  deriving DecidableEq, Repr

/-- The Operation Engine's records other than the descriptors. -/
structure OpEngine where
  active : Option ActiveOp
  lastStart : Option LastStart
  lastOp : Option LastOp
  deriving DecidableEq, Repr

/-! ## Frame Path (chapter 8) -/

inductive Action where
  | pass | request | context | fob | search | trap | drop
  deriving DecidableEq, Repr

/-- A Rule Table entry less its hit count (08 section 8.3). The argument is the bits of word 1; what they mean depends
on the action (12 section 12.7). -/
structure Rule where
  valid : Bool
  base : CanId
  mask : CanId
  minLength : Nat
  action : Action
  argument : BitVec 12
  byteIndex : Nat
  lowBit : Nat
  width : Nat
  num : Nat
  den : Nat
  wake : Bool
  keepAwake : Bool
  deriving DecidableEq, Repr

/-- The three further settings of the Frame Path (08 section 8.3). -/
structure FrameSettings where
  passDefault : Bool
  defaultMask : BitVec 5
  statusId : CanId
  uplinkIds : Five (Option CanId)
  deriving DecidableEq, Repr

/-- The hit counts and the no-match count (R145, R146). -/
structure RuleCounts where
  hits : List Nat
  noMatch : Nat
  deriving DecidableEq, Repr

/-- A frame held in the Trap Buffer (08 section 8.6). -/
structure HeldFrame where
  ticket : Nat
  rule : Nat
  id : CanId
  data : List Byte
  expiry : Nat
  deriving DecidableEq, Repr

structure TrapBuffer where
  held : List HeldFrame
  ticketCounter : Nat
  deriving DecidableEq, Repr

/-- A body frame on its way to a door node (R158). -/
structure PassFrame where
  id : CanId
  data : List Byte
  deriving DecidableEq, Repr

/-- The fault classes, in the order of 11 section 11.6. -/
inductive FaultClass where
  | linkLost | nodeFault | lockFault | childFault | runtime | pinch | storeFail | storeBlank | txOverflow | trapOverflow
  | passOverflow | busOff | replay | late
  deriving DecidableEq, Repr

/-- What decides replacement in the Body Transmit Queue (R160). -/
inductive TxKind where
  | statusPage
  | faultNotice (cls : FaultClass)
  | response
  | other
  deriving DecidableEq, Repr

/-- A frame of the Body Transmit Queue; `started` while it is being transmitted (R160, R161). -/
structure TxFrame where
  kind : TxKind
  id : CanId
  data : List Byte
  started : Bool
  deriving DecidableEq, Repr

/-- The body port: ACTIVE, or SILENT since a time (R141). -/
inductive Port where
  | active
  | silent (since : Nat)
  deriving DecidableEq, Repr

/-! ## Door Link Engine (chapter 9) -/

inductive Rate where
  | fast | slow | off
  deriving DecidableEq, Repr

inductive LinkState where
  | unknown | present | lost
  deriving DecidableEq, Repr

inductive PowerMode where
  | auto | forcedOn | forcedOff
  deriving DecidableEq, Repr

/-- A window switch level (12 section 12.1). -/
inductive Switch where
  | none | up | upAuto | down | downAuto
  deriving DecidableEq, Repr

/-- A central lock switch or key cylinder level (12 section 12.1). -/
inductive LockSwitch where
  | none | lock | unlock
  deriving DecidableEq, Repr

/-- A Node Report that reads correctly (09 section 9.3). -/
structure Report where
  pulseActive : Bool
  lockSensed : LockSensed
  childSensed : ChildSensed
  ajar : Bool
  touchUnlock : Bool
  touchLock : Bool
  releaseButton : Bool
  ownSwitch : Switch
  pack : Four Switch
  central : LockSwitch
  childButton : Bool
  lockoutButton : Bool
  keyCylinder : LockSwitch
  ripple : Nat
  current : Nat
  overtemp : Bool
  openLoad : Bool
  lowSupply : Bool
  uplink : Option (List Byte)
  deriving DecidableEq, Repr

/-- A Node Drive (09 section 9.2). -/
structure NodeDrive where
  lock : LockCommand
  pulseSteps : Nat
  child : Option ChildCommand
  release : Bool
  motor : MotorCommand
  lockLamp : Pattern
  childLamp : Pattern
  lockoutLamp : Pattern
  payload : Option PassFrame
  deriving DecidableEq, Repr

/-- A channel record (09 section 9.1), with the bytes of the drive of the cycle in progress (R215), the lifetime counts
(R178) and what stage SENSE keeps of the first report (R28, R34). -/
structure Channel where
  rate : Rate
  link : LinkState
  missing : Nat
  lastReport : Option Report
  comparable : Bool
  reported : Bool
  cycleEnd : Option Nat
  answered : Bool
  drive : Option (List Byte)
  firstSense : Option (LockSensed × ChildSensed)
  goodCount : Nat
  missingCount : Nat
  lossCount : Nat
  deriving DecidableEq, Repr

/-! ## Context Monitor (chapter 10) -/

inductive OpState where
  | starting | awake | parked | deep
  deriving DecidableEq, Repr

/-- The causes of a wake (R192). -/
inductive WakeCause where
  | wakeLine (line : WakeLine)
  | frame | management | fob | ignition | search | request | latch | button
  deriving DecidableEq, Repr

/-- The Vehicle Context record and the operating state (10 section 10.1). A value is fresh while its deadline is
present and has not passed (R180). -/
structure Context where
  speed : Nat
  speedFresh : Option Nat
  voltage : Nat
  voltageFresh : Option Nat
  ignition : Ignition
  state : OpState
  lastActivity : Nat
  idleDeadline : Nat
  deepDeadline : Option Nat
  parkedAt : Option Nat
  lastWake : Option WakeCause
  wakeCount : Nat
  deriving DecidableEq, Repr

inductive LineMode where
  | rising | falling | high | low
  deriving DecidableEq, Repr

/-- The stored settings of a wake line (10 section 10.3). -/
structure LineSettings where
  enable : Bool
  mode : LineMode
  deriving DecidableEq, Repr

/-- The other fields of a wake line (10 section 10.3). -/
structure LineState where
  pending : Bool
  level : Level
  deriving DecidableEq, Repr

/-! ## Management Responder and Settings Store (chapter 11) -/

inductive Selector where
  | stored | strap
  deriving DecidableEq, Repr

structure Straps where
  s0 : Bool
  s1 : Bool
  s2 : Bool
  deriving DecidableEq, Repr

/-- The identifier settings (11 section 11.1). -/
structure IdSettings where
  storedBase : CanId
  bit3 : Selector
  bit4 : Selector
  bit5 : Selector
  deriving DecidableEq, Repr

inductive Route where
  | notice | noticeAndFlag
  deriving DecidableEq, Repr

/-- The stored fields of a fault record (11 section 11.6). -/
structure ReportSetting where
  masked : Bool
  route : Route
  deriving DecidableEq, Repr

/-- The other fields of a fault record (11 section 11.6). -/
structure FaultRecord where
  count : Nat
  last : Option Closure
  attention : Bool
  deriving DecidableEq, Repr

/-- One flag for each protected region, in the order of PROTECT (12 section 12.2). -/
structure RegionFlags where
  rules : Bool
  fobs : Bool
  closures : Bool
  profiles : Bool
  deriving DecidableEq, Repr

/-- The protection record (11 section 11.5). -/
structure Protection where
  readFlags : RegionFlags
  writeFlags : RegionFlags
  lock : Bool
  deriving DecidableEq, Repr

structure Cursor where
  table : Nat
  index : Nat
  word : Nat
  deriving DecidableEq, Repr

inductive ResetKind where
  | powerOn | restart
  deriving DecidableEq, Repr

/-- The Management Responder's records (11 sections 11.1 and 11.2). -/
structure Mgmt where
  cursor : Cursor
  mask : Option Word
  base : CanId
  straps : Straps
  resetKind : ResetKind
  deriving DecidableEq, Repr

/-- The start-up stages (11 section 11.9), and `off` while there is no supply. -/
inductive Stage where
  | off | load | listen | poll | sense | run
  deriving DecidableEq, Repr

/-- The front closures, one of which is the driver closure (00_scope 2). -/
inductive FrontDoor where
  | fl | fr
  deriving DecidableEq, Repr

/-- The settings common to the car: CLOSURE_SETTINGS entry 0 (R216). -/
structure CarSettings where
  driverSide : FrontDoor
  pulseSteps : Nat
  relockTime : Nat
  driveAwaySpeed : Nat
  lockout : Bool
  inhibitLinked : Bool
  retainedTime : Nat
  parkDelay : Nat
  deepDelay : Nat
  deriving DecidableEq, Repr

/-- The settings of one window (03 section 3.1, 04 section 4.1). -/
structure WindowSettings where
  travel : Nat
  openLimit : Nat
  tBase : Nat
  margin : Nat
  debounce : Nat
  topMargin : Nat
  span : Nat
  blanking : Nat
  ceiling : Nat
  backOff : Nat
  deriving DecidableEq, Repr

/-- The Forward Window and the passive-entry settings: FOBS entry 8 (R216). -/
structure KeySettings where
  forwardWindow : Nat
  passive : Bool
  touch : Five Bool
  searchSteps : Nat
  searchId : CanId
  deriving DecidableEq, Repr

/-- Every stored table and setting (11 section 11.7). -/
structure Tables where
  car : CarSettings
  windows : Four WindowSettings
  childOpenLimit : Two Nat
  modes : Five PowerMode
  profiles : Four (List Nat)
  fobs : List Fob
  key : KeySettings
  descriptors : List Descriptor
  rules : List Rule
  frame : FrameSettings
  lines : Six LineSettings
  ids : IdSettings
  report : List ReportSetting
  protection : Protection
  deriving DecidableEq, Repr

/-- The stored image (R207, R209): whole with a good check word; with a bad check word; or unknown after a failed
save, when it may be any of the whole images involved, oldest first, or bad (log entry 9). -/
inductive StoreImage where
  | good (tables : Tables)
  | bad
  | unknown (candidates : List Tables)
  deriving DecidableEq, Repr

/-- The Settings Store (11 section 11.7). A save is running (SAVING) while a snapshot is present. -/
structure Store where
  image : StoreImage
  lockCell : Option Protection
  snapshot : Option Tables
  parkKept : Bool
  lastResult : Option Bool
  blankAtLoad : Bool
  deriving DecidableEq, Repr

/-- The whole machine. -/
structure State where
  pending : List Instr
  now : Nat
  draws : Nat
  pins : Six Level
  strapPins : Straps
  stage : Stage
  listenEnd : Option Nat
  cfg : Tables
  closures : Five ClosureLock
  children : Two ChildLock
  group : LockGroup
  release : TailgateRelease
  timed : Option TimedPattern
  windows : Four Window
  motion : Motion
  fobRun : List FobRun
  key : KeyRun
  search : Search
  op : OpEngine
  counts : RuleCounts
  trap : TrapBuffer
  pass : Five (List PassFrame)
  tx : List TxFrame
  port : Port
  nextStatus : Option Nat
  channels : Five Channel
  ctx : Context
  lines : Six LineState
  mgmt : Mgmt
  faults : List FaultRecord
  store : Store
  deriving DecidableEq, Repr

/-- Why the machine would stop with a fault. The manual gives the DZ410 no such stop: its fault classes are counted
and noticed, and the part runs on (R205). So the type has no constructor. -/
inductive Fault where
  deriving DecidableEq, Repr

/-- Why a command would have no meaning. -/
inductive Refusal where
  /-- Raised by `exec` alone, for a row that has no meaning in the model. Safe: the model stops. -/
  | notModelled (mnemonic : String)
  deriving DecidableEq, Repr

/-! ## Factory defaults (the "blank store image" paragraph of each chapter) -/

/-- R28, R35, R42, R69, R195. -/
def CarSettings.factory : CarSettings :=
  { driverSide := .fl, pulseSteps := 20, relockTime := 45, driveAwaySpeed := 15, lockout := false
    inhibitLinked := true, retainedTime := 45, parkDelay := 60, deepDelay := 72 }

/-- R69, R92. -/
def WindowSettings.factory : WindowSettings :=
  { travel := 4400, openLimit := 4400, tBase := 25, margin := 10, debounce := 3, topMargin := 40, span := 2000
    blanking := 3, ceiling := 150, backOff := 250 }

/-- R109. -/
def Fob.blank : Fob :=
  { state := .empty, serial := 0, accepted := none, remoteAllowed := false, passiveAllowed := false
    comfortAllowed := false, mode := .all }

/-- R109, R127. -/
def KeySettings.factory : KeySettings :=
  { forwardWindow := 32, passive := true, touch := .const true, searchSteps := 20, searchId := 0x5A0#11 }

/-- The four windows, each to one target, as every default descriptor lists them (07 section 7.1). -/
def fourSteps (t : StepTarget) : List StepSpec := allWindows.map fun w => ⟨w, t⟩

/-- 07 section 7.1. -/
def factoryDescriptors : List Descriptor :=
  [{ enabled := true, kind := .comfortClose, steps := fourSteps .closed, holdToRun := true },
   { enabled := true, kind := .comfortOpen, steps := fourSteps .opened, holdToRun := true },
   { enabled := true, kind := .vent, steps := fourSteps (.count 300), holdToRun := false },
   { enabled := true, kind := .parkClose, steps := fourSteps .closed, holdToRun := false }]

/-- R164. -/
def Rule.blank : Rule :=
  { valid := false, base := 0, mask := 0, minLength := 0, action := .drop, argument := 0, byteIndex := 0, lowBit := 0
    width := 1, num := 1, den := 1, wake := false, keepAwake := false }

/-- R164. -/
def FrameSettings.factory : FrameSettings :=
  { passDefault := false, defaultMask := 0, statusId := 0x4E0#11
    uplinkIds := ⟨some 0x4F1#11, some 0x4F2#11, some 0x4F3#11, some 0x4F4#11, some 0x4F5#11⟩ }

/-- The Stored Base and selectors after a blank image (R214). -/
def IdSettings.factory : IdSettings := { storedBase := 0x6C0#11, bit3 := .strap, bit4 := .strap, bit5 := .strap }

def RegionFlags.clear : RegionFlags := ⟨false, false, false, false⟩

/-- R214. -/
def Protection.clear : Protection := { readFlags := .clear, writeFlags := .clear, lock := false }

/-- Every table at its factory default (R207). -/
def Tables.factory : Tables :=
  { car := .factory
    windows := .const .factory
    childOpenLimit := .const 4400
    modes := .const .auto
    profiles := .const (List.replicate 16 30)
    fobs := List.replicate 8 .blank
    key := .factory
    descriptors := factoryDescriptors
    rules := List.replicate 32 .blank
    frame := .factory
    lines := { ign := ⟨true, .rising⟩, doors := .const ⟨true, .falling⟩ }
    ids := .factory
    report := List.replicate 14 ⟨false, .notice⟩
    protection := .clear }

/-! ## Values after reset (the last section of each chapter) -/

/-- R28. The target stands at LOCKED until stage SENSE sets it (log entry 4). -/
def ClosureLock.reset : ClosureLock :=
  { target := .locked, sensed := .unknown, phase := .idle, latch := .unknown, openedSinceUnlock := false
    lastSource := .manual, driveDeadline := none, settleDeadline := none, command := .idle, pulseSteps := 0
    senseWaits := false }

/-- R28. -/
def LockGroup.reset : LockGroup :=
  { inFlight := none, slot := none, tokens := Config.tokenMax, refillDeadline := none, crashHold := none
    relockTimer := none, driveAwayArmed := true, lastRefusal := none, driverFirst := none, doubleLock := none
    crashKept := false }

/-- R34. The target stands at ENGAGED until stage SENSE sets it (log entry 4). -/
def ChildLock.reset : ChildLock :=
  { target := .engaged, sensed := .unknown, phase := .idle, command := none, retried := false
    settleDeadline := none }

/-- R69 and R93 at power-on, for a window of the given travel at the given time. -/
def Window.reset (travel now : Nat) : Window :=
  { position := travel, normalized := false, state := .idle, direction := .up, requested := travel, origin := none
    held := false, heat := 0, hot := false, heatStamp := now, runStart := none, normHold := none, suppressed := false
    lastPinchPosition := 0, pinchCount := 0, lastRefusal := none, lastOutcome := none, clearPending := false
    runCounter := 0, debounce := 0, zeroCount := 0, startPosition := travel, maxima := List.replicate 16 none
    reversalTarget := none, reversalRipple := 0, reversalDistance := 0, pinchFlag := false, lastPinchCause := none
    lastDrive := .stop, coast := none, stopDue := false, overtemp := false }

/-- R69. -/
def Motion.reset : Motion := { switchQueue := [], otherQueue := [], slots := [], retained := none }

/-- R112. -/
def FobRun.reset : FobRun := { candidate := none, batteryLow := false }

/-- R112. -/
def KeyRun.reset : KeyRun := { lastTelegram := none, unknownCount := 0, refusedCount := 0, hold := none }

/-- R127. -/
def Search.reset : Search := { slots := List.replicate 4 none, tagCounter := 0, last := none, noSlot := 0 }

/-- R140. -/
def OpEngine.reset : OpEngine := { active := none, lastStart := none, lastOp := none }

/-- R179. -/
def Channel.reset : Channel :=
  { rate := .off, link := .unknown, missing := 0, lastReport := none, comparable := false, reported := false
    cycleEnd := none, answered := false, drive := none, firstSense := none, goodCount := 0, missingCount := 0
    lossCount := 0 }

/-- R195. -/
def Context.reset : Context :=
  { speed := 0, speedFresh := none, voltage := Config.nominalVoltage, voltageFresh := none, ignition := .off
    state := .starting, lastActivity := 0, idleDeadline := 0, deepDeadline := none, parkedAt := none, lastWake := none
    wakeCount := 0 }

/-- R211: the fault table as LOAD clears it. -/
def FaultRecord.clear : FaultRecord := { count := 0, last := none, attention := false }

/-- The levels the wake pins are taken to have at reset: IGN low, the closure lines high (log entry 4). -/
def restingPins : Six Level := { ign := .low, doors := .const .high }

/-- The machine right after reset: power-on has begun stage LOAD (R211), the image was found blank (R207) and every
record stands at its power-on value. Nothing waits. -/
def State.reset : State :=
  { pending := []
    now := 0
    draws := 0
    pins := restingPins
    strapPins := ⟨false, false, false⟩
    stage := .load
    listenEnd := none
    cfg := .factory
    closures := .const .reset
    children := .const .reset
    group := .reset
    release := ⟨none, false⟩
    timed := none
    windows := .const (.reset 4400 0)
    motion := .reset
    fobRun := List.replicate 8 .reset
    key := .reset
    search := .reset
    op := .reset
    counts := ⟨List.replicate 32 0, 0⟩
    trap := ⟨[], 0⟩
    pass := .const []
    tx := []
    port := .active
    nextStatus := none
    channels := .const .reset
    ctx := .reset
    lines := restingPins.mapWith fun _ level => ⟨false, level⟩
    mgmt :=
      { cursor := ⟨0, 0, 0⟩, mask := none, base := 0x6C0#11, straps := ⟨false, false, false⟩, resetKind := .powerOn }
    faults := List.replicate 7 .clear ++ [⟨1, none, false⟩] ++ List.replicate 6 .clear
    store :=
      { image := .bad, lockCell := none, snapshot := none, parkKept := false, lastResult := none
        blankAtLoad := true } }

end Sys2Proof.Machine
end

