-- ==== Sys2Proof/Machine/Formats.lean ====
section
/-!
DEFINITION. Codes, byte order and record layouts (chapter 12): how a received frame or record is read (R217) and how a
sent one is laid out (R215). Reading answers `none` where R217 says the format cannot be read.
-/

namespace Sys2Proof.Machine

/-! ## Bits and bytes -/

/-- The `width` bits of `n` from bit `low` upward. -/
def bitsOf (n low width : Nat) : Nat := n / 2 ^ low % 2 ^ width

/-- One bit of `n`. -/
def bitOf (n low : Nat) : Bool := bitsOf n low 1 == 1

/-- Fields laid side by side from bit 0 upward, each a (width, value) pair (R215, R216). -/
def packBits : List (Nat × Nat) → Nat
  | [] => 0
  | (w, v) :: rest => v % 2 ^ w + 2 ^ w * packBits rest

def flagBit (b : Bool) : Nat := if b then 1 else 0

/-- A byte whose fields lie from bit 0 upward. -/
def byteOf (fields : List (Nat × Nat)) : Byte := BitVec.ofNat 8 (packBits fields)

/-- A number as one byte (R215). -/
def oneByte (n : Nat) : Byte := BitVec.ofNat 8 n

/-- The value of little-endian bytes (R215). -/
def leValue : List Byte → Nat
  | [] => 0
  | b :: rest => b.toNat + 256 * leValue rest

/-- The `count` little-endian bytes of a number (R215). -/
def leBytes : Nat → Nat → List Byte
  | 0, _ => []
  | count + 1, n => oneByte n :: leBytes count (n / 256)

/-- Byte `k` of the data as a number; bytes beyond the end read as 0. -/
def byteNat (data : List Byte) (k : Nat) : Nat := (data.getD k 0).toNat

/-- The check byte that makes the sum of a record 0 modulo 256 (12 section 12.6). -/
def checkByte (body : List Byte) : Byte := oneByte (256 - (body.map BitVec.toNat).sum % 256)

/-- Whether a record's bytes, check byte included, sum to 0 modulo 256 (12 section 12.6). -/
def checkHolds (record : List Byte) : Bool := (record.map BitVec.toNat).sum % 256 == 0

/-! ## Codes (12 section 12.1) -/

def closureCode : Closure → Nat
  | .fl => 0
  | .fr => 1
  | .rl => 2
  | .rr => 3
  | .tg => 4

/-- Closure codes with NONE 7. -/
def optClosureCode : Option Closure → Nat
  | some c => closureCode c
  | none => 7

def windowCode : WindowId → Nat
  | .fl => 0
  | .fr => 1
  | .rl => 2
  | .rr => 3

def windowOfCode : Nat → Option WindowId
  | 0 => some .fl
  | 1 => some .fr
  | 2 => some .rl
  | 3 => some .rr
  | _ => none

def rearOfCode : Nat → Option RearDoor
  | 2 => some .rl
  | 3 => some .rr
  | _ => none

def lockTargetCode : LockTarget → Nat
  | .unlocked => 0
  | .locked => 1
  | .deadlocked => 2

def lockSensedCode : LockSensed → Nat
  | .unlocked => 0
  | .locked => 1
  | .deadlocked => 2
  | .between => 3
  | .unknown => 4

def lockSensedOfCode : Nat → Option LockSensed
  | 0 => some .unlocked
  | 1 => some .locked
  | 2 => some .deadlocked
  | 3 => some .between
  | 4 => some .unknown
  | _ => none

def lockPhaseCode : LockPhase → Nat
  | .idle => 0
  | .driving => 1
  | .settling => 2
  | .retrying => 3
  | .fault => 4

/-- Child phases share the lock phases' codes. -/
def childPhaseCode : ChildPhase → Nat
  | .idle => 0
  | .driving => 1
  | .settling => 2
  | .fault => 4

def latchCode : Latch → Nat
  | .shut => 0
  | .ajar => 1
  | .unknown => 2

def childTargetCode : ChildTarget → Nat
  | .disengaged => 0
  | .engaged => 1

def childTargetOfCode : Nat → Option ChildTarget
  | 0 => some .disengaged
  | 1 => some .engaged
  | _ => none

def childSensedCode : ChildSensed → Nat
  | .disengaged => 0
  | .engaged => 1
  | .unknown => 2

def childSensedOfCode : Nat → Option ChildSensed
  | 0 => some .disengaged
  | 1 => some .engaged
  | 2 => some .unknown
  | _ => none

def switchCode : Switch → Nat
  | .none => 0
  | .up => 1
  | .upAuto => 2
  | .down => 3
  | .downAuto => 4

def switchOfCode : Nat → Option Switch
  | 0 => some .none
  | 1 => some .up
  | 2 => some .upAuto
  | 3 => some .down
  | 4 => some .downAuto
  | _ => none

def lockSwitchCode : LockSwitch → Nat
  | .none => 0
  | .lock => 1
  | .unlock => 2

def lockSwitchOfCode : Nat → Option LockSwitch
  | 0 => some .none
  | 1 => some .lock
  | 2 => some .unlock
  | _ => none

def patternCode : Pattern → Nat
  | .off => 0
  | .slow => 1
  | .fast => 2
  | .steady => 3

def lockCommandCode : LockCommand → Nat
  | .idle => 0
  | .lockPulse => 1
  | .unlockPulse => 2
  | .deadlockPulse => 3
  | .abandon => 4

def childCommandCode : ChildCommand → Nat
  | .engage => 1
  | .disengage => 2

def motorCode : MotorCommand → Nat
  | .stop => 0
  | .up => 1
  | .down => 2

def lockRefusalCode : Option LockRefusal → Nat
  | none => 0
  | some .budget => 1
  | some .crashHold => 2
  | some .ajar => 3
  | some .moving => 4
  | some .locked => 5
  | some .keyInside => 6

def faultClassCode : FaultClass → Nat
  | .linkLost => 0
  | .nodeFault => 1
  | .lockFault => 2
  | .childFault => 3
  | .runtime => 4
  | .pinch => 5
  | .storeFail => 6
  | .storeBlank => 7
  | .txOverflow => 8
  | .trapOverflow => 9
  | .passOverflow => 10
  | .busOff => 11
  | .replay => 12
  | .late => 13

/-- The results of a management response (11 section 11.2, 12 section 12.1). -/
inductive Result where
  | ok | busy | starting | protected_ | range | duplicate | noTicket | unknown
  deriving DecidableEq, Repr

def resultCode : Result → Nat
  | .ok => 0
  | .busy => 1
  | .starting => 2
  | .protected_ => 3
  | .range => 4
  | .duplicate => 5
  | .noTicket => 6
  | .unknown => 7

def opStateCode : OpState → Nat
  | .starting => 0
  | .awake => 1
  | .parked => 2
  | .deep => 3

/-- LOAD 0 to RUN 4 (12 section 12.2). -/
def stageCode : Stage → Nat
  | .off => 0
  | .load => 0
  | .listen => 1
  | .poll => 2
  | .sense => 3
  | .run => 4

def pinchCauseCode : PinchCause → Nat
  | .excess => 1
  | .current => 2
  | .block => 3

def purposeCode : Purpose → Nat
  | .unlock => 0
  | .lock => 1
  | .tailgate => 2

def searchOutcomeCode : SearchOutcome → Nat
  | .keyOutside => 0
  | .keyInside => 1
  | .noKey => 2
  | .moduleError => 3
  | .superseded => 4
  | .disabled => 5

def kindLabelCode : KindLabel → Nat
  | .comfortClose => 0
  | .comfortOpen => 1
  | .vent => 2
  | .parkClose => 3

def opSourceCode : OpSource → Nat
  | .fob i => i
  | .body => 8
  | .management => 9

/-- COMPLETE 0, then the abort causes (12 section 12.5). -/
def opOutcomeCode : Option AbortCause → Nat
  | none => 0
  | some .superseded => 1
  | some .pinchAbort => 2
  | some .leaseLost => 3
  | some .crashAbort => 4
  | some .cancelled => 5

def stepStatusCode : StepStatus → Nat
  | .pending => 0
  | .issued => 1
  | .done => 2
  | .skipped => 3
  | .overridden => 4
  | .pinched => 5
  | .cancelled => 6

/-- The action codes of word 0 of a rule (12 section 12.7). -/
def actionCode : Action → Nat
  | .pass => 0
  | .request => 1
  | .context => 2
  | .fob => 3
  | .search => 4
  | .trap => 5
  | .drop => 6

def actionOfCode : Nat → Option Action
  | 0 => some .pass
  | 1 => some .request
  | 2 => some .context
  | 3 => some .fob
  | 4 => some .search
  | 5 => some .trap
  | 6 => some .drop
  | _ => none

/-! ## Node Report (12 section 12.6, R217 D) -/

/-- The fields of a record whose length and check byte hold; `none` where a field holds a code outside its set. -/
def readReportFields (r : List Byte) : Option Report := do
  let b0 := byteNat r 0
  let b1 := byteNat r 1
  let pack := leValue (r.drop 3 |>.take 2)
  let b5 := byteNat r 5
  let b8 := byteNat r 8
  let lockSensed ← lockSensedOfCode (bitsOf b0 1 3)
  let childSensed ← childSensedOfCode (bitsOf b0 4 2)
  let own ← switchOfCode (bitsOf (byteNat r 2) 0 3)
  let fl ← switchOfCode (bitsOf pack 0 3)
  let fr ← switchOfCode (bitsOf pack 3 3)
  let rl ← switchOfCode (bitsOf pack 6 3)
  let rr ← switchOfCode (bitsOf pack 9 3)
  let central ← lockSwitchOfCode (bitsOf pack 12 2)
  let cylinder ← lockSwitchOfCode (bitsOf pack 14 2)
  if byteNat r 6 < 64 ∧ bitsOf b8 0 4 ≤ 8 then
    some
      { pulseActive := bitOf b0 0, lockSensed := lockSensed, childSensed := childSensed, ajar := bitOf b0 6
        touchUnlock := bitOf b1 0, touchLock := bitOf b1 1, releaseButton := bitOf b1 2, ownSwitch := own
        pack := ⟨fl, fr, rl, rr⟩, central := central, childButton := bitOf b5 0, lockoutButton := bitOf b5 1
        keyCylinder := cylinder, ripple := byteNat r 6, current := byteNat r 7, overtemp := bitOf b1 3
        openLoad := bitOf b1 4, lowSupply := bitOf b1 5
        uplink := if bitOf b8 7 then some ((r.drop 9).take (bitsOf b8 0 4)) else none }
  else none

/-- A Node Report as it is read; `none` for a record that is not a good report (R217 D). Without uplink present the record
states no uplink, whatever its length bits hold (log entry 84). -/
def readReport (r : List Byte) : Option Report :=
  let uplinkLength := if bitOf (byteNat r 8) 7 then bitsOf (byteNat r 8) 0 4 else 0
  if r.length < 10 + uplinkLength ∨ checkHolds r = false then none else readReportFields r

/-! ## Node Drive (12 section 12.6) -/

/-- The bytes of a Node Drive, check byte included. -/
def driveBytes (d : NodeDrive) : List Byte :=
  let head :=
    [byteOf [(3, lockCommandCode d.lock), (2, (d.child.map childCommandCode).getD 0), (1, flagBit d.release),
        (2, motorCode d.motor)],
     oneByte d.pulseSteps,
     byteOf [(2, patternCode d.lockLamp), (2, patternCode d.childLamp), (2, patternCode d.lockoutLamp)]]
  let body :=
    match d.payload with
    | none => head ++ [0]
    | some f => head ++ [byteOf [(4, f.data.length), (3, 0), (1, 1)]] ++ leBytes 2 f.id.toNat ++ f.data
  body ++ [checkByte body]

/-! ## Key frames (12 section 12.3) -/

/-- A fob telegram (05 section 5.2). -/
structure Telegram where
  serial : Nat
  counter : Nat
  button : Button
  repeatNumber : Nat
  batteryLow : Bool
  deriving DecidableEq, Repr

/-- `none` for a frame shorter than 8 bytes or with button code 0 (R217 B). -/
def readTelegram (data : List Byte) : Option Telegram :=
  let middle := leValue (data.drop 4 |>.take 3)
  let button :=
    match bitsOf middle 20 2 with
    | 1 => some Button.lock
    | 2 => some Button.unlock
    | 3 => some Button.tailgate
    | _ => none
  if data.length < 8 then none
  else button.map fun b =>
    { serial := leValue (data.take 4), counter := bitsOf middle 0 20, button := b, repeatNumber := byteNat data 7
      batteryLow := bitOf middle 22 }

/-- A Search Response (06 section 6.4). -/
structure SearchResponse where
  tag : Nat
  error : Bool
  outside : Nat
  inside : Nat
  deriving DecidableEq, Repr

/-- `none` for a frame shorter than 3 bytes (R217 C). -/
def readSearchResponse (data : List Byte) : Option SearchResponse :=
  if data.length < 3 then none
  else
    some
      { tag := bitsOf (byteNat data 0) 0 4, error := bitOf (byteNat data 0) 7, outside := byteNat data 1
        inside := byteNat data 2 }

/-- The data of a Search Request frame (12 section 12.3). -/
def searchRequestData (slot : SearchSlot) : List Byte :=
  [oneByte (closureCode slot.closure), byteOf [(4, slot.tag), (2, purposeCode slot.purpose)]]

/-! ## Management frames (12 section 12.2, R217 A) -/

/-- The kinds of a management REQUEST with their arguments as the frame carries them. -/
inductive RequestKind where
  | lock (kind : LockKind)
  | releaseTailgate
  | crashClear
  | childSet (closure childState : Nat)
  | clearNormalized (window : Nat)
  | windowMove (window count : Nat)
  | windowStop (window : Nat)
  | operationStart (descriptor : Nat)
  | operationCancel
  | outside
  deriving DecidableEq, Repr

/-- A management request as it is read. -/
inductive ManagementRequest where
  | select (table index word : Nat)
  | read
  | write (value : Word)
  | mask (bits : Word)
  | release (ticket : Nat)
  | discard (ticket : Nat)
  | request (kind : RequestKind)
  | clearWake (lines : Nat)
  | faults
  | clearFaults
  | save
  | protect (readFlags writeFlags lockByte : Nat)
  | restart
  | status
  | unknown (code : Nat)
  deriving DecidableEq, Repr

/-- The command code a response repeats: the request's, or 00h (12 section 12.2). -/
def requestCode : ManagementRequest → Nat
  | .select .. => 0x01
  | .read => 0x02
  | .write _ => 0x03
  | .mask _ => 0x04
  | .release _ => 0x05
  | .discard _ => 0x06
  | .request _ => 0x07
  | .clearWake _ => 0x08
  | .faults => 0x09
  | .clearFaults => 0x0A
  | .save => 0x0B
  | .protect .. => 0x0C
  | .restart => 0x0D
  | .status => 0x0E
  | .unknown code => code

/-- The REQUEST kind in byte 1, with its arguments from bytes 2 to 4 (12 section 12.2). -/
def readRequestKind (data : List Byte) : RequestKind :=
  let b2 := byteNat data 2
  match byteNat data 1 with
  | 1 => .lock .lockAll
  | 2 => .lock .unlockAll
  | 3 => .lock .unlockDriver
  | 4 => .lock .deadlockAll
  | 5 => .lock .unlockTailgate
  | 6 => .releaseTailgate
  | 7 => .lock .crashUnlock
  | 8 => .crashClear
  | 9 => .childSet b2 (byteNat data 3)
  | 10 => .clearNormalized b2
  | 11 => .windowMove b2 (leValue (data.drop 3 |>.take 2))
  | 12 => .windowStop b2
  | 13 => .operationStart b2
  | 14 => .operationCancel
  | _ => .outside

/-- A request frame as it is read: UNKNOWN for an empty frame, for one whose byte 0 is no command code and for one
shorter than its command (R217 A). Bytes beyond the command's length are passed over. -/
def readRequest (data : List Byte) : ManagementRequest :=
  let code := byteNat data 0
  let least (n : Nat) (r : ManagementRequest) : ManagementRequest := if data.length < n then .unknown code else r
  let word : Word := BitVec.ofNat 32 (leValue (data.drop 1 |>.take 4))
  match code with
  | 0x01 => least 4 (.select (byteNat data 1) (byteNat data 2) (byteNat data 3))
  | 0x02 => .read
  | 0x03 => least 5 (.write word)
  | 0x04 => least 5 (.mask word)
  | 0x05 => least 2 (.release (byteNat data 1))
  | 0x06 => least 2 (.discard (byteNat data 1))
  | 0x07 => least 5 (.request (readRequestKind data))
  | 0x08 => least 2 (.clearWake (byteNat data 1))
  | 0x09 => .faults
  | 0x0A => .clearFaults
  | 0x0B => .save
  | 0x0C => least 4 (.protect (byteNat data 1) (byteNat data 2) (byteNat data 3))
  | 0x0D => .restart
  | 0x0E => .status
  | _ => .unknown code

/-- The 8 data bytes of a response (12 section 12.2): code, result and bytes 2 to 7, short tails filled with 0. -/
def responseData (code : Nat) (result : Result) (tail : List Byte) : List Byte :=
  [oneByte code, oneByte (resultCode result)] ++ (tail ++ List.replicate 6 0).take 6

/-! ## Notices (12 section 12.5) -/

/-- The 8 data bytes of a notice of the given type. -/
def noticeData (type : Nat) (tail : List Byte) : List Byte := oneByte type :: (tail ++ List.replicate 7 0).take 7

/-- What a PINCH notice carries besides class, count and closure (R85 E). -/
structure PinchDetail where
  zone : Nat
  position : Nat
  cause : PinchCause
  compensated : Nat
  pinchCount : Nat
  deriving DecidableEq, Repr

def faultNoticeData (cls : FaultClass) (rec : FaultRecord) : Option PinchDetail → List Byte
  | none => noticeData 1 [oneByte (faultClassCode cls), oneByte rec.count, byteOf [(4, optClosureCode rec.last)]]
  | some d =>
    noticeData 1
      ([oneByte (faultClassCode cls), oneByte rec.count, byteOf [(4, optClosureCode rec.last), (4, d.zone)]]
        ++ leBytes 2 (packBits [(13, d.position), (2, pinchCauseCode d.cause)])
        ++ [oneByte d.compensated, oneByte d.pinchCount])

/-- HELD 0, EXPIRED 1 (12 section 12.5). -/
def trapNoticeData (expired : Bool) (f : HeldFrame) : List Byte :=
  noticeData 2 ([oneByte (flagBit expired), oneByte f.ticket] ++ leBytes 2 f.id.toNat ++ [oneByte f.rule])

def searchNoticeData (r : SearchRecord) : List Byte :=
  noticeData 3
    [oneByte (closureCode r.closure), oneByte (purposeCode r.purpose), oneByte r.tag,
     oneByte (searchOutcomeCode r.outcome), oneByte (r.fob.getD 0xFF)]

/-- One byte per step, FFh for no step (12 section 12.5). -/
def stepByte : Option OpStep → Byte
  | none => 0xFF
  | some st => byteOf [(2, windowCode st.window), (2, 0), (3, stepStatusCode st.status)]

def operationNoticeData (o : LastOp) : List Byte :=
  noticeData 4
    [byteOf [(2, o.descriptor), (2, 0), (2, kindLabelCode o.kind)], oneByte (opSourceCode o.source),
     oneByte (opOutcomeCode o.outcome), stepByte o.steps[0]?, stepByte o.steps[1]?, stepByte o.steps[2]?,
     stepByte o.steps[3]?]

/-- The three strap levels in bits 0 to 2 (12 section 12.5). -/
def strapBits (p : Straps) : List (Nat × Nat) := [(1, flagBit p.s0), (1, flagBit p.s1), (1, flagBit p.s2)]

def startedNoticeData (kind : ResetKind) (base : CanId) (straps : Straps) (blank cellSet : Bool) : List Byte :=
  noticeData 5
    ([oneByte (match kind with | .powerOn => 0 | .restart => 1)] ++ leBytes 2 base.toNat
      ++ [byteOf (strapBits straps), byteOf [(1, flagBit blank), (1, flagBit cellSet)]])

end Sys2Proof.Machine
end

