-- ==== Sys2Proof/Machine/Ops.lean ====
section
/-!
DEFINITION. The operations every block uses: the passing of time, the Body Transmit Queue (R160), raising a fault class
(R205), activity events and the idle deadline (R187), and reading the records that several blocks consult.
-/

namespace Sys2Proof.Machine

/-! ## Time -/

/-- The time that passes before a command (log entry 1). -/
def elapse (dt : Nat) (s : State) : State := { s with now := s.now + dt }

/-- The clock at a deadline that is now taken: a deadline step is the deadline's passing, so the clock is not before
it (log entry 2). -/
def reach (deadline : Nat) (s : State) : State := { s with now := max s.now deadline }

/-- A deadline that is present and has not passed. -/
def live (now : Nat) : Option Nat → Bool
  | some d => now ≤ d
  | none => false

/-! ## Reading the records -/

/-- Start-up has reached RUN. -/
def running (s : State) : Bool := s.stage == .run

def isAwake (s : State) : Bool := s.ctx.state == .awake

/-- PARKED or DEEP: the states from which a wake raises the part (R192). -/
def isAsleep (s : State) : Bool := s.ctx.state == .parked || s.ctx.state == .deep

/-- The driver closure, as Driver Side names it now (00_scope 2). -/
def driverClosure (s : State) : Closure :=
  match s.cfg.car.driverSide with
  | .fl => .fl
  | .fr => .fr

def channel (s : State) (c : Closure) : Channel := s.channels.get c

def setChannel (c : Closure) (ch : Channel) (s : State) : State := { s with channels := s.channels.set c ch }

def closure (s : State) (c : Closure) : ClosureLock := s.closures.get c

def setClosure (c : Closure) (k : ClosureLock) (s : State) : State := { s with closures := s.closures.set c k }

def child (s : State) (d : RearDoor) : ChildLock := s.children.get d

def setChild (d : RearDoor) (k : ChildLock) (s : State) : State := { s with children := s.children.set d k }

def window (s : State) (w : WindowId) : Window := s.windows.get w

def setWindow (w : WindowId) (x : Window) (s : State) : State := { s with windows := s.windows.set w x }

def windowCfg (s : State) (w : WindowId) : WindowSettings := s.cfg.windows.get w

/-- The channel is held at OFF by its mode (R176). -/
def forcedOff (s : State) (c : Closure) : Bool := s.cfg.modes.get c == .forcedOff

/-- The node has been declared LOST and has not recovered (R173). -/
def nodeLost (s : State) (c : Closure) : Bool := (channel s c).link == .lost

/-- The channel runs no cycles. -/
def channelOff (s : State) (c : Closure) : Bool := (channel s c).rate == .off

/-- The speed is fresh (R180). -/
def speedFresh (s : State) : Bool := live s.now s.ctx.speedFresh

/-- The voltage is fresh (R180). -/
def voltageFresh (s : State) : Bool := live s.now s.ctx.voltageFresh

/-- The latch of some closure is AJAR; UNKNOWN does not count (R7, R187). -/
def anyAjar (s : State) : Bool := allClosures.any fun c => (closure s c).latch == .ajar

/-! ## Body Transmit Queue (R160) -/

/-- Whether an offered frame replaces a queued one: a status page an older page with its identifier (and no fault notice
that shares the identifier: log entry 68), a fault notice one of its class, and never a frame whose transmission has begun
(R160 A). -/
def replaces (new old : TxFrame) : Bool :=
  !old.started &&
    match new.kind, old.kind with
    | .statusPage, .statusPage => new.id == old.id
    | .faultNotice c, .faultNotice d => c == d
    | _, _ => false

/-- The queue after an offer; `none` where the frame can neither replace nor join (R160 A to C). Of two frames that it
could replace it replaces the first in the queue (log entry 67). -/
def enqueue (f : TxFrame) (q : List TxFrame) : Option (List TxFrame) :=
  match q.findIdx? (replaces f) with
  | some k => some (q.set k f)
  | none => if q.length < Config.txPlaces then some (q ++ [f]) else none

/-- Before RUN the queue takes management responses alone (R160). -/
def txTakes (s : State) (f : TxFrame) : Bool := running s || f.kind == .response

/-! ## Fault table (R205) -/

def faultRecord (s : State) (cls : FaultClass) : FaultRecord := s.faults.getD (faultClassCode cls) .clear

def reportSetting (s : State) (cls : FaultClass) : ReportSetting :=
  s.cfg.report.getD (faultClassCode cls) ⟨false, .notice⟩

/-- The count, last closure and attention flag of a raise (R205). -/
def countFault (cls : FaultClass) (who : Option Closure) (s : State) : State :=
  let old := faultRecord s cls
  let flag := (reportSetting s cls).route == .noticeAndFlag
  { s with
    faults := s.faults.set (faultClassCode cls) ⟨min 255 (old.count + 1), who, old.attention || flag⟩ }

/-- The identifier of notices, B+2 (11 section 11.1). -/
def noticeId (s : State) : CanId := s.mgmt.base + 2#11

/-- The identifier of responses, B+1 (11 section 11.1). -/
def responseId (s : State) : CanId := s.mgmt.base + 1#11

/-- The notice of a raise, as the fault table stands after it (R205). -/
def faultNotice (cls : FaultClass) (detail : Option PinchDetail) (s : State) : TxFrame :=
  { kind := .faultNotice cls, id := noticeId s, data := faultNoticeData cls (faultRecord s cls) detail
    started := false }

/-- A frame dropped by the full queue raises TX_OVERFLOW, whose own notice is dropped without a second raise where it
can neither replace nor join (R160 C). -/
def raiseTxOverflow (s : State) : State :=
  let s := countFault .txOverflow none s
  let notice := faultNotice .txOverflow none s
  if (reportSetting s .txOverflow).masked || !txTakes s notice then s
  else
    match enqueue notice s.tx with
    | some q => { s with tx := q }
    | none => s

/-- Offering a frame to the Body Transmit Queue (R160). -/
def offer (f : TxFrame) (s : State) : State :=
  if txTakes s f then
    match enqueue f s.tx with
    | some q => { s with tx := q }
    | none => raiseTxOverflow s
  else s

/-- A notice other than a fault notice, offered on B+2; it replaces nothing and is never replaced (R160 A). -/
def offerNotice (data : List Byte) (s : State) : State :=
  offer { kind := .other, id := noticeId s, data := data, started := false } s

/-- Raising a fault class with a closure or NONE (R205); a PINCH carries its detail (R85 E). -/
def raiseWith (detail : Option PinchDetail) (cls : FaultClass) (who : Option Closure) (s : State) : State :=
  let s := countFault cls who s
  if (reportSetting s cls).masked then s else offer (faultNotice cls detail s) s

/-- Raising a fault class (R205). -/
def raise (cls : FaultClass) (who : Option Closure) (s : State) : State := raiseWith none cls who s

/-! ## Activity and the idle deadline (R187) -/

/-- The idle deadline that follows from the last activity: the Park Delay after it, or 600 s while a latch is AJAR. -/
def idleDeadlineOf (s : State) : Nat :=
  s.ctx.lastActivity + if anyAjar s then Config.ajarDelay else s.cfg.car.parkDelay * 1000

/-- The idle deadline computed afresh (R187). -/
def recomputeIdle (s : State) : State := { s with ctx := { s.ctx with idleDeadline := idleDeadlineOf s } }

/-- An activity event, taken from RUN on (R187). -/
def activity (s : State) : State :=
  if running s then recomputeIdle { s with ctx := { s.ctx with lastActivity := s.now } } else s

/-! ## Awake holds (R188) -/

def windowMoving (x : Window) : Bool :=
  x.state == .movingManual || x.state == .movingAuto || x.state == .reversing

/-- A closure in DRIVING, SETTLING or RETRYING keeps the group busy (01 section 1.3). -/
def closureBusy (k : ClosureLock) : Bool :=
  k.phase == .driving || k.phase == .settling || k.phase == .retrying

def childBusy (k : ChildLock) : Bool := k.phase == .driving || k.phase == .settling

def groupBusy (s : State) : Bool := allClosures.any fun c => closureBusy (closure s c)

/-- The seven conditions of R188, in its order A to G. -/
def holdFlags (s : State) : List Bool :=
  [allWindows.any fun w => (window s w).state == .waiting || windowMoving (window s w),
   groupBusy s || s.group.slot.isSome || s.release.deadline.isSome,
   allRearDoors.any fun d => childBusy (child s d),
   s.op.active.isSome,
   s.search.slots.any Option.isSome,
   !s.trap.held.isEmpty,
   s.motion.retained.isSome]

/-- An awake hold is present (R188). -/
def awakeHold (s : State) : Bool := (holdFlags s).any id

end Sys2Proof.Machine
end

