-- ==== Sys2Proof/Machine/WindowRecords.lean ====
section
/-!
DEFINITION. The Window record by itself: heat (03 section 3.8), the current limit and the effective target (R37, R45),
and how a motion or a waiting entry leaves the record, the Motion Queue and the slots (R58, R60, R63). Handing an
outcome to the Operation Engine stands in OperationEngine.lean, above this file.
-/

namespace Sys2Proof.Machine

/-! ## Heat (R64, R65) -/

/-- The heat of a report that answers a running motor (R64 A, R65). -/
def heatUp (now : Nat) (x : Window) : Window :=
  let heat := min Config.heatMax (x.heat + 4)
  { x with heat := heat, heatStamp := now, hot := x.hot || Config.hotSet ≤ heat }

/-- The decay since the heat stamp, one unit for each whole 10 ms; the remainder is carried (R64 B, R65). -/
def heatDecay (now : Nat) (x : Window) : Window :=
  let units := (now - x.heatStamp) / 10
  let heat := x.heat - units
  { x with heat := heat, heatStamp := x.heatStamp + 10 * units, hot := x.hot && Config.hotClear < heat }

/-- The motor runs while the last drive carried UP or DOWN (R43). -/
def motorRunning (x : Window) : Bool := x.lastDrive != .stop

/-- The decay for elapsed off time, outside a report (R64 C). A window whose last drive carried UP or DOWN has no off
time, also where its channel has since stopped (log entry 54). -/
def heatRest (now : Nat) (x : Window) : Window := if motorRunning x then x else heatDecay now x

/-! ## Limits and targets (R37, R45) -/

/-- The current limit: the Open Limit, or the lesser of it and the Child Open Limit on a rear window whose child-lock
target is ENGAGED (R37). -/
def currentLimit (s : State) (w : WindowId) : Nat :=
  match windowRear w with
  | some d =>
    match (child s d).target with
    | .engaged => min (windowCfg s w).openLimit (s.cfg.childOpenLimit.get d)
    | .disengaged => (windowCfg s w).openLimit
  | none => (windowCfg s w).openLimit

/-- The effective target (R45). -/
def effectiveTarget (s : State) (w : WindowId) : Nat := min (window s w).requested (currentLimit s w)

/-- OWN_SWITCH and DRIVER_PACK (03 section 3.1). -/
def switchOrigin : Option Origin → Bool
  | some .ownSwitch => true
  | some .driverPack => true
  | _ => false

/-- FOB_OPERATION and OPERATION (03 section 3.1). -/
def operationOrigin : Option Origin → Bool
  | some .fobOperation => true
  | some .operation => true
  | _ => false

/-- MOVING_MANUAL or MOVING_AUTO: a motion that is no reversal. -/
def inMotion (x : Window) : Bool := x.state == .movingManual || x.state == .movingAuto

/-! ## The Motion Queue and the slots (R58, R59) -/

/-- The queue, head first: every switch-origin entry before every other (R59). -/
def motionQueue (s : State) : List WindowId := s.motion.switchQueue ++ s.motion.otherQueue

def dequeue (w : WindowId) (m : Motion) : Motion :=
  { m with switchQueue := m.switchQueue.filter (· != w), otherQueue := m.otherQueue.filter (· != w) }

/-- An entry joins the tail of its class (R59). -/
def enqueueMotion (w : WindowId) (switchClass : Bool) (m : Motion) : Motion :=
  if switchClass then { m with switchQueue := m.switchQueue ++ [w] } else { m with otherQueue := m.otherQueue ++ [w] }

/-- A motion has ended: its slot waits for the first STOP drive, or is free at once where no drive will come (R58). -/
def endSlot (w : WindowId) (channelOff : Bool) (slots : List Slot) : List Slot :=
  if channelOff then slots.filter (fun sl => sl.window != w)
  else slots.map fun sl => if sl.window == w then { sl with ending := true } else sl

/-- The first STOP drive frees the slots that waited for it (R58). -/
def freeEnded (w : WindowId) (slots : List Slot) : List Slot :=
  slots.filter fun sl => !(sl.window == w && sl.ending)

/-! ## The end of a motion (R63) -/

/-- P becomes travel and normalized becomes clear (R57). -/
def unnormalize (travel : Nat) (x : Window) : Window :=
  { x with position := travel, normalized := false, clearPending := false }

/-- The record of a window whose motion or reversal ends. The outcome is absent for a reversal that ran its course,
which leaves last outcome as it was (R86). A pending clear is made, however a reversal ends (R57). -/
def endedRecord (travel : Nat) (outcome : Option MotionOutcome) (x : Window) : Window :=
  let y :=
    { x with
      state := if outcome == some .lost then .fault else .idle
      lastOutcome := outcome <|> x.lastOutcome
      origin := none, held := false, normHold := none, runStart := none, reversalTarget := none, stopDue := true }
  if x.clearPending then unnormalize travel y else y

/-- A running motion or a reversal ends where it is (R58, R63). -/
def endRunning (w : WindowId) (outcome : Option MotionOutcome) (s : State) : State :=
  let s := setWindow w (endedRecord (windowCfg s w).travel outcome (window s w)) s
  { s with motion := { s.motion with slots := endSlot w (channelOff s (windowClosure w)) s.motion.slots } }

/-- A waiting entry is removed and its window becomes IDLE, or FAULT after a loss (R60, R63). -/
def endWaiting (w : WindowId) (outcome : MotionOutcome) (s : State) : State :=
  let x := window s w
  let y :=
    { x with
      state := if outcome == .lost then .fault else .idle
      lastOutcome := some outcome, origin := none, held := false }
  let s := setWindow w y s
  { s with motion := dequeue w s.motion }

/-- A motion or a waiting entry ends with the outcome; a window with neither is left alone. -/
def endMotionRecord (w : WindowId) (outcome : MotionOutcome) (s : State) : State :=
  if (window s w).state == .waiting then endWaiting w outcome s
  else if windowMoving (window s w) then endRunning w (some outcome) s
  else s

end Sys2Proof.Machine
end

