-- ==== Sys2Proof/Machine/StatusPages.lean ====
section
/-!
DEFINITION. The closure status frame: its four pages (12 section 12.4), built from one snapshot of the records (R162),
and their offer to the Body Transmit Queue (R163).
-/

namespace Sys2Proof.Machine

/-- A count as a percentage of travel (R162). -/
def percentOf (travel x : Nat) : Nat := (x * 100 + travel / 2) / travel

/-- Page 0: locks and latches. -/
def page0 (s : State) : List Byte :=
  let lockByte (c : Closure) : Byte :=
    let k := closure s c
    byteOf [(2, lockTargetCode k.target), (3, lockSensedCode k.sensed), (3, lockPhaseCode k.phase)]
  let latch (c : Closure) : Nat × Nat := (2, latchCode (closure s c).latch)
  let opened (c : Closure) : Nat × Nat := (1, flagBit (closure s c).openedSinceUnlock)
  allClosures.map lockByte
    ++ [byteOf [latch .fl, latch .fr, latch .rl, latch .rr], byteOf (latch .tg :: allClosures.map opened), 0]

/-- Page 1: child locks, lockout, crash hold, part state, last refusal and tokens. -/
def page1 (s : State) : List Byte :=
  let childByte (d : RearDoor) : Byte :=
    let k := child s d
    byteOf [(1, childTargetCode k.target), (2, childSensedCode k.sensed), (3, childPhaseCode k.phase)]
  allRearDoors.map childByte
    ++ [byteOf [(1, flagBit s.cfg.car.lockout), (1, flagBit s.group.crashHold.isSome),
          (1, flagBit (s.ctx.state == .parked))],
        oneByte (lockRefusalCode s.group.lastRefusal), oneByte s.group.tokens, 0, 0, 0]

/-- The four bytes of one window on page 2 or 3. -/
def windowBytes (s : State) (w : WindowId) : List Byte :=
  let x := window s w
  let percent (n : Nat) : Byte := oneByte (percentOf (windowCfg s w).travel n)
  [percent x.position, percent x.requested, percent (effectiveTarget s w),
   byteOf [(1, flagBit x.hot), (1, flagBit x.pinchFlag), (1, flagBit (x.state == .fault))]]

/-- The four pages, in page order (R162). -/
def statusPages (s : State) : List (List Byte) :=
  [page0 s, page1 s, windowBytes s .fl ++ windowBytes s .fr, windowBytes s .rl ++ windowBytes s .rr]

/-- Page `k` as a frame on S + k (08 section 8.9). -/
def pageFrame (s : State) (k : Nat) (data : List Byte) : TxFrame :=
  { kind := .statusPage, id := s.cfg.frame.statusId + BitVec.ofNat 11 k, data := data, started := false }

/-- The four pages of one snapshot are offered in page order (R162, R163). -/
def offerPages (s : State) : State :=
  (statusPages s).zipIdx.foldl (fun t p => offer (pageFrame s p.2 p.1) t) s

/-- The pages are offered at once, in AWAKE or PARKED, without moving the period: the ajar warning (R163 C). -/
def offerPagesNow (s : State) : State :=
  if running s && (isAwake s || s.ctx.state == .parked) then offerPages s else s

end Sys2Proof.Machine
end

