-- ==== Sys2Proof/Machine/Drives.lean ====
section
/-!
DEFINITION. What goes out to the nodes: lamp patterns (02 section 2.5), the Node Drive built when it is sent (R43,
R167) with all that its sending starts, and the channel rates with their changes (R166, R176).
-/

namespace Sys2Proof.Machine

/-! ## Lamps -/

/-- The base pattern of the lock lamp: SLOW while all four side doors are sensed DEADLOCKED (R40). -/
def basePattern (s : State) : Pattern :=
  if [Closure.fl, .fr, .rl, .rr].all (fun c => (closure s c).sensed == .deadlocked) then .slow else .off

/-- The lock lamp: the timed pattern while one is present, and otherwise the base pattern (R39, R40). -/
def lockLamp (s : State) : Pattern :=
  match s.timed with
  | some t => t.pattern
  | none => basePattern s

/-- The child lamp (R41). -/
def childLamp (s : State) : Pattern :=
  if allRearDoors.any (fun d => (child s d).phase == .fault) then .fast
  else
    match (child s .rl).target, (child s .rr).target with
    | .engaged, .engaged => .steady
    | .disengaged, .disengaged => .off
    | _, _ => .slow

/-- The lockout lamp (R41). -/
def lockoutLamp (s : State) : Pattern := if s.cfg.car.lockout then .steady else .off

/-- The three patterns a channel carries: the lock lamp on the side doors, the other two on the driver closure's
channel, and none on TG (02 section 2.5). -/
def channelLamps (s : State) (c : Closure) : Pattern × Pattern × Pattern :=
  (if c == .tg then .off else lockLamp s,
   if c == driverClosure s then childLamp s else .off,
   if c == driverClosure s then lockoutLamp s else .off)

/-- The Lock Controller's statement to the Context Monitor: some lamp on the channel is not OFF (R38). -/
def lampLit (s : State) (c : Closure) : Bool :=
  let p := channelLamps s c
  p.1 != .off || p.2.1 != .off || p.2.2 != .off

/-- The patterns a drive carries: OFF before RUN and in DEEP (R38). -/
def driveLamps (s : State) (c : Closure) : Pattern × Pattern × Pattern :=
  if running s && s.ctx.state != .deep then channelLamps s c else (.off, .off, .off)

/-! ## Motor command (R43) -/

/-- The motor command of the next drive: a motion's direction; STOP once after a motion's end and once at a change of
direction, which a replacement notes in `stopDue` and a reversal shows by the last drive; STOP with no motion (R43). -/
def motorCommand (x : Window) : MotorCommand :=
  if windowMoving x && !x.stopDue then
    match x.direction, x.lastDrive with
    | .up, .down => .stop
    | .up, _ => .up
    | .down, .up => .stop
    | .down, _ => .down
  else .stop

/-- The direction in which a motor command moves the window. -/
def commandDirection : MotorCommand → Option Direction
  | .stop => none
  | .up => some .up
  | .down => some .down

/-- The counters that a motor start sets afresh (R71). -/
def motorStart (now : Nat) (x : Window) : Window :=
  { x with
    runCounter := 0, debounce := 0, zeroCount := 0, maxima := List.replicate 16 none, startPosition := x.position
    runStart := some now }

/-- The record once a drive with the command has been sent: the first STOP after a motion is a coast drive, and the
first UP or DOWN after a STOP is a motor start (R43). -/
def drivenRecord (now : Nat) (cmd : MotorCommand) (x : Window) : Window :=
  let y := if cmd != .stop && x.lastDrive == .stop then motorStart now x else x
  { y with
    coast := if cmd == .stop then commandDirection x.lastDrive else none
    lastDrive := cmd, stopDue := false }

/-! ## Sending a drive (R165, R167) -/

def isPulse : LockCommand → Bool
  | .lockPulse => true
  | .unlockPulse => true
  | .deadlockPulse => true
  | _ => false

/-- The Closure Lock record once its prepared command has gone out: a pulse starts the drive deadline (R12). -/
def commandSent (now : Nat) (k : ClosureLock) : ClosureLock :=
  { k with
    command := .idle, pulseSteps := 0
    driveDeadline :=
      if isPulse k.command then some (now + 10 * k.pulseSteps + Config.driveMargin) else k.driveDeadline }

/-- The drive that would be sent on the channel now (R167). Before RUN nothing but STOP and dark lamps goes out. -/
def buildDrive (s : State) (c : Closure) : NodeDrive :=
  let lamps := driveLamps s c
  let k := closure s c
  let run := running s
  { lock := if run then k.command else .idle
    pulseSteps := if run && isPulse k.command then k.pulseSteps else 0
    child := if run then (closureRear c).bind fun d => (child s d).command else none
    release := run && c == .tg && s.release.prepared
    motor := if run then ((closureWindow c).map fun w => motorCommand (window s w)).getD .stop else .stop
    lockLamp := lamps.1
    childLamp := lamps.2.1
    lockoutLamp := lamps.2.2
    payload := if run then (s.pass.get c).head? else none }

/-- The lock command of the drive counts as sent (R12). -/
def sentLock (c : Closure) (s : State) : State := setClosure c (commandSent s.now (closure s c)) s

/-- The child command of the drive counts as sent (R32). -/
def sentChild (c : Closure) (s : State) : State :=
  match closureRear c with
  | some r => setChild r { child s r with command := none } s
  | none => s

/-- A release that the drive carries counts as sent: its deadline starts (R24). -/
def sentRelease (carried : Bool) (s : State) : State :=
  { s with release := if carried then ⟨some (s.now + Config.releaseTime), false⟩ else s.release }

/-- The payload of the drive leaves its queue (R158). -/
def sentPayload (c : Closure) (s : State) : State := { s with pass := s.pass.set c (s.pass.get c).tail }

/-- The Window Controller notes the motor command of the drive; a STOP frees the slot that waited for it (R43, R58). -/
def sentMotor (c : Closure) (motor : MotorCommand) (s : State) : State :=
  match closureWindow c with
  | none => s
  | some w =>
    let slots := if motor == .stop then freeEnded w s.motion.slots else s.motion.slots
    { setWindow w (drivenRecord s.now motor (window s w)) s with motion := { s.motion with slots := slots } }

/-- The owners count the drive's one-shot commands as sent, and the Window Controller notes its motor command; before RUN
nothing is prepared, and the motor command alone is noted (R167). -/
def noteSent (c : Closure) (d : NodeDrive) (s : State) : State :=
  if running s then
    sentMotor c d.motor (sentPayload c (sentRelease d.release (sentChild c (sentLock c s))))
  else sentMotor c d.motor s

def period : Rate → Nat
  | .fast => Config.fastPeriod
  | .slow => Config.slowPeriod
  | .off => 0

/-- A drive is built and sent as its bytes, and its cycle begins (R165, R167, R215). -/
def sendDrive (c : Closure) (s : State) : State :=
  let d := buildDrive s c
  let s := noteSent c d s
  let ch := channel s c
  setChannel c { ch with cycleEnd := some (s.now + period ch.rate), answered := false, drive := some (driveBytes d) } s

/-! ## Channel rates (R166, R176) -/

/-- The rate the Context Monitor chooses (R176). -/
def chosenRate (s : State) (c : Closure) : Rate :=
  match s.stage with
  | .off => .off
  | .load => .off
  | .listen => .off
  | .poll => .fast
  | .sense => .fast
  | .run =>
    match s.cfg.modes.get c with
    | .forcedOff => .off
    | .forcedOn => .fast
    | .auto =>
      match s.ctx.state with
      | .awake => .fast
      | .parked => if s.cfg.key.touch.get c || lampLit s c then .slow else .off
      | .deep => .off
      | .starting => .off

/-- The channel record whose rate becomes OFF (R166 C). -/
def stoppedChannel (ch : Channel) : Channel :=
  { ch with
    rate := .off, cycleEnd := none, missing := 0, comparable := false, reported := false, answered := false
    drive := none
    link := if ch.link == .present then .unknown else ch.link }

/-- A rate takes effect (R166). -/
def setRate (c : Closure) (r : Rate) (s : State) : State :=
  let ch := channel s c
  if ch.rate == r then s
  else if r == .off then setChannel c (stoppedChannel ch) s
  else if ch.rate == .off then sendDrive c (setChannel c { ch with rate := r } s)
  else setChannel c { ch with rate := r } s

/-- Every channel takes the rate that R176 gives it now. -/
def chooseRates (s : State) : State := allClosures.foldl (fun t c => setRate c (chosenRate t c) t) s

end Sys2Proof.Machine
end

