-- ==== Sys2Proof/Machine/Context.lean ====
section
/-!
DEFINITION. The operating states (10 sections 10.4 to 10.6): a wake, the entries into PARKED and DEEP, the beginning
of a save (R208, R190), and the close of a step, which does what R188, R189, R191, R176 and R163 ask for at whatever
moment their conditions come to hold.
-/

namespace Sys2Proof.Machine

/-! ## The beginning of a save (R208, R190) -/

def saving (s : State) : Bool := s.store.snapshot.isSome

/-- What a save writes: every stored value as it stands (R208), with the lock cell's protection record once the cell is
set (R204). -/
def savedTables (s : State) : Tables := { s.cfg with protection := s.store.lockCell.getD s.cfg.protection }

/-- A save begins: SAVING, with its snapshot (R208). -/
def beginSave (s : State) : State := { s with store := { s.store with snapshot := some (savedTables s) } }

/-- A park save handed over: it begins at once, or is kept while a save runs; at most one is kept (R190, R208). -/
def parkSave (s : State) : State :=
  if saving s then { s with store := { s.store with parkKept := true } }
  else beginSave { s with store := { s.store with parkKept := false } }

/-! ## A wake (R192, R193) -/

/-- Every channel's reported since AWAKE becomes clear (R169). -/
def clearReported (s : State) : State :=
  { s with channels := s.channels.mapWith fun _ ch => { ch with reported := false } }

/-- The status pages are offered and the status period starts (R163 A). -/
def startStatus (s : State) : State := offerPages { s with nextStatus := some (s.now + Config.statusTime) }

/-- The entry into AWAKE from PARKED or DEEP (R193). The channels take their rates at the close of the step, so the first
drive of a channel that starts carries the commands that the waking request prepared (R19 D, R24, R31 B; log entry
23). -/
def enterAwake (cause : WakeCause) (s : State) : State :=
  let s := { s with
    ctx := { s.ctx with
      state := .awake, lastWake := some cause, wakeCount := min 65535 (s.ctx.wakeCount + 1), deepDeadline := none
      parkedAt := none } }
  let s := clearReported (activity s)
  let s := { s with windows := s.windows.mapWith fun _ x => heatRest s.now x }
  startStatus s

/-- A wake raises the part from PARKED or DEEP, and changes nothing in AWAKE or before RUN (R192). -/
def wake (cause : WakeCause) (s : State) : State := if running s && isAsleep s then enterAwake cause s else s

/-! ## The entries into PARKED and DEEP (R190, R191) -/

/-- The Deep Delay in ms. -/
def deepDelay (s : State) : Nat := s.cfg.car.deepDelay * 3600000

/-- The entry into PARKED (R190, R163 B). -/
def enterParked (s : State) : State :=
  let s := { s with
    ctx := { s.ctx with state := .parked, deepDeadline := some (s.now + deepDelay s), parkedAt := some s.now }
    nextStatus := none }
  parkSave (offerPages (chooseRates s))

/-- The entry into DEEP (R191, R39). -/
def enterDeep (s : State) : State :=
  chooseRates { s with ctx := { s.ctx with state := .deep, deepDeadline := none, parkedAt := none }, timed := none }

/-- All the PARKED conditions hold (R189). -/
def mayPark (s : State) : Bool :=
  isAwake s && s.ctx.ignition == .off && !awakeHold s && s.ctx.idleDeadline ≤ s.now

/-- The deep deadline has passed and no awake hold is present (R191). -/
def maySinkDeep (s : State) : Bool :=
  s.ctx.state == .parked && !awakeHold s &&
    match s.ctx.deepDeadline with
    | some d => d ≤ s.now
    | none => false

/-! ## The close of a step -/

/-- The end of an awake hold is an activity event (R188; judged at the end of each step, log entry 22). -/
def closeHold (before s : State) : State := if awakeHold before && !awakeHold s then activity s else s

/-- The state changes whose conditions hold at the end of the step (R189, R191). -/
def closeState (s : State) : State :=
  let s := if mayPark s then enterParked s else s
  if maySinkDeep s then enterDeep s else s

/-- In PARKED the pages are offered at each change of a record they show (R163 B): once, at the close of the step, and not
in a step that ends in another state (log entry 83). -/
def closePages (before s : State) : State :=
  if before.ctx.state == .parked && s.ctx.state == .parked && statusPages before != statusPages s then offerPages s
  else s

/-- The close of every step: `before` is the state at the moment the step was taken. -/
def finish (before s : State) : State :=
  if running s then closePages before (chooseRates (closeState (closeHold before s))) else s

end Sys2Proof.Machine
end

