-- ==== Sys2Proof/Machine/OperationEngine.lean ====
section
/-!
DEFINITION. What reaches the Operation Engine from the Window Controller, and aborts (07 sections 7.4 and 7.5). The
start of an operation stands in Operations.lean, above the Window Controller it asks.
-/

namespace Sys2Proof.Machine

/-- A step has ended when it is neither PENDING nor ISSUED (07 section 7.2). -/
def stepEnded : StepStatus → Bool
  | .pending => false
  | .issued => false
  | _ => true

/-- The steps not yet ended (R129). -/
def notEnded (steps : List OpStep) : Nat := steps.countP fun x => !stepEnded x.status

/-- The step status an outcome gives (R132). RELEASED is no outcome of a step, which is never held; it gives none. -/
def outcomeStatus : MotionOutcome → Option StepStatus
  | .reached => some .done
  | .overridden => some .overridden
  | .replaced => some .overridden
  | .pinched => some .pinched
  | .stopped => some .cancelled
  | .cancelled => some .cancelled
  | .runtime => some .cancelled
  | .lost => some .cancelled
  | .released => none

/-- The steps with the status given to the window's step that has not ended; `none` where there is no such step. -/
def markStep (w : WindowId) (status : StepStatus) : List OpStep → Option (List OpStep)
  | [] => none
  | x :: rest =>
    if x.window == w && !stepEnded x.status then some ({ x with status := status } :: rest)
    else (markStep w status rest).map (x :: ·)

/-- The operation ends: its notice is queued, it is copied into last operation and the record becomes absent (R133). -/
def endOperation (op : ActiveOp) (s : State) : State :=
  let last : LastOp :=
    { descriptor := op.descriptor, kind := op.kind, source := op.source, outcome := op.abortCause, steps := op.steps }
  offerNotice (operationNoticeData last) { s with op := { s.op with active := none, lastOp := some last } }

/-- The record as it stands after a step ended: it ends with the last one (R129). -/
def keepOrEnd (op : ActiveOp) (s : State) : State :=
  if op.remaining = 0 then endOperation op s else { s with op := { s.op with active := some op } }

/-- A WINDOW_STOP of the engine: it ends a motion or waiting entry of an operation origin with CANCELLED and leaves
every other alone (R50). It reaches the Window Controller, so it is activity (R187 D). -/
def stopForEngine (w : WindowId) (s : State) : State :=
  let s := activity s
  let x := window s w
  if operationOrigin x.origin && (x.state == .waiting || inMotion x) then endMotionRecord w .cancelled s else s

/-- The steps once every one not yet ended is CANCELLED. -/
def cancelSteps (steps : List OpStep) : List OpStep :=
  steps.map fun x => if stepEnded x.status then x else { x with status := .cancelled }

/-- An abort (R134). Its cancellations end the operation; the outcomes of its stops find every step ended. -/
def abort (cause : AbortCause) (s : State) : State :=
  match s.op.active with
  | none => s
  | some op =>
    let s := (op.steps.filter fun x => !stepEnded x.status).foldl (fun t x => stopForEngine x.window t) s
    endOperation { op with steps := cancelSteps op.steps, remaining := 0, abortCause := op.abortCause <|> some cause } s

/-- Each hand-over that reaches the engine while crash hold is set first aborts the operation (R137). -/
def crashTest (s : State) : State := if s.group.crashHold.isSome then abort .crashAbort s else s

/-- A status handed to the engine for a window (R132); PINCHED aborts the operation (R135; its last step too, log
entry 33). -/
def handStatus (w : WindowId) (status : StepStatus) (s : State) : State :=
  let s := crashTest s
  match s.op.active with
  | none => s
  | some op =>
    match markStep w status op.steps with
    | none => s
    | some steps =>
      let op := { op with steps := steps, remaining := op.remaining - 1 }
      if status == .pinched then abort .pinchAbort { s with op := { s.op with active := some op } }
      else keepOrEnd op s

/-- The outcome of a motion with an operation origin is handed to the engine (R63). -/
def handOutcome (origin : Option Origin) (w : WindowId) (outcome : MotionOutcome) (s : State) : State :=
  if operationOrigin origin then
    match outcomeStatus outcome with
    | some status => handStatus w status s
    | none => s
  else s

/-- A motion or waiting entry ends with an outcome, which is handed on (R63). A reversal hands nothing on, and a window
with neither is left alone. -/
def endMotion (w : WindowId) (outcome : MotionOutcome) (s : State) : State :=
  let x := window s w
  let s := endMotionRecord w outcome s
  if x.state == .waiting || inMotion x then handOutcome x.origin w outcome s else s

end Sys2Proof.Machine
end

