-- ==== Sys2Proof/Machine/Windows.lean ====
section
/-!
DEFINITION. The Window Controller but for the anti-pinch computation: requests (03 section 3.3), stops, limits,
switches (03 section 3.4), normalization (03 section 3.5), grants (R61), the run-time limit (R62), node faults and
losses (R67, R68).
-/

namespace Sys2Proof.Machine

/-! ## Targets and directions (R45, R47, R62) -/

/-- The direction of a request: a target of 0, or one below P, closes; any other opens (R47). -/
def requestDirection (target position : Nat) : Direction := if target = 0 ∨ target < position then .up else .down

/-- Nothing is left to move: an opening whose effective target is at or below P, or a closing to a non-zero target
that is at or above P (R46, R47, R62). A closing to 0 runs to the end stop, and so does one to a non-zero requested target
under a current limit of 0, whose effective target is 0 (log entry 62). -/
def nothingLeft (dir : Direction) (effective position : Nat) : Bool :=
  match dir with
  | .down => effective ≤ position
  | .up => effective != 0 && position ≤ effective

/-- A refusal is written and, for an operation step, handed to the engine (R48). -/
def refuseWindow (w : WindowId) (origin : Option Origin) (cause : WindowRefusal) (s : State) : State :=
  let s := setWindow w { window s w with lastRefusal := some cause } s
  if operationOrigin origin then handStatus w .skipped s else s

/-! ## Motion requests (R47 to R49) -/

/-- A motion request (03 section 3.3). -/
structure WindowRequest where
  window : WindowId
  target : Nat
  origin : Origin
  held : Bool
  deriving DecidableEq, Repr

/-- How a replaced request ends: OVERRIDDEN where a switch press replaced a non-switch one (R49). -/
def replacedOutcome (old : Option Origin) (new : Origin) : MotionOutcome :=
  if switchOrigin (some new) && !switchOrigin old then .overridden else .replaced

/-- A request that completes at once: the present one is ended as a replacement, and the new one ends REACHED (R47). -/
def completeAtOnce (r : WindowRequest) (s : State) : State :=
  let s := endMotion r.window (replacedOutcome (window s r.window).origin r.origin) s
  let s := setWindow r.window { window s r.window with lastOutcome := some .reached } s
  handOutcome (some r.origin) r.window .reached s

/-- The record with the request taken over; the normalization hold ends with a replaced motion (R49, R56 E). -/
def takenOver (r : WindowRequest) (dir : Direction) (state : WindowState) (x : Window) : Window :=
  { x with state := state, direction := dir, origin := some r.origin, held := r.held, normHold := none }

/-- A motion that now goes another way than `before`: the next drive carries STOP, and the run time begins with the
motor start after it (R43, R49 C; the run time in between, log entry 53). -/
def turned (before : Direction) (x : Window) : Window :=
  if x.direction == before then x else { x with stopDue := true, runStart := none }

/-- The queue after the replacement of a waiting entry: in place, or at the tail of its new class (R49 B, R59). -/
def requeue (r : WindowRequest) (old : Option Origin) (m : Motion) : Motion :=
  if switchOrigin (some r.origin) == switchOrigin old then m
  else enqueueMotion r.window (switchOrigin (some r.origin)) (dequeue r.window m)

/-- An accepted request that is not completed at once, by the window's state (R49). -/
def placeRequest (r : WindowRequest) (dir : Direction) (s : State) : State :=
  let w := r.window
  let x := window s w
  let old := x.origin
  if x.state == .waiting then
    let y := { takenOver r dir .waiting x with lastOutcome := some (replacedOutcome old r.origin) }
    let s := setWindow w y s
    let s := { s with motion := requeue r old s.motion }
    handOutcome old w (replacedOutcome old r.origin) s
  else if inMotion x then
    let y := turned x.direction { takenOver r dir (if r.held then .movingManual else .movingAuto) x with
      lastOutcome := some (replacedOutcome old r.origin) }
    handOutcome old w (replacedOutcome old r.origin) (setWindow w y s)
  else
    let s := setWindow w (takenOver r dir .waiting x) s
    { s with motion := enqueueMotion w (switchOrigin (some r.origin)) s.motion }

/-- An accepted request: last refusal becomes NONE and the requested target is written (R45, R48). -/
def acceptRequest (r : WindowRequest) (s : State) : State :=
  let w := r.window
  let requested := min r.target (windowCfg s w).travel
  let s := setWindow w { window s w with lastRefusal := none, requested := requested } s
  let dir := requestDirection requested (window s w).position
  if nothingLeft dir (effectiveTarget s w) (window s w).position then completeAtOnce r s else placeRequest r dir s

/-- The checks D and E of R48, made again at grant: HOT unless a held close, and HOT for every request while the last
report shows overtemperature (R68), judged with check D (log entry 75); then LOW_SUPPLY. -/
def thermalRefusal (w : WindowId) (heldClose : Bool) (s : State) : Option WindowRefusal :=
  let x := window s w
  if (x.hot && !heldClose) || x.overtemp then some .hot
  else if voltageFresh s && s.ctx.voltage < Config.lowSupply then some .lowSupply
  else none

/-- The checks A to C of R48. A channel held at FORCED_OFF refuses with FAULT (R67), judged with check A (log entry 74). -/
def earlyRefusal (r : WindowRequest) (s : State) : Option WindowRefusal :=
  let x := window s r.window
  let closing := requestDirection (min r.target (windowCfg s r.window).travel) x.position == .up
  if x.state == .fault || forcedOff s (windowClosure r.window) then some .fault
  else if x.state == .reversing then some .busy
  else if !switchOrigin (some r.origin) && switchOrigin x.origin then some .busy
  else if closing && !r.held && !x.normalized then some .notNormalized
  else none

/-- A motion request that reached the Window Controller, once its activity and wake are taken (R48). -/
def checkRequest (r : WindowRequest) (s : State) : State :=
  match earlyRefusal r s with
  | some cause => refuseWindow r.window (some r.origin) cause s
  | none =>
    let s := setWindow r.window (heatRest s.now (window s r.window)) s
    let closing :=
      requestDirection (min r.target (windowCfg s r.window).travel) (window s r.window).position == .up
    match thermalRefusal r.window (r.held && closing) s with
    | some cause => refuseWindow r.window (some r.origin) cause s
    | none => acceptRequest r s

/-- A motion request: discarded before RUN (R47); an activity event and a wake (R187 D, R192). -/
def requestMotion (r : WindowRequest) (s : State) : State :=
  if running s then checkRequest r (wake .request (activity s)) else s

/-! ## WINDOW_STOP and CLEAR_NORMALIZED (R50, R57) -/

/-- A WINDOW_STOP from BODY or MANAGEMENT (R50). -/
def stopWindow (w : WindowId) (s : State) : State :=
  if running s then
    let s := activity s
    let x := window s w
    if x.state == .reversing then refuseWindow w none .busy s
    else if x.state == .waiting || inMotion x then
      if switchOrigin x.origin then refuseWindow w none .busy s else endMotion w .stopped s
    else s
  else s

/-- CLEAR_NORMALIZED for one window (R57). -/
def clearNormalized (w : WindowId) (s : State) : State :=
  if (window s w).state == .reversing then setWindow w { window s w with clearPending := true } s
  else
    let s := endMotion w .stopped s
    setWindow w (unnormalize (windowCfg s w).travel (window s w)) s

/-! ## Limits (R46) and the rear window inhibit (R36) -/

/-- A running motion that is no reversal ends REACHED once nothing is left to move (R46, R62). -/
def endIfReached (w : WindowId) (s : State) : State :=
  let x := window s w
  if inMotion x && nothingLeft x.direction (effectiveTarget s w) x.position then endMotion w .reached s else s

/-- The current limit of a window has been recomputed; `before` is the state before the change (R46). -/
def followLimit (before : State) (w : WindowId) (s : State) : State :=
  if currentLimit before w = currentLimit s w then s else endIfReached w s

/-- The rear window inhibit applies to the window (R36). -/
def inhibited (s : State) (w : WindowId) : Bool :=
  match windowRear w with
  | some d => s.cfg.car.lockout || (s.cfg.car.inhibitLinked && (child s d).target == .engaged)
  | none => false

/-- The inhibit begins: a motion or waiting entry of origin OWN_SWITCH ends STOPPED (R36). -/
def followInhibit (before : State) (w : WindowId) (s : State) : State :=
  let x := window s w
  if inhibited s w && !inhibited before w && x.origin == some .ownSwitch && (x.state == .waiting || inMotion x) then
    endMotion w .stopped s
  else s

/-- What the Window Controller does once the lockout flag, a child-lock target, Inhibit-Linked or a limit may have
changed since `before` (R36, R46): the limit first, then the inhibit (log entry 50). -/
def followSettings (before s : State) : State :=
  allWindows.foldl (fun t w => followInhibit before w (followLimit before w t)) s

/-! ## Window switches (R51 to R54) -/

/-- Window switch edges are honoured (R51). -/
def honoured (s : State) : Bool := running s && (s.ctx.ignition == .run || live s.now s.motion.retained)

def isUp : Switch → Bool
  | .up => true
  | .upAuto => true
  | _ => false

def isDown : Switch → Bool
  | .down => true
  | .downAuto => true
  | _ => false

/-- The request of a press at a level (03 section 3.3); an UP_AUTO press on an unnormalized window is held (R55). -/
def pressRequest (w : WindowId) (origin : Origin) (level : Switch) (x : Window) (travel : Nat) : WindowRequest :=
  { window := w, target := if isUp level then 0 else travel, origin := origin
    held := level == .up || level == .down || (level == .upAuto && !x.normalized) }

/-- A press that R54 lets through: it stops an automatic motion (R53), is ignored in REVERSING (R48 B), and is a
request otherwise (R52 A). -/
def press (w : WindowId) (origin : Origin) (level : Switch) (s : State) : State :=
  let x := window s w
  if x.state == .reversing then s
  else if x.state == .movingAuto then
    endMotion w (if switchOrigin x.origin then .stopped else .overridden) s
  else requestMotion (pressRequest w origin level x (windowCfg s w).travel) s

/-- The motion or waiting entry is held and came from this switch. -/
def heldFrom (origin : Origin) (x : Window) : Bool :=
  x.held && x.origin == some origin && (x.state == .waiting || inMotion x)

/-- The press ends: a held motion or waiting entry of this switch ends RELEASED (R52 D, R60 A). -/
def releaseSwitch (w : WindowId) (origin : Origin) (s : State) : State :=
  if heldFrom origin (window s w) then endMotion w .released s else s

/-- The press is made automatic (R52 B); an unnormalized window's closing press stays held (R55). -/
def makeAuto (w : WindowId) (origin : Origin) (dir : Direction) (s : State) : State :=
  let x := window s w
  if heldFrom origin x && x.direction == dir && (x.normalized || dir == .down) then
    setWindow w { x with held := false, state := if x.state == .movingManual then .movingAuto else x.state } s
  else s

/-- A press on the own switch while the other is active is ignored, and one on the driver pack while the own switch is
active is acted on; either sets own-switch suppressed (R54), the latter also where R48 then refuses it (log entry
51). -/
def pressUnder (w : WindowId) (origin : Origin) (level other : Switch) (s : State) : State :=
  let suppress (t : State) : State := setWindow w { window t w with suppressed := true } t
  if other == .none then press w origin level s
  else if origin == .ownSwitch then suppress s
  else press w origin level (suppress s)

/-- An honoured edge that is neither inhibited nor suppressed, interpreted under R52. -/
def interpretEdge (w : WindowId) (origin : Origin) (old new other : Switch) (s : State) : State :=
  if new == .none then releaseSwitch w origin s
  else if old == .none then pressUnder w origin new other s
  else if old == .up && new == .upAuto then makeAuto w origin .up s
  else if old == .down && new == .downAuto then makeAuto w origin .down s
  else if (isUp old && isDown new) || (isDown old && isUp new) then
    pressUnder w origin new other (releaseSwitch w origin s)
  else s

/-- An edge of one of a window's two switches; `other` is the level of the other switch. Edges in REVERSING are
ignored (R52), and none of them sets own-switch suppressed (R87 A; log entry 52). -/
def switchEdge (w : WindowId) (origin : Origin) (old new other : Switch) (s : State) : State :=
  if old == new || !honoured s then s
  else
    let s := activity s
    let x := window s w
    let ignored := x.state == .reversing || (origin == .ownSwitch && (x.suppressed || inhibited s w))
    if ignored then s else interpretEdge w origin old new other s

/-- A report shows the window's own switch at NONE: own-switch suppressed becomes clear (R54). -/
def clearSuppressed (w : WindowId) (level : Switch) (s : State) : State :=
  if level == .none then setWindow w { window s w with suppressed := false } s else s

/-- Honouring has ended: held switch-origin motions and waiting entries end RELEASED (R51). -/
def endHonouring (s : State) : State :=
  allWindows.foldl
    (fun t w =>
      let x := window t w
      if x.held && switchOrigin x.origin && (x.state == .waiting || inMotion x) then endMotion w .released t else t)
    s

/-- The retained deadline becomes absent, which ends honouring while the ignition is OFF (R51). -/
def dropRetained (s : State) : State :=
  if s.motion.retained.isSome then
    let s := { s with motion := { s.motion with retained := none } }
    if s.ctx.ignition == .off then endHonouring s else s
  else s

/-! ## Grants (R58, R61) -/

/-- The head of the Motion Queue, where a slot is free and the head is ready (R58). -/
def grantable (s : State) : Option WindowId :=
  match motionQueue s with
  | [] => none
  | w :: _ =>
    if running s && isAwake s && (channel s (windowClosure w)).reported && s.motion.slots.length < Config.motorSlots then
      some w
    else none

/-- The grant: the entry leaves the queue, is checked again, and takes the slot (R61), which clears the pinch flag
(R85); one that completes at once takes no slot and leaves the flag (log entry 55). -/
def grant (w : WindowId) (s : State) : State :=
  let s := setWindow w (heatRest s.now (window s w)) s
  let x := window s w
  match thermalRefusal w (x.held && x.direction == .up) s with
  | some cause =>
    let s := setWindow w { x with state := .idle, origin := none, held := false } s
    refuseWindow w x.origin cause { s with motion := dequeue w s.motion }
  | none =>
    if nothingLeft x.direction (effectiveTarget s w) x.position then endMotion w .reached s
    else
      let state := if x.held then WindowState.movingManual else .movingAuto
      let s := setWindow w { x with state := state, runStart := none, pinchFlag := false } s
      { s with motion := { dequeue w s.motion with slots := s.motion.slots ++ [⟨w, false⟩] } }

/-! ## Time limits (R56 C, R62) -/

/-- The time at which the run time of a moving window reaches 8 s (R62, R86). -/
def runLimit (x : Window) : Option Nat := if windowMoving x then x.runStart.map (· + Config.runTimeMax) else none

/-- The run time has reached its limit: the motion or reversal stops with RUNTIME (R62, R86). -/
def runTimeOut (w : WindowId) (s : State) : State :=
  raise .runtime (some (windowClosure w)) (endMotion w .runtime s)

/-- The normalization hold has passed with the switch held: the reference is taken at the top (R56 C). -/
def normalize (w : WindowId) (s : State) : State :=
  let s := endMotion w .reached s
  setWindow w { window s w with position := 0, normalized := true, requested := 0 } s

/-! ## Crash, losses and node faults (R60 B, R67, R68) -/

/-- A crash stops closing motions and removes closing entries (R60 B). -/
def crashStop (s : State) : State :=
  allWindows.foldl
    (fun t w =>
      let x := window t w
      if x.direction == .up && (x.state == .waiting || inMotion x) then endMotion w .stopped t else t)
    s

/-- The window's node is declared LOST: FAULT from every state (R67), and no last report to show overtemperature
(R173). -/
def windowLost (w : WindowId) (s : State) : State :=
  let s := endMotion w .lost s
  setWindow w { window s w with state := .fault, normHold := none, overtemp := false } s

/-- A window leaves FAULT for IDLE. -/
def leaveFault (x : Window) : Window := if x.state == .fault then { x with state := .idle } else x

/-- The node's next good report after a loss (R67, R64 C). -/
def windowRecovered (w : WindowId) (s : State) : State := setWindow w (leaveFault (heatRest s.now (window s w))) s

/-- The channel is set to FORCED_OFF: the motion or waiting entry ends STOPPED, and the window is IDLE whatever its state
was (R67, R177 A). -/
def windowForcedOff (w : WindowId) (s : State) : State :=
  let s := endMotion w .stopped s
  setWindow w (leaveFault (window s w)) s

/-- A report's overtemperature flag: set, it stops the motion or removes the entry (R68). -/
def windowOvertemp (w : WindowId) (flag : Bool) (s : State) : State :=
  let s := setWindow w { window s w with overtemp := flag } s
  if flag then endMotion w .stopped s else s

end Sys2Proof.Machine
end

