-- ==== Sys2Proof/Machine/Operations.lean ====
section
/-!
DEFINITION. Starts, renewals and cancels of global operations (07 sections 7.3 and 7.5).
-/

namespace Sys2Proof.Machine

/-- The target a step asks for: 0 for CLOSED, the window's travel for OPEN (R131 C). -/
def stepCounts (travel : Nat) : StepTarget → Nat
  | .closed => 0
  | .count n => n
  | .opened => travel

/-- A step is closing when its target is CLOSED, or a count below P (R131 B). -/
def stepCloses (position : Nat) : StepTarget → Bool
  | .closed => true
  | .count n => n < position
  | .opened => false

/-- FOB_OPERATION for a fob's operation, OPERATION for any other (R131 C). -/
def opOrigin : OpSource → Origin
  | .fob _ => .fobOperation
  | _ => .operation

/-- The window's step becomes ISSUED if the Window Controller left it PENDING: its request waits or runs (R131 C). -/
def markIssued (w : WindowId) (s : State) : State :=
  match s.op.active with
  | none => s
  | some op =>
    let steps := op.steps.map fun x => if x.window == w && x.status == .pending then { x with status := .issued } else x
    { s with op := { s.op with active := some { op with steps := steps } } }

/-- One step of the start pass (R131). -/
def issueStep (source : OpSource) (step : StepSpec) (s : State) : State :=
  let w := step.window
  let x := window s w
  if x.state == .fault || (stepCloses x.position step.target && !x.normalized) then handStatus w .skipped s
  else
    markIssued w
      (requestMotion
        { window := w, target := stepCounts (windowCfg s w).travel step.target, origin := opOrigin source
          held := false } s)

/-- The record of a start that is taken (R131). -/
def newOperation (i : Nat) (d : Descriptor) (source : OpSource) (now : Nat) : ActiveOp :=
  { descriptor := i, kind := d.kind, holdToRun := d.holdToRun, source := source
    lease := if d.holdToRun then some (now + Config.leaseTime) else none
    steps := d.steps.map fun st => ⟨st.window, st.target, .pending⟩
    remaining := d.steps.length, abortCause := none }

/-- A start is taken: a present operation is superseded, the record created and the start pass made (R130 E, R131). -/
def takeStart (i : Nat) (d : Descriptor) (source : OpSource) (s : State) : State :=
  let s := abort .superseded s
  let s := { s with op := { s.op with active := some (newOperation i d source s.now) } }
  d.steps.foldl (fun t step => issueStep source step t) s

/-- The lease moves to 300 ms after now, where the record has one that has not passed (R136). -/
def moveLease (now : Nat) (op : ActiveOp) : ActiveOp :=
  if live now op.lease then { op with lease := some (now + Config.leaseTime) } else op

/-- The Active Operation belongs to this fob and descriptor (R130 B, R136). -/
def sameHolder (op : ActiveOp) (i : Nat) (source : OpSource) : Bool :=
  match source with
  | .fob _ => op.source == source && op.descriptor == i
  | _ => false

/-- The decision on a start (R130). -/
def decideStart (i : Nat) (d : Descriptor) (source : OpSource) (s : State) : StartResult :=
  if s.group.crashHold.isSome then .crashHold
  else if s.op.active.any (sameHolder · i source) then .renewed
  else if !d.enabled then .disabled
  else
    match source with
    | .fob _ => .started
    | _ => if d.holdToRun then .holdRequired else .started

/-- A start that reaches the Operation Engine (R130); it is an activity event (R187 D). -/
def startOperation (i : Nat) (source : OpSource) (s : State) : State :=
  if !running s then s
  else
    match s.cfg.descriptors[i]? with
    | none => s
    | some d =>
      let s := crashTest (activity s)
      let result := decideStart i d source s
      let s := { s with op := { s.op with lastStart := some ⟨result, i, source⟩ } }
      match result with
      | .started => takeStart i d source s
      | .renewed => { s with op := { s.op with active := s.op.active.map (moveLease s.now) } }
      | _ => s

/-- A renewal handed on by the Key Unit (R136). -/
def renewLease (fob i : Nat) (s : State) : State :=
  let s := crashTest s
  match s.op.active with
  | none => s
  | some op =>
    if sameHolder op i (.fob fob) then { s with op := { s.op with active := some (moveLease s.now op) } } else s

/-- OPERATION_CANCEL: discarded before RUN, an activity event, and an abort of whatever runs (R138). -/
def cancelOperation (s : State) : State :=
  if running s then abort .cancelled (crashTest (activity s)) else s

end Sys2Proof.Machine
end

