-- ==== Sys2Proof/Machine/Locks.lean ====
section
/-!
DEFINITION. The Lock Controller's central locking (chapter 1): requests, actuation, completion, crash unlock, relock,
drive-away locking and the tailgate release.
-/

namespace Sys2Proof.Machine

/-! ## Kinds (01 section 1.2) -/

def lockType : LockKind → Bool
  | .lockAll => true
  | .deadlockAll => true
  | _ => false

def unlockType : LockKind → Bool
  | .unlockAll => true
  | .unlockDriver => true
  | .unlockTailgate => true
  | _ => false

/-- The closures a request names; UNLOCK_DRIVER names the given driver closure. -/
def named (kind : LockKind) (driver : Closure) : List Closure :=
  match kind with
  | .unlockDriver => [driver]
  | .unlockTailgate => [.tg]
  | _ => allClosures

/-- The new target of a closure a request names; TG is never DEADLOCKED. -/
def newTarget (kind : LockKind) (c : Closure) : LockTarget :=
  match kind with
  | .lockAll => .locked
  | .deadlockAll => if c == .tg then .locked else .deadlocked
  | _ => .unlocked

/-- The lock is sensed at the target. BETWEEN and UNKNOWN never are (R13). -/
def atTarget (sensed : LockSensed) (target : LockTarget) : Bool :=
  match sensed, target with
  | .unlocked, .unlocked => true
  | .locked, .locked => true
  | .deadlocked, .deadlocked => true
  | _, _ => false

/-- The pulse toward a target (R8 B). -/
def pulseFor : LockTarget → LockCommand
  | .unlocked => .unlockPulse
  | .locked => .lockPulse
  | .deadlocked => .deadlockPulse

/-! ## Actuating one closure (R8, R16, R19) -/

/-- A prepared pulse is dropped; a prepared ABANDON still goes out, after FORCED_OFF with the first drive once the channel
starts again (log entry 80). -/
def dropPulse (k : ClosureLock) : ClosureLock :=
  if isPulse k.command then { k with command := .idle, pulseSteps := 0 } else k

/-- The closure goes to a phase with nothing in flight. -/
def standAt (phase : LockPhase) (k : ClosureLock) : ClosureLock :=
  { dropPulse k with phase := phase, driveDeadline := none, settleDeadline := none }

/-- The closure goes to a phase with a pulse toward its target prepared for the next drive. -/
def driveAt (phase : LockPhase) (steps : Nat) (k : ClosureLock) : ClosureLock :=
  { k with
    phase := phase, command := pulseFor k.target, pulseSteps := steps, driveDeadline := none, settleDeadline := none }

/-- Target, source and opened-since-unlock of a closure a taken request names (R2, R3, R8). -/
def aimed (target : LockTarget) (source : LockSource) (k : ClosureLock) : ClosureLock :=
  { k with
    target := target, lastSource := source
    openedSinceUnlock := k.openedSinceUnlock && target != .unlocked }

/-- One closure that an actuated request names (R8). -/
def actuateClosure (kind : LockKind) (source : LockSource) (c : Closure) (s : State) : State :=
  let k := aimed (newTarget kind c) source (closure s c)
  let k :=
    if nodeLost s c || channelOff s c then standAt .fault k
    else if atTarget k.sensed k.target then standAt .idle k
    else driveAt .driving s.cfg.car.pulseSteps k
  setClosure c k s

/-- One closure under a crash unlock: a pulse whatever its sensed state and phase (R19 C, D). -/
def crashClosure (c : Closure) (s : State) : State :=
  let k := aimed .unlocked .crash (closure s c)
  let k := if nodeLost s c || forcedOff s c then standAt .fault k else driveAt .driving s.cfg.car.pulseSteps k
  setClosure c k s

/-- A closure whose node is lost or whose channel is forced off during an actuation (R16, R177). -/
def closureDown (k : ClosureLock) : ClosureLock := if closureBusy k then standAt .fault k else k

/-! ## Lamps of lock events (R39) -/

def setTimed (pattern : Pattern) (time : Nat) (s : State) : State :=
  { s with timed := some ⟨pattern, s.now + time⟩ }

/-- An unlock that is actuated or a crash unlock takes a STEADY timed pattern away (R39). -/
def dropSteady (s : State) : State :=
  match s.timed with
  | some t => if t.pattern == .steady then { s with timed := none } else s
  | none => s

/-! ## Taking a request (R7 to R9) -/

/-- The readiness condition of R9: AWAKE, and every channel of a named closure has reported since, or is FORCED_OFF, or
is LOST, also where the loss came before the request (log entry 47). -/
def ready (s : State) (r : LockRequest) : Bool :=
  isAwake s &&
    (named r.kind (driverClosure s)).all fun c => (channel s c).reported || forcedOff s c || nodeLost s c

/-- A refusal of the lock group (R6); an AJAR refusal sets the FAST pattern and sends the ajar warning (R39 C). -/
def refuseLock (cause : LockRefusal) (s : State) : State :=
  let s := { s with group := { s.group with lastRefusal := some cause } }
  if cause == .ajar then offerPagesNow (setTimed .fast 10000 s) else s

/-- The sources that do not lock while a latch is AJAR (R7 B). -/
def ajarSource : LockSource → Bool
  | .fob => true
  | .passive => true
  | .remote => true
  | .autoRelock => true
  | _ => false

/-- The three checks of R7, in their order. -/
def lockRefusal (r : LockRequest) (s : State) : Option LockRefusal :=
  if lockType r.kind && s.group.crashHold.isSome then some .crashHold
  else if lockType r.kind && ajarSource r.source && anyAjar s then some .ajar
  else if s.group.tokens = 0 then some .budget
  else none

/-- One token is consumed, and the refill starts if it does not run (R5). -/
def consumeToken (now : Nat) (g : LockGroup) : LockGroup :=
  { g with
    tokens := g.tokens - 1
    refillDeadline := g.refillDeadline <|> some (now + Config.refillTime) }

/-- A request is actuated (R7, R8, R22 B). Every request with source AUTO_RELOCK is the timer's own and leaves a relock
timer, a newer one too (log entry 73). -/
def actuate (r : LockRequest) (s : State) : State :=
  let driver := driverClosure s
  let g := consumeToken s.now s.group
  let s := { s with
    group := { g with
      inFlight := some ⟨r, driver⟩, lastRefusal := none
      relockTimer := if r.source == .autoRelock then g.relockTimer else none } }
  let s := if unlockType r.kind then dropSteady s else s
  (named r.kind driver).foldl (fun t c => actuateClosure r.kind r.source c t) s

/-- A request is taken: refused or actuated (R7). -/
def takeRequest (r : LockRequest) (s : State) : State :=
  match lockRefusal r s with
  | some cause => refuseLock cause s
  | none => actuate r s

/-! ## Tailgate release (R24) -/

/-- RELEASE_TAILGATE as the Lock Controller checks it (R24). While TG's node is LOST the request is taken and nothing is
prepared for it (R167; log entry 60). -/
def checkRelease (s : State) : State :=
  if (closure s .tg).target != .unlocked then refuseLock .locked s
  else if s.ctx.speed ≠ 0 ∨ !speedFresh s then refuseLock .moving s
  else
    let s := { s with group := { s.group with lastRefusal := none } }
    if s.release.deadline.isSome || nodeLost s .tg then s else { s with release := { s.release with prepared := true } }

/-- A RELEASE_TAILGATE that arrives: discarded before RUN; an activity event and a wake (R187 C, R192). -/
def releaseTailgate (s : State) : State := if running s then checkRelease (wake .request (activity s)) else s

/-! ## Completion (R17, R21, R25) -/

/-- The relock timer starts under the conditions of R21. -/
def startRelock (f : InFlight) (s : State) : State :=
  let outside := f.request.source == .fob || f.request.source == .passive || f.request.source == .remote
  let opened := (named f.request.kind f.driver).any fun c => (closure s c).openedSinceUnlock
  if unlockType f.request.kind && outside && s.cfg.car.relockTime ≠ 0 && !anyAjar s && !opened then
    { s with group := { s.group with relockTimer := some ⟨s.now + s.cfg.car.relockTime * 1000, .locked⟩ } }
  else s

/-- Items A and B of a completion (R17). -/
def completeItems (f : InFlight) (s : State) : State :=
  let s := { s with group := { s.group with inFlight := none } }
  if lockType f.request.kind then
    if (named f.request.kind f.driver).all fun c => (closure s c).phase == .idle then setTimed .steady 5000 s else s
  else startRelock f { s with group := { s.group with driveAwayArmed := true } }

/-- The follow-on release is due: judged at the completion (R25; log entry 21). -/
def releaseDue (f : InFlight) (s : State) : Bool :=
  f.request.kind == .unlockTailgate && f.request.releaseAfter && (closure s .tg).phase == .idle
    && (closure s .tg).target == .unlocked

/-- The in-flight request completes if the group is idle; with it comes whether its release is due. -/
def completeOne (s : State) : State × Bool :=
  match s.group.inFlight with
  | none => (s, false)
  | some f => if groupBusy s then (s, false) else (completeItems f s, releaseDue f s)

/-- The pending request is taken if the group is idle and it is ready (R11, R17 D). -/
def takePending (s : State) : State :=
  match s.group.slot with
  | none => s
  | some r =>
    if groupBusy s || !ready s r then s else takeRequest r { s with group := { s.group with slot := none } }

/-- What follows once the group may have become idle: the completion, then the pending request, which may itself
complete at once, and then the follow-on releases, which arrive after the pending request is taken (R11, R17; log
entry 5). Nothing happens while the group is busy. -/
def followGroup (s : State) : State :=
  let a := completeOne s
  let b := completeOne (takePending a.1)
  let s := if a.2 then releaseTailgate b.1 else b.1
  if b.2 then releaseTailgate s else s

/-! ## Crash unlock (R19) -/

/-- A CRASH_UNLOCK is taken (R19). The abort of F comes before the stops of G; R137 leaves the order open. -/
def takeCrash (s : State) : State :=
  let s := { s with
    group := { s.group with
      inFlight := some ⟨⟨.crashUnlock, .crash, false⟩, driverClosure s⟩, slot := none, relockTimer := none
      driverFirst := none, doubleLock := none, lastRefusal := none, crashHold := some s.now } }
  let s := allClosures.foldl (fun t c => crashClosure c t) (dropSteady s)
  followGroup (crashStop (abort .crashAbort s))

/-! ## Arrival (R9, R10) -/

/-- A request that arrives while the group is busy merges or waits (R10). -/
def mergeOrWait (r : LockRequest) (s : State) : State :=
  let wait := { s with group := { s.group with slot := some r } }
  match s.group.inFlight with
  | some f =>
    if f.request.kind == r.kind then
      let merged := { f with request := { f.request with releaseAfter := f.request.releaseAfter || r.releaseAfter } }
      { s with group := { s.group with inFlight := some merged } }
    else wait
  | none => wait

/-- A non-crash request from RUN on, once its activity and wake are taken (R9, R10). -/
def placeLock (r : LockRequest) (s : State) : State :=
  if groupBusy s then mergeOrWait r s
  else if ready s r then followGroup (takeRequest r s)
  else { s with group := { s.group with slot := some r } }

/-- A lock request arrives. Before RUN a CRASH_UNLOCK is kept and any other is discarded (R9, R19); from RUN on it is
an activity event and a wake (R187 C, R192). -/
def arriveLock (r : LockRequest) (s : State) : State :=
  if !running s then
    if r.kind == .crashUnlock then { s with group := { s.group with crashKept := true } } else s
  else
    let s := wake .request (activity s)
    if r.kind == .crashUnlock then takeCrash s else placeLock r s

/-! ## Reports (R1, R2, R12 to R15, R18) -/

/-- TG takes LOCKED when its node reports DEADLOCKED (R1). -/
def sensedOf (c : Closure) (sensed : LockSensed) : LockSensed :=
  if c == .tg && sensed == .deadlocked then .locked else sensed

/-- The target that a manual change to a sensed state gives; none for BETWEEN and UNKNOWN (R18). -/
def manualTarget : LockSensed → Option LockTarget
  | .unlocked => some .unlocked
  | .locked => some .locked
  | .deadlocked => some .deadlocked
  | _ => none

/-- A closure follows a manual change (R15, R18); a change to BETWEEN or UNKNOWN leaves its target, and its last source too
(log entry 72). -/
def followManual (k : ClosureLock) : ClosureLock :=
  match manualTarget k.sensed with
  | some t => { k with target := t, lastSource := .manual, phase := .idle }
  | none => k

/-- The pulse has ended: the settle timer starts (R12, R14). -/
def settleFrom (now : Nat) (k : ClosureLock) : ClosureLock :=
  { k with
    driveDeadline := none, settleDeadline := some (now + Config.settleTime)
    phase := if k.phase == .driving then .settling else k.phase }

/-- The phase after a report whose sensed state has been copied (R12 to R15, R18). `changed` says that the sensed
state changed, `recovery` that the node was LOST until this report (R16). The report that ends a pulse does not end the
wait that it begins, whatever it shows (log entry 48). -/
def phaseReport (now : Nat) (pulseActive changed recovery : Bool) (k : ClosureLock) : ClosureLock :=
  let there := atTarget k.sensed k.target
  match k.phase with
  | .driving => if k.driveDeadline.isSome && !pulseActive then settleFrom now k else k
  | .settling => if there then standAt .idle k else k
  | .retrying =>
    if k.driveDeadline.isSome then (if pulseActive then k else settleFrom now k)
    else if k.settleDeadline.isSome && there then standAt .idle k
    else k
  | .fault => if there then standAt .idle k else if changed then followManual k else k
  | .idle => if changed && !(recovery && there) then followManual k else k

/-- The latch a report shows. -/
def latchOf (ajar : Bool) : Latch := if ajar then .ajar else .shut

/-- What a change of latch does: R2, R22 A, R23, R51, R187 and R192. -/
def latchChanged (c : Closure) (old new : Latch) (s : State) : State :=
  if old == new then s
  else
    let s :=
      if new == .ajar then
        let s := setClosure c { closure s c with openedSinceUnlock := true } s
        let s := { s with group := { s.group with relockTimer := none, driveAwayArmed := true } }
        if c == .fl || c == .fr then dropRetained s else s
      else s
    let s := if old == .unknown || new == .unknown then s else activity s
    let s := if old == .ajar || new == .ajar then recomputeIdle s else s
    if old == .shut && new == .ajar then wake .latch s else s

/-- The Lock Controller takes the lock and latch fields of a report (R1). Before RUN it copies them and judges the
latch alone (log entry 20). Where SENSE found no known state, the first known one that RUN sees is a manual change,
whether or not a later report of POLL had shown it (R28; log entry 58). -/
def lockReport (c : Closure) (rep : Report) (recovery : Bool) (s : State) : State :=
  let old := closure s c
  let sensed := sensedOf c rep.lockSensed
  let k := { old with sensed := sensed, latch := latchOf rep.ajar }
  let k :=
    if running s then
      { phaseReport s.now rep.pulseActive (old.sensed != sensed || old.senseWaits) recovery k with
        senseWaits := old.senseWaits && (manualTarget sensed).isNone }
    else k
  latchChanged c old.latch k.latch (setClosure c k s)

/-- The node is declared LOST (R1, R16); no lock command stays prepared for it (R167; log entry 60). -/
def lockLost (c : Closure) (s : State) : State :=
  let old := closure s c
  let k := { closureDown old with sensed := .unknown, latch := .unknown, command := .idle, pulseSteps := 0 }
  latchChanged c old.latch .unknown (setClosure c k s)

/-! ## Deadlines (R5, R12 to R14, R22) -/

/-- The drive deadline has passed: ABANDON goes out next and the settle timer starts (R12, R14). -/
def driveExpired (c : Closure) (s : State) : State :=
  let k := closure s c
  setClosure c { settleFrom s.now k with command := .abandon, pulseSteps := 0 } s

/-- The settle deadline has passed (R13, R14); with sensed equal to target the closure is IDLE (log entry 8). -/
def settleExpired (c : Closure) (s : State) : State :=
  let k := closure s c
  let s :=
    if atTarget k.sensed k.target then setClosure c (standAt .idle k) s
    else if k.phase == .settling then setClosure c (driveAt .retrying s.cfg.car.pulseSteps k) s
    else if k.phase == .retrying then
      setTimed .fast 10000 (raise .lockFault (some c) (setClosure c (standAt .fault k) s))
    else setClosure c { k with settleDeadline := none } s
  followGroup s

/-- The refill deadline has passed (R5). -/
def refilled (now : Nat) (g : LockGroup) : LockGroup :=
  let tokens := min Config.tokenMax (g.tokens + 1)
  { g with
    tokens := tokens
    refillDeadline := if tokens < Config.tokenMax then some (now + Config.refillTime) else none }

/-- The request that a restore target calls for (R22). -/
def relockKind : LockTarget → LockKind
  | .locked => .lockAll
  | .deadlocked => .deadlockAll
  | .unlocked => .unlockAll

/-- The relock timer has expired (R22). -/
def relockExpired (restore : LockTarget) (s : State) : State :=
  arriveLock ⟨relockKind restore, .autoRelock, false⟩ { s with group := { s.group with relockTimer := none } }

/-! ## Speed, ignition and the Key Unit (R20, R22 D, R23) -/

def allShut (s : State) : Bool := allClosures.all fun c => (closure s c).latch == .shut

/-- A speed update, with the value it replaced and whether that was fresh (R23, R181). -/
def speedUpdate (old : Nat) (oldFresh : Bool) (s : State) : State :=
  let limit := s.cfg.car.driveAwaySpeed
  if limit ≠ 0 && limit ≤ s.ctx.speed && oldFresh && old < limit && s.ctx.ignition == .run && allShut s
      && s.group.driveAwayArmed then
    arriveLock ⟨.lockAll, .driveAway, false⟩ { s with group := { s.group with driveAwayArmed := false } }
  else s

/-- An OFF→RUN transition ends a crash hold of 10 s or more, cancels the relock timer and arms drive-away locking
(R20, R22 D, R23). -/
def lockIgnitionOn (s : State) : State :=
  let hold :=
    match s.group.crashHold with
    | some t => if t + Config.crashHoldMin ≤ s.now then none else some t
    | none => none
  { s with group := { s.group with crashHold := hold, relockTimer := none, driveAwayArmed := true } }

/-- The Key Unit refuses a passive lock with KEY_INSIDE (R6, R39 D). -/
def refuseKeyInside (s : State) : State := setTimed .fast 3000 (refuseLock .keyInside s)

end Sys2Proof.Machine
end

