-- ==== Sys2Proof/Machine/ChildLocks.lean ====
section
/-!
DEFINITION. The Child Lock records (02 section 2.1) and the window lockout flag (R35).
-/

namespace Sys2Proof.Machine

/-- The child lock is sensed at the target; UNKNOWN never is (R32). -/
def childThere (k : ChildLock) : Bool :=
  match k.sensed, k.target with
  | .engaged, .engaged => true
  | .disengaged, .disengaged => true
  | _, _ => false

/-- The command toward a target (R31 B). -/
def childCommandFor : ChildTarget → ChildCommand
  | .engaged => .engage
  | .disengaged => .disengage

/-- The child lock stands in a phase with nothing in flight. -/
def childStand (phase : ChildPhase) (k : ChildLock) : ChildLock :=
  { k with phase := phase, command := none, settleDeadline := none }

/-- The child lock enters DRIVING with its command prepared (R31 B). -/
def childDrive (k : ChildLock) : ChildLock :=
  { k with phase := .driving, command := some (childCommandFor k.target), settleDeadline := none }

/-- Actuating a child lock (R31). -/
def actuateChild (d : RearDoor) (s : State) : State :=
  let k := { child s d with retried := false }
  let c := rearClosure d
  let k :=
    if nodeLost s c || forcedOff s c then childStand .fault k
    else if childThere k then childStand .idle k
    else childDrive k
  setChild d k s

/-- A request sets a door's target and actuates it, unless its present actuation already runs toward it (R31). -/
def aimChild (target : ChildTarget) (d : RearDoor) (s : State) : State :=
  let k := child s d
  let same := k.target == target
  let s := setChild d { k with target := target } s
  if same && childBusy k then s else actuateChild d s

/-- The requests of R30 set the targets of some doors and hand them on at once. -/
def setChildTargets (target : ChildTarget) (doors : List RearDoor) (s : State) : State :=
  followSettings s (doors.foldl (fun t d => aimChild target d t) s)

/-- The target CHILD_TOGGLE gives both doors (R30). -/
def toggleTarget (s : State) : ChildTarget :=
  if allRearDoors.all fun d => (child s d).target == .engaged then .disengaged else .engaged

/-- CHILD_SET (R30); an activity event and a wake (R187 C, R192). -/
def childSetTarget (d : RearDoor) (target : ChildTarget) (s : State) : State :=
  if running s then setChildTargets target [d] (wake .request (activity s)) else s

/-- CHILD_TOGGLE (R30). -/
def childToggle (s : State) : State :=
  if running s then setChildTargets (toggleTarget s) allRearDoors (wake .request (activity s)) else s

/-- The record after a report whose child sensed field has been copied (R32, R33). The report that ends DRIVING does not
end the settle wait that it begins, whatever it shows (log entry 61). -/
def childPhaseReport (now : Nat) (k : ChildLock) : ChildLock :=
  match k.phase with
  | .driving =>
    if k.command.isNone then { k with phase := .settling, settleDeadline := some (now + Config.childSettleTime) } else k
  | .settling => if childThere k then childStand .idle k else k
  | .fault => if childThere k then childStand .idle k else k
  | .idle => if k.sensed == .unknown || childThere k then k else childDrive { k with retried := false }

/-- The Lock Controller takes the child sensed field of a report (R29); before RUN it only copies it (log entry 20). -/
def childReport (d : RearDoor) (sensed : ChildSensed) (s : State) : State :=
  let k := { child s d with sensed := sensed }
  setChild d (if running s then childPhaseReport s.now k else k) s

/-- An actuation ends in FAULT with nothing in flight, where one runs (R29, R177). -/
def childDown (k : ChildLock) : ChildLock := if childBusy k then childStand .fault k else k

/-- The node is declared LOST (R29); no child command stays prepared for it (R167). -/
def childLost (d : RearDoor) (s : State) : State :=
  setChild d { childDown (child s d) with sensed := .unknown, command := none } s

/-- The settle deadline has passed (R32); with sensed equal to target the lock is IDLE (log entry 8). -/
def childSettleExpired (d : RearDoor) (s : State) : State :=
  let k := child s d
  if childThere k then setChild d (childStand .idle k) s
  else if k.retried then raise .childFault (some (rearClosure d)) (setChild d (childStand .fault k) s)
  else setChild d { childDrive k with retried := true } s

/-- The window lockout flag takes a value, which is handed to the rear window inhibit (R35, R36). -/
def setLockout (flag : Bool) (s : State) : State :=
  followSettings s { s with cfg := { s.cfg with car := { s.cfg.car with lockout := flag } } }

end Sys2Proof.Machine
end

