-- ==== Sys2Proof/Machine/Keys.lean ====
section
/-!
DEFINITION. Remote keys (chapter 5): the Fob Table lookup, the counter check, the buttons and the hold.
-/

namespace Sys2Proof.Machine

def fob (s : State) (i : Nat) : Fob := s.cfg.fobs.getD i .blank

def setFob (i : Nat) (f : Fob) (s : State) : State := { s with cfg := { s.cfg with fobs := s.cfg.fobs.set i f } }

def fobRun (s : State) (i : Nat) : FobRun := s.fobRun.getD i .reset

def setFobRun (i : Nat) (r : FobRun) (s : State) : State := { s with fobRun := s.fobRun.set i r }

def setHold (h : Option Hold) (s : State) : State := { s with key := { s.key with hold := h } }

/-- The lookup: the first entry that is not EMPTY and holds the serial (R96). -/
def findFob (s : State) (serial : Nat) : Option Nat :=
  s.cfg.fobs.findIdx? fun f => f.state != .empty && f.serial == serial

/-- The last telegram record is written (05 section 5.2). -/
def noteTelegram (t : Telegram) (i : Option Nat) (result : TelegramResult) (s : State) : State :=
  { s with key := { s.key with lastTelegram := some ⟨t.serial, t.button, t.repeatNumber, i, result⟩ } }

/-! ## The counter check (R97 to R100) -/

/-- The distance forward from the accepted counter, modulo 2^20 (05 section 5.3). -/
def forward (accepted counter : Nat) : Nat :=
  (counter + Config.counterModulus - accepted % Config.counterModulus) % Config.counterModulus

/-- The counter completes a resync pair: it follows a candidate whose deadline has not passed (R99). -/
def completesPair (now : Nat) (r : FobRun) (counter : Nat) : Bool :=
  match r.candidate with
  | some cand => live now (some cand.deadline) && counter == (cand.counter + 1) % Config.counterModulus
  | none => false

/-- The result of a first press (R97 to R100). -/
def judgePress (now window : Nat) (f : Fob) (r : FobRun) (counter : Nat) : TelegramResult :=
  match f.accepted with
  | none => if completesPair now r counter then .resynced else .candidate
  | some a =>
    let d := forward a counter
    if 1 ≤ d ∧ d ≤ window then .accepted
    else if completesPair now r counter then .resynced
    else if window < d ∧ d ≤ Config.farAhead then .candidate
    else .replay

/-! ## Buttons (R102 to R104) -/

def fobLock (kind : LockKind) (releaseAfter : Bool) (s : State) : State := arriveLock ⟨kind, .fob, releaseAfter⟩ s

/-- The double-lock window is present and carries this fob (R102). -/
def doubleLockOf (i : Nat) (s : State) : Bool :=
  match s.group.doubleLock with
  | some w => w.fob == i && live s.now (some w.deadline)
  | none => false

/-- An accepted LOCK press (R102). -/
def lockPress (i : Nat) (s : State) : State :=
  let s := fobLock (if doubleLockOf i s then .deadlockAll else .lockAll) false s
  { s with group := { s.group with doubleLock := some ⟨i, s.now + Config.doubleLockTime⟩ } }

/-- An accepted UNLOCK press (R103). -/
def unlockPress (i : Nat) (s : State) : State :=
  match (fob s i).mode with
  | .all => fobLock .unlockAll false s
  | .driverFirst =>
    let s := fobLock (if live s.now s.group.driverFirst then .unlockAll else .unlockDriver) false s
    { s with group := { s.group with driverFirst := some (s.now + Config.driverFirstTime) } }

/-- The button of an accepted press is acted on (R102 to R104). -/
def pressButton (i : Nat) (button : Button) (s : State) : State :=
  match button with
  | .lock => lockPress i s
  | .unlock => unlockPress i s
  | .tailgate => fobLock .unlockTailgate true s

/-- An accepted press: counter, battery-low, hold, wake and activity, then the button (R97, R99, R101). -/
def acceptPress (i : Nat) (t : Telegram) (s : State) : State :=
  let s := setFob i { fob s i with accepted := some t.counter } s
  let s := setFobRun i ⟨none, t.batteryLow⟩ s
  let s := setHold (some ⟨i, t.button, t.counter, 0, false, s.now + Config.fobHoldTime, false⟩) s
  pressButton i t.button (wake .fob (activity s))

/-- A first press of a fob that may act (R97 to R101). -/
def firstPress (i : Nat) (t : Telegram) (s : State) : State :=
  let result := judgePress s.now s.cfg.key.forwardWindow (fob s i) (fobRun s i) t.counter
  let s := noteTelegram t (some i) result s
  match result with
  | .candidate =>
    setHold none (setFobRun i { fobRun s i with candidate := some ⟨t.counter, s.now + Config.candidateTime⟩ } s)
  | .replay => raise .replay none s
  | _ => acceptPress i t s

/-! ## The hold (R105 to R108) -/

/-- The descriptor a held button starts (R107). -/
def comfortDescriptor : Button → Option Nat
  | .lock => some 0
  | .unlock => some 1
  | .tailgate => none

/-- The hold counts the repeat (R105). -/
def countsRepeat (now : Nat) (i : Nat) (f : Fob) (t : Telegram) (h : Hold) : Bool :=
  live now (some h.deadline) && h.fob == i && t.button == h.button && t.counter == h.counter
    && f.accepted == some t.counter && (h.lastCounted < t.repeatNumber || t.repeatNumber == 255)

/-- A counted repeat: the hold moves on, and a comfort operation is started or renewed (R105, R107, R108); none is
started once comfort allowed has been cleared during the hold, also where it is set again (R95 D). -/
def countRepeat (i : Nat) (t : Telegram) (h : Hold) (s : State) : State :=
  let starts :=
    h.lastCounted < Config.comfortRepeat && Config.comfortRepeat ≤ t.repeatNumber && !h.operationStarted
      && !h.comfortCleared && (fob s i).comfortAllowed && (comfortDescriptor h.button).isSome
  let s := noteTelegram t (some i) .repeatCounted s
  let s := setFobRun i { fobRun s i with batteryLow := t.batteryLow } s
  let s := setHold
    (some { h with
      lastCounted := t.repeatNumber, deadline := s.now + Config.fobHoldTime
      operationStarted := h.operationStarted || starts }) s
  match comfortDescriptor h.button with
  | none => s
  | some d => if starts then startOperation d (.fob i) s else if h.operationStarted then renewLease i d s else s

/-- A repeat of a fob that may act (R105). -/
def repeatTelegram (i : Nat) (t : Telegram) (s : State) : State :=
  match s.key.hold with
  | some h => if countsRepeat s.now i (fob s i) t h then countRepeat i t h s else noteTelegram t (some i) .repeatIgnored s
  | none => noteTelegram t (some i) .repeatIgnored s

/-- A telegram that reaches the Key Unit (R96). -/
def takeTelegram (t : Telegram) (s : State) : State :=
  if !running s then s
  else
    match findFob s t.serial with
    | none =>
      noteTelegram t none .unknownFob { s with key := { s.key with unknownCount := min 65535 (s.key.unknownCount + 1) } }
    | some i =>
      if (fob s i).state == .blocked || !(fob s i).remoteAllowed then
        noteTelegram t (some i) .refused
          { s with key := { s.key with refusedCount := min 65535 (s.key.refusedCount + 1) } }
      else if t.repeatNumber = 0 then firstPress i t s
      else repeatTelegram i t s

end Sys2Proof.Machine
end

