-- ==== Sys2Proof/Machine/Passive.lean ====
section
/-!
DEFINITION. Passive entry (chapter 6): touch events, Search Slots and their outcomes, and wake-line detections (R183 to
R185), which give some of the touches.
-/

namespace Sys2Proof.Machine

/-! ## Slots (R113) -/

def slot (s : State) (n : Nat) : Option SearchSlot := (s.search.slots[n]?).join

def setSlot (n : Nat) (x : Option SearchSlot) (s : State) : State :=
  { s with search := { s.search with slots := s.search.slots.set n x } }

/-- The tags the open slots hold. -/
def openTags (s : State) : List Nat := s.search.slots.filterMap fun x => x.map (·.tag)

/-- The first tag from `t` on, rolling from 15 to 0, that is not in use (R113). -/
def freeTag (used : List Nat) : Nat → Nat → Nat
  | 0, t => t
  | fuel + 1, t => if used.contains t then freeTag used fuel ((t + 1) % 16) else t

/-- A slot closes: it becomes free and the last search record is written; KEY_INSIDE and MODULE_ERROR send a search
notice (R113, R126). -/
def closeSlot (n : Nat) (x : SearchSlot) (outcome : SearchOutcome) (who : Option Nat) (s : State) : State :=
  let record : SearchRecord := ⟨x.closure, x.purpose, x.tag, outcome, who⟩
  let s := setSlot n none { s with search := { s.search with last := some record } }
  if outcome == .keyInside || outcome == .moduleError then offerNotice (searchNoticeData record) s else s

/-- A slot opens: tag, deadline, Search Request frame, activity and wake (R113, R119). -/
def openSlot (n : Nat) (c : Closure) (p : Purpose) (trigger : Trigger) (s : State) : State :=
  let tag := freeTag (openTags s) 16 s.search.tagCounter
  let x : SearchSlot := ⟨c, p, tag, s.now + s.cfg.key.searchSteps * 10, trigger⟩
  let s := setSlot n (some x) { s with search := { s.search with tagCounter := (tag + 1) % 16 } }
  let s := offer { kind := .other, id := s.cfg.key.searchId, data := searchRequestData x, started := false } s
  wake .search (activity s)

/-- The open slot of a closure, with its number. -/
def findSlot (s : State) (c : Closure) : Option (Nat × SearchSlot) :=
  s.search.slots.zipIdx.findSome? fun p => p.1.bind fun x => if x.closure == c then some (p.2, x) else none

/-- A touch event (R118). -/
def touch (c : Closure) (p : Purpose) (trigger : Trigger) (s : State) : State :=
  if !s.cfg.key.passive then s
  else
    match findSlot s c with
    | some (n, x) => if x.purpose == p then s else openSlot n c p trigger (closeSlot n x .superseded none s)
    | none =>
      match s.search.slots.findIdx? Option.isNone with
      | none => { s with search := { s.search with noSlot := min 65535 (s.search.noSlot + 1) } }
      | some n => openSlot n c p trigger s

/-- A release-button press at TG (R26, R117). -/
def releaseButton (trigger : Trigger) (s : State) : State :=
  if (closure s .tg).target == .unlocked then releaseTailgate s else touch .tg .tailgate trigger s

/-- The handle event flags of a report (R115, R172). -/
def handleEvents (c : Closure) (rep : Report) (s : State) : State :=
  if !running s then s
  else if c == .tg && rep.releaseButton then releaseButton .handle s
  else if !s.cfg.key.touch.get c then s
  else if rep.touchUnlock then (if c == .tg then s else touch c .unlock .handle s)
  else if rep.touchLock then touch c .lock .handle s
  else s

/-! ## Responses (R120 to R124) -/

/-- The lowest eligible fob index set in a bitmap (R121). -/
def firstEligible (s : State) (bitmap : Nat) : Option Nat :=
  s.cfg.fobs.zipIdx.findSome? fun p =>
    if bitOf bitmap p.2 && p.1.state == .active && p.1.passiveAllowed then some p.2 else none

/-- The request of an UNLOCK search with a fob outside (R122). -/
def unlockKind (s : State) (c : Closure) (i : Nat) : LockKind :=
  if c == driverClosure s && (fob s i).mode == .driverFirst then .unlockDriver else .unlockAll

/-- The outcome of an OK response (R122 to R124). -/
def searchOutcome (n : Nat) (x : SearchSlot) (outside inside : Nat) (s : State) : State :=
  match x.purpose, firstEligible s outside, firstEligible s inside with
  | .unlock, some i, _ => arriveLock ⟨unlockKind s x.closure i, .passive, false⟩ (closeSlot n x .keyOutside (some i) s)
  | .tailgate, some i, _ => arriveLock ⟨.unlockTailgate, .passive, true⟩ (closeSlot n x .keyOutside (some i) s)
  | .lock, _, some j => closeSlot n x .keyInside (some j) (refuseKeyInside s)
  | .lock, some i, none => arriveLock ⟨.lockAll, .passive, false⟩ (closeSlot n x .keyOutside (some i) s)
  | _, none, _ => closeSlot n x .noKey none s

/-- A Search Response that reaches the Key Unit (R120). -/
def takeResponse (r : SearchResponse) (s : State) : State :=
  if !running s then s
  else
    match s.search.slots.zipIdx.findSome? fun p => p.1.bind fun x => if x.tag == r.tag then some (p.2, x) else none with
    | none => raise .late none s
    | some (n, x) => if r.error then closeSlot n x .moduleError none s else searchOutcome n x r.outside r.inside s

/-- Passive entry is switched off: every open slot closes with DISABLED (R114), in the order of the slot numbers (log
entry 65). -/
def closeAllSlots (s : State) : State :=
  (List.range 4).foldl
    (fun t n =>
      match slot t n with
      | some x => closeSlot n x .disabled none t
      | none => t)
    s

/-! ## Wake lines (R183 to R185, R116, R117) -/

/-- A detection on a closure line gives a touch event (R116, R117); `before` is the operating state at the detection. -/
def lineTouch (c : Closure) (before : OpState) (s : State) : State :=
  if before == .deep && c != driverClosure s then s
  else if c == .tg then releaseButton .wakeLine s
  else touch c .unlock .wakeLine s

/-- A detection on a wake line (R183, R185). -/
def detect (line : WakeLine) (s : State) : State :=
  let before := s.ctx.state
  let s := { s with lines := s.lines.set line { s.lines.get line with pending := true } }
  if running s && (s.cfg.lines.get line).enable then
    let s := wake (.wakeLine line) (activity s)
    match line with
    | .ign => s
    | .door c => lineTouch c before s
  else s

/-- A level mode's condition holds: the level is active while pending is clear (R183 C, D). -/
def levelCondition (mode : LineMode) (x : LineState) : Bool :=
  match mode with
  | .high => x.level == .high && !x.pending
  | .low => x.level == .low && !x.pending
  | _ => false

/-- The level modes are judged at the clearing of pending, at a write of the mode and at LISTEN (R183, R184). -/
def judgeLevel (line : WakeLine) (s : State) : State :=
  if levelCondition (s.cfg.lines.get line).mode (s.lines.get line) then detect line s else s

/-- A followed line takes a level; the change is a detection as its mode says (R183). -/
def lineLevel (line : WakeLine) (level : Level) (s : State) : State :=
  let old := (s.lines.get line).level
  let s := { s with lines := s.lines.set line { s.lines.get line with level := level } }
  match (s.cfg.lines.get line).mode with
  | .rising => if old == .low && level == .high then detect line s else s
  | .falling => if old == .high && level == .low then detect line s else s
  | _ => judgeLevel line s

/-- The level at which a mode detects. -/
def activeLevel : LineMode → Level
  | .rising => .high
  | .high => .high
  | .falling => .low
  | .low => .low

/-- CLEAR_WAKE naming a line (R184). -/
def clearWakeLine (line : WakeLine) (s : State) : State :=
  let x := s.lines.get line
  if x.pending then judgeLevel line { s with lines := s.lines.set line { x with pending := false } } else s

/-- The lines are followed from LISTEN on (R183). -/
def following (s : State) : Bool :=
  match s.stage with
  | .off => false
  | .load => false
  | _ => true

end Sys2Proof.Machine
end

