-- ==== Sys2Proof/Machine/FramePath.lean ====
section
/-!
DEFINITION. The Frame Path (chapter 8): rule matching and actions, the Trap Buffer, the Pass Queues, and the
transmission of queued frames. The queue's own offers stand in Ops.lean.
-/

namespace Sys2Proof.Machine

/-! ## Matching (R145, R146) -/

/-- An entry matches a frame (R145). -/
def ruleMatches (r : Rule) (id : CanId) (data : List Byte) : Bool :=
  r.valid && (id &&& r.mask) == (r.base &&& r.mask) && r.minLength ≤ data.length

/-- The first entry from index `start` on that matches (R145). -/
def firstMatch (rules : List Rule) (start : Nat) (id : CanId) (data : List Byte) : Option Nat :=
  (rules.zipIdx.drop start).findSome? fun p => if ruleMatches p.1 id data then some p.2 else none

def rule (s : State) (i : Nat) : Rule := s.cfg.rules.getD i .blank

/-- An entry's hit count rises (R145). -/
def countHit (i : Nat) (s : State) : State :=
  { s with counts := { s.counts with hits := s.counts.hits.set i (min 65535 (s.counts.hits.getD i 0 + 1)) } }

/-! ## Extraction and CONTEXT (R149, R150, R180, R181) -/

/-- The scaled value before its clamp (R149). -/
def extract (r : Rule) (data : List Byte) : Nat :=
  bitsOf (leValue data) (r.byteIndex * 8 + r.lowBit) r.width * r.num / r.den

/-- A speed write (R180), handed to the Lock Controller from RUN on (R181). -/
def writeSpeed (value : Nat) (s : State) : State :=
  let old := s.ctx.speed
  let oldFresh := speedFresh s
  let s := { s with ctx := { s.ctx with speed := min 255 value, speedFresh := some (s.now + Config.freshTime) } }
  if running s then speedUpdate old oldFresh s else s

/-- A voltage write (R180). -/
def writeVoltage (value : Nat) (s : State) : State :=
  { s with
    ctx := { s.ctx with voltage := max 60 (min 180 value), voltageFresh := some (s.now + Config.freshTime) } }

/-! ## Pass Queues (R158) -/

/-- One copy of a passed frame (R158 A to C). -/
def passTo (f : PassFrame) (c : Closure) (s : State) : State :=
  if nodeLost s c || forcedOff s c then s
  else if (s.pass.get c).length < Config.passPlaces then
    { s with pass := s.pass.set c (s.pass.get c ++ [f]) }
  else raise .passOverflow (some c) s

/-- The channels a mask names, in the order FL to TG, in which they take their copies (log entry 79). -/
def maskChannels (mask : Nat) : List Closure := allClosures.filter fun c => bitOf mask (closureCode c)

/-- A frame is passed to the channels of a mask; before RUN it is dropped (R148, R158). -/
def passFrame (mask : Nat) (f : PassFrame) (s : State) : State :=
  if running s then (maskChannels mask).foldl (fun t c => passTo f c t) s else s

/-! ## Trap Buffer (R154) -/

/-- The first ticket from `t` on, rolling from 255 to 0, that no held frame has (R154 B). -/
def freeTicket (used : List Nat) : Nat → Nat → Nat
  | 0, t => t
  | fuel + 1, t => if used.contains t then freeTicket used fuel ((t + 1) % 256) else t

/-- A TRAP entry decides a frame (R154); before RUN the frame is dropped (R148). -/
def trapFrame (i : Nat) (id : CanId) (data : List Byte) (s : State) : State :=
  if !running s then s
  else if Config.trapPlaces ≤ s.trap.held.length then raise .trapOverflow none s
  else
    let ticket := freeTicket (s.trap.held.map (·.ticket)) 256 s.trap.ticketCounter
    let f : HeldFrame := ⟨ticket, i, id, data, s.now + Config.trapTime⟩
    offerNotice (trapNoticeData false f) { s with trap := ⟨s.trap.held ++ [f], (ticket + 1) % 256⟩ }

/-! ## Requests of rules (R151, R152) -/

/-- The lock kind of a request code (12 section 12.2). -/
def lockKindOfCode : Nat → Option LockKind
  | 1 => some .lockAll
  | 2 => some .unlockAll
  | 3 => some .unlockDriver
  | 4 => some .deadlockAll
  | 5 => some .unlockTailgate
  | 7 => some .crashUnlock
  | _ => none

/-- The target of a percentage on a window of the given travel (R152 A). -/
def percentTarget (travel p : Nat) : Nat := (p * travel + 50) / 100

/-- The source of a lock request from a rule: CRASH for a CRASH_UNLOCK, and otherwise the entry's tag (R151). -/
def ruleSource (arg : Nat) (kind : LockKind) : LockSource :=
  if kind == .crashUnlock then .crash else if bitOf arg 9 then .body else .remote

/-- A REQUEST entry hands its request on (R151, R152); a code that is no kind a rule may carry hands nothing (log
entry 14). -/
def ruleRequest (r : Rule) (data : List Byte) (s : State) : State :=
  let arg := r.argument.toNat
  let code := bitsOf arg 0 4
  let windows := allWindows.filter fun w => bitOf arg (4 + windowCode w)
  match lockKindOfCode code with
  | some kind => arriveLock ⟨kind, ruleSource arg kind, false⟩ s
  | none =>
    match code with
    | 6 => releaseTailgate s
    | 11 =>
      let p := min 100 (extract r data)
      windows.foldl (fun t w => requestMotion ⟨w, percentTarget (windowCfg s w).travel p, .body, false⟩ t) s
    | 12 => windows.foldl (fun t w => stopWindow w t) s
    | 13 => startOperation (bitsOf arg 10 2) .body s
    | 14 => cancelOperation s
    | _ => s

/-! ## Deciding a frame (R145 to R148) -/

/-- The flags of the deciding entry, handed on before the action (R147). -/
def handFlags (r : Rule) (s : State) : State :=
  let s := if r.wake then wake .frame s else s
  if r.keepAwake then activity s else s

/-- The action of the deciding entry (R150 to R154, R158). -/
def performAction (i : Nat) (r : Rule) (id : CanId) (data : List Byte) (s : State) : State :=
  match r.action with
  | .pass => passFrame (bitsOf r.argument.toNat 0 5) ⟨id, data⟩ s
  | .request => ruleRequest r data s
  | .context => if bitOf r.argument.toNat 0 then writeVoltage (extract r data) s else writeSpeed (extract r data) s
  | .fob =>
    match readTelegram data with
    | some t => takeTelegram t s
    | none => s
  | .search =>
    match readSearchResponse data with
    | some x => takeResponse x s
    | none => s
  | .trap => trapFrame i id data s
  | .drop => s

/-- A frame that no entry matches (R146). -/
def defaultDisposition (id : CanId) (data : List Byte) (s : State) : State :=
  let s := { s with counts := { s.counts with noMatch := min 65535 (s.counts.noMatch + 1) } }
  if s.cfg.frame.passDefault then passFrame s.cfg.frame.defaultMask.toNat ⟨id, data⟩ s else s

/-- A frame is matched from an index on and decided (R145). -/
def matchFrame (start : Nat) (id : CanId) (data : List Byte) (s : State) : State :=
  match firstMatch s.cfg.rules start id data with
  | some i => performAction i (rule s i) id data (handFlags (rule s i) (countHit i s))
  | none => defaultDisposition id data s

/-! ## RELEASE, DISCARD and expiry (R155, R156) -/

def heldFrame (s : State) (ticket : Nat) : Option HeldFrame := s.trap.held.find? fun f => f.ticket == ticket

/-- The frame with the ticket leaves the buffer. -/
def freeTrap (ticket : Nat) (s : State) : State :=
  { s with trap := { s.trap with held := s.trap.held.filter fun f => f.ticket != ticket } }

/-- A RELEASE (R155). -/
def releaseFrame (f : HeldFrame) (s : State) : State := matchFrame (f.rule + 1) f.id f.data (freeTrap f.ticket s)

/-- A held frame's expiry has passed (R156). -/
def expireFrame (f : HeldFrame) (s : State) : State := offerNotice (trapNoticeData true f) (freeTrap f.ticket s)

/-! ## Transmission (R141, R161) -/

/-- The queued frame that is sent next: the lowest identifier, and the first of those (R161). -/
def nextFrame : List TxFrame → Option TxFrame
  | [] => none
  | f :: rest =>
    match nextFrame rest with
    | none => some f
    | some g => if f.id ≤ g.id then some f else some g

/-- Marks the first queued frame with the identifier as being transmitted. -/
def markStarted (id : CanId) : List TxFrame → List TxFrame
  | [] => []
  | f :: rest => if f.id = id then { f with started := true } :: rest else f :: markStarted id rest

def transmitting (s : State) : Bool := s.tx.any (·.started)

/-- A transmission can begin: the port transmits from LISTEN on while ACTIVE, with none in progress (R161, R211). -/
def mayTransmit (s : State) : Bool := following s && s.port == .active && !transmitting s && !s.tx.isEmpty

/-- A transmission begins (R161). -/
def beginTransmission (s : State) : State :=
  if mayTransmit s then
    match nextFrame s.tx with
    | some f => { s with tx := markStarted f.id s.tx }
    | none => s
  else s

/-- The frame in transmission has been acknowledged and leaves the queue (R161). -/
def acknowledge (s : State) : State := { s with tx := s.tx.filter fun f => !f.started }

/-- The attempt in progress is over; its frame stays with its place (R161). -/
def abandonAttempt (s : State) : State := { s with tx := s.tx.map fun f => { f with started := false } }

/-- The controller goes bus-off (R141). -/
def enterSilent (s : State) : State := raise .busOff none { abandonAttempt s with port := .silent s.now }

end Sys2Proof.Machine
end

