-- ==== Sys2Proof/Machine/AntiPinch.lean ====
section
/-!
DEFINITION. The anti-pinch computation (chapter 4): the stages of R70, the decision, the pinch and its reversal, and the
adaptation of Reference Profiles; and what the Window Controller does with the motor data of a report (R43, R62, R64).
-/

namespace Sys2Proof.Machine

/-! ## The stages (R72 to R78) -/

/-- Stage A (R72). -/
def integrate (dir : Direction) (d travel : Nat) (x : Window) : Window :=
  { x with
    position :=
      match dir with
      | .up => x.position - d
      | .down => min travel (x.position + d) }

/-- The compensated current of a sample at a voltage (R74). -/
def compensate (i v : Nat) : Nat := min 255 ((i * 135 + v / 2) / v)

/-- The voltage the computation takes (R74). -/
def pinchVoltage (s : State) : Nat :=
  if voltageFresh s then max 60 (min 180 s.ctx.voltage) else Config.nominalVoltage

/-- The zone of a position (R75). -/
def zoneOf (position travel : Nat) : Nat := min 15 (position * 16 / travel)

/-- The rough margin applies (R76). -/
def rough (s : State) : Bool := !speedFresh s || Config.roughSpeed ≤ s.ctx.speed || !voltageFresh s

/-- The threshold of a report (R76). -/
def threshold (s : State) (p : WindowSettings) : Nat := p.tBase + if rough s then p.margin else 0

/-- A count 0..255, saturating. -/
def bump (n : Nat) : Nat := min 255 (n + 1)

/-- Stages B and F: the run counter, and after blanking the zero count (R73, R78). -/
def countReport (d blanking : Nat) (x : Window) : Window :=
  let run := bump x.runCounter
  { x with
    runCounter := run
    zeroCount := if run ≤ blanking then x.zeroCount else if d = 0 then bump x.zeroCount else 0 }

/-- The report is after blanking (R73). -/
def afterBlanking (blanking : Nat) (x : Window) : Bool := blanking < x.runCounter

/-- The window is blocked (R78). -/
def blocked (x : Window) : Bool := 2 ≤ x.zeroCount

/-- Stage E: the excess over the profile against the threshold (R75, R77). -/
def debounceStep (current profile threshold : Nat) (x : Window) : Window :=
  { x with debounce := if profile + threshold < current then bump x.debounce else 0 }

/-- Stage G (R89). -/
def collectSample (d zone current : Nat) (x : Window) : Window :=
  if x.normalized && d ≠ 0 then
    let best := match (x.maxima[zone]?).join with
      | some m => max m current
      | none => current
    { x with maxima := x.maxima.set zone (some best) }
  else x

/-! ## The decision (R79 to R83) -/

/-- What stage H decides. -/
inductive Decision where
  | none | endStop | normHold
  | pinch (cause : PinchCause)
  deriving DecidableEq, Repr

/-- Stage H (R79 to R83). CURRENT is judged first everywhere, so where CURRENT and BLOCK fall on one report in the top
margin, or on an unnormalized window, the window pinches (log entry 63). -/
def decide (p : WindowSettings) (current : Nat) (x : Window) : Decision :=
  let excess := p.debounce ≤ x.debounce
  if p.ceiling ≤ current then .pinch .current
  else if !x.normalized then (if blocked x && x.held then .normHold else .none)
  else if x.position < p.topMargin then (if blocked x then .endStop else .none)
  else if x.position ≤ min p.span p.travel then
    if excess then .pinch .excess else if blocked x then .pinch .block else .none
  else .none

/-! ## Pinch and adaptation (R85, R90, R91) -/

/-- The record of a window that pinches: PINCHED, the pinch record, the reversal and REVERSING (R85 A to D). -/
def pinchedRecord (p : WindowSettings) (cause : PinchCause) (x : Window) : Window :=
  let distance := min p.backOff p.travel
  { x with
    lastOutcome := some .pinched, lastPinchPosition := x.position, pinchCount := bump x.pinchCount
    lastPinchCause := some cause, pinchFlag := true
    reversalTarget := if x.normalized then some (min p.travel (x.position + distance)) else none
    reversalRipple := 0, reversalDistance := distance, state := .reversing, direction := .down, normHold := none
    runStart := none, origin := none, held := false }

/-- A pinch is taken (R85). -/
def takePinch (w : WindowId) (cause : PinchCause) (zone current : Nat) (s : State) : State :=
  let x := window s w
  let y := pinchedRecord (windowCfg s w) cause x
  let s := handOutcome x.origin w .pinched (setWindow w y s)
  raiseWith (some ⟨zone, x.position, cause, current, y.pinchCount⟩) .pinch (some (windowClosure w)) s

/-- One zone after adaptation (R91). -/
def adaptZone (r : Nat) : Option Nat → Nat
  | none => r
  | some m =>
    let step := max (-4) (min 4 (((m : Int) - r + 4) / 8))
    (max 0 (min 200 ((r : Int) + step))).toNat

/-- The adapted profile (R91). -/
def adaptProfile (profile : List Nat) (maxima : List (Option Nat)) : List Nat :=
  List.zipWith adaptZone profile (maxima ++ List.replicate 16 none)

def setProfile (w : WindowId) (profile : List Nat) (s : State) : State :=
  { s with cfg := { s.cfg with profiles := s.cfg.profiles.set w profile } }

/-- The end stop: P becomes 0, the motion ends REACHED, and a clean run is adapted (R81, R90, R91). -/
def endStop (w : WindowId) (s : State) : State :=
  let x := window s w
  let adapted := x.normalized && Config.adaptStart ≤ x.startPosition
  let s := if adapted then setProfile w (adaptProfile (s.cfg.profiles.get w) x.maxima) s else s
  let s := setWindow w { x with position := 0, maxima := if adapted then List.replicate 16 none else x.maxima } s
  endMotion w .reached s

/-- The decision of stage H is carried out. -/
def carryOut (w : WindowId) (zone current : Nat) (decision : Decision) (s : State) : State :=
  match decision with
  | .none => s
  | .endStop => endStop w s
  | .normHold =>
    let x := window s w
    setWindow w { x with normHold := x.normHold <|> some (s.now + Config.holdTime) } s
  | .pinch cause => takePinch w cause zone current s

/-! ## Reports of a running motor (R62, R70, R86) -/

/-- A report that answers UP of the present closing motion (R70); the target test follows (R62). A ripple delta above 0
ends the normalization hold in blanking too, where the zero count stays as it is (log entry 87). -/
def closingReport (w : WindowId) (d i : Nat) (s : State) : State :=
  let p := windowCfg s w
  let x := countReport d p.blanking (integrate .up d p.travel (window s w))
  let x := if d = 0 then x else { x with normHold := none }
  let s :=
    if afterBlanking p.blanking x then
      let zone := zoneOf x.position p.travel
      let current := compensate i (pinchVoltage s)
      let x := debounceStep current ((s.cfg.profiles.get w).getD zone 0) (threshold s p) x
      let x := collectSample d zone current x
      carryOut w zone current (decide p current x) (setWindow w x s)
    else setWindow w x s
  endIfReached w s

/-- A report that answers DOWN of the present opening motion: the bottom stop and the target end it (R62). -/
def openingReport (w : WindowId) (d : Nat) (s : State) : State :=
  let p := windowCfg s w
  let x := countReport d p.blanking (integrate .down d p.travel (window s w))
  let s := setWindow w x s
  if blocked x && afterBlanking p.blanking x then endMotion w .reached s else endIfReached w s

/-- The reversal has run its course (R86 A to C). -/
def reversalOver (blanking : Nat) (x : Window) : Bool :=
  (match x.reversalTarget with
    | some t => t ≤ x.position
    | none => x.reversalDistance ≤ x.reversalRipple) || (blocked x && afterBlanking blanking x)

/-- A report that answers DOWN of a reversal (R86). -/
def reversalReport (w : WindowId) (d : Nat) (s : State) : State :=
  let p := windowCfg s w
  let x := countReport d p.blanking (integrate .down d p.travel (window s w))
  let x := { x with reversalRipple := min 8191 (x.reversalRipple + d) }
  let s := setWindow w x s
  if reversalOver p.blanking x then endRunning w none s else s

/-- The report answers a drive of the present motion in the given direction: no stop is due, and neither the motion nor
its direction has changed since (R70, R84). -/
def answersMotion (dir : Direction) (x : Window) : Bool := windowMoving x && x.direction == dir && !x.stopDue

/-- Stage A alone (R70). -/
def coastReport (w : WindowId) (dir : Direction) (d : Nat) (s : State) : State :=
  setWindow w (integrate dir d (windowCfg s w).travel (window s w)) s

/-- The motor data of a report, by the motor command of the drive it answers (R43, R70); a report that recovers a LOST
node and answers the first STOP drive counts the coast like any other (log entry 70). -/
def motorData (w : WindowId) (d i : Nat) (s : State) : State :=
  let x := window s w
  match x.lastDrive with
  | .up => if answersMotion .up x then closingReport w d i s else coastReport w .up d s
  | .down =>
    if answersMotion .down x then
      if x.state == .reversing then reversalReport w d s else openingReport w d s
    else coastReport w .down d s
  | .stop =>
    match x.coast with
    | some dir => coastReport w dir d s
    | none => s

/-- The Window Controller takes the motor data of a report: heat, then position and computation (R62, R64 A and B). -/
def windowReport (w : WindowId) (rep : Report) (s : State) : State :=
  let x := window s w
  let s := setWindow w (if motorRunning x then heatUp s.now x else heatDecay s.now x) s
  motorData w rep.ripple rep.current s

end Sys2Proof.Machine
end

