-- ==== Sys2Proof/Machine/StartUp.lean ====
section
/-!
DEFINITION. Start-up (11 section 11.9): LOAD at power-on and at restart with the values each keeps (R207, R210 and the
last section of every chapter), LISTEN, POLL, SENSE and the entry into RUN; and the end of a save (R209).
-/

namespace Sys2Proof.Machine

/-! ## The image (R207, R209) -/

/-- The tables the image gives; `none` for a bad check word. An image left unknown by a failed save gives what the
free value says (log entry 9). -/
def readImage (s : State) : Option Tables :=
  match s.store.image with
  | .good t => some t
  | .bad => none
  | .unknown candidates =>
    match Config.failedImage s.draws with
    | .bad => none
    | .whole i => candidates[i]?

/-- A LOAD of an unknown image draws one free value. -/
def drawsAfter (s : State) : Nat :=
  match s.store.image with
  | .unknown _ => s.draws + 1
  | _ => s.draws

/-- Of two loaded non-EMPTY entries with one serial the higher one loads as EMPTY (R109), its other fields as they stand in
the image (log entry 64). -/
def loadFobs (fobs : List Fob) : List Fob :=
  fobs.zipIdx.map fun p =>
    if p.1.state != .empty && (fobs.take p.2).any (fun g => g.state != .empty && g.serial == p.1.serial) then
      { p.1 with state := .empty }
    else p.1

/-- What LOAD does to tables as it loads them: R69's clamp of Open Limit, R109, and the lock cell's record in place of
the image's (R204). -/
def loadTables (cell : Option Protection) (t : Tables) : Tables :=
  { t with
    windows := t.windows.mapWith fun _ x => { x with openLimit := min x.openLimit x.travel }
    fobs := loadFobs t.fobs
    protection := cell.getD t.protection }

/-- The tables after LOAD: the image's, or the factory defaults (R207). -/
def loadedTables (s : State) : Tables := loadTables s.store.lockCell ((readImage s).getD .factory)

/-! ## The base (R196) -/

/-- Bit `n` of B, from its strap or from the Stored Base. -/
def baseBit (sel : Selector) (strap : Bool) (stored : CanId) (n : Nat) : Nat :=
  flagBit (match sel with | .strap => strap | .stored => bitOf stored.toNat n)

/-- B as LOAD forms it (R196). -/
def formBase (ids : IdSettings) (p : Straps) : CanId :=
  let b := ids.storedBase.toNat
  BitVec.ofNat 11
    (bitsOf b 2 1 * 4 + baseBit ids.bit3 p.s0 ids.storedBase 3 * 8 + baseBit ids.bit4 p.s1 ids.storedBase 4 * 16
      + baseBit ids.bit5 p.s2 ids.storedBase 5 * 32 + bitsOf b 6 5 * 64)

/-! ## Power-on and restart (R210, R211) -/

def ignitionOf : Level → Ignition
  | .high => .run
  | .low => .off

/-- The part with every working record at its power-on value and no supply; the queue, the clock, the pins, the image
and the lock cell are as they were. -/
def cold (s : State) : State :=
  { State.reset with
    pending := s.pending, now := s.now, draws := s.draws, pins := s.pins, strapPins := s.strapPins, stage := .off
    lines := s.pins.mapWith fun _ level => ⟨false, level⟩
    ctx := { Context.reset with ignition := ignitionOf s.pins.ign }
    faults := List.replicate 14 .clear
    store :=
      { image := s.store.image, lockCell := s.store.lockCell, snapshot := none, parkKept := false, lastResult := none
        blankAtLoad := false } }

/-- LOAD: the tables are loaded, B is formed, and a blank image raises STORE_BLANK (R196, R207, R211). `s` is the part
as it was, with the image; `t` has every record at its reset value. -/
def loadStage (kind : ResetKind) (tables : Tables) (s t : State) : State :=
  let blank := (readImage s).isNone
  let t := { t with
    stage := .load, draws := drawsAfter s, cfg := tables
    mgmt :=
      { cursor := ⟨0, 0, 0⟩, mask := none, base := formBase tables.ids s.strapPins, straps := s.strapPins
        resetKind := kind }
    store := { t.store with blankAtLoad := blank } }
  if blank then raise .storeBlank none t else t

/-- Power-on (R211): every record starts from its power-on value. -/
def powerOn (straps : Straps) (s : State) : State :=
  let s := { s with strapPins := straps }
  let tables := loadedTables s
  let t := cold s
  loadStage .powerOn tables s { t with windows := tables.windows.mapWith fun _ p => .reset p.travel s.now }

/-- The accepted counters kept across a restart (R110); after a bad image the loaded serials are the default ones (log
entry 57). -/
def keptCounters (working loaded : List Fob) : List Fob :=
  List.zipWith (fun w l => if w.serial = l.serial then { l with accepted := w.accepted } else l) working loaded

/-- A window across a restart (R57, R69, R93): P, normalized, heat and hot are kept, after a pending clear has been
made; a stored Travel that differs takes effect as a write of it (R44). The requested target is the kept P, lowered
to the new travel. -/
def restartWindow (oldTravel travel now : Nat) (x : Window) : Window :=
  let kept := if x.clearPending then unnormalize oldTravel x else x
  let y := if oldTravel = travel then kept else { kept with position := travel, normalized := false }
  { Window.reset travel now with
    position := y.position, normalized := y.normalized, heat := x.heat, hot := x.hot, heatStamp := x.heatStamp
    requested := min kept.position travel, startPosition := y.position }

/-- A restart (R210): start-up begins again at LOAD with the kept values. -/
def restart (s : State) : State :=
  let loaded := loadedTables s
  let tables := { loaded with profiles := s.cfg.profiles, fobs := keptCounters s.cfg.fobs loaded.fobs }
  let t := cold s
  loadStage .restart tables s
    { t with
      group := { t.group with
        tokens := s.group.tokens, crashHold := s.group.crashHold
        refillDeadline := if s.group.tokens < Config.tokenMax then some (s.now + Config.refillTime) else none }
      windows := s.windows.mapWith fun w x => restartWindow (windowCfg s w).travel (tables.windows.get w).travel s.now x
      ctx := { t.ctx with speed := s.ctx.speed, voltage := s.ctx.voltage } }

/-! ## LISTEN and POLL (R211, R212) -/

/-- LOAD ends: LISTEN begins, the lines and IGN are followed, and a line in a level mode that stands at its active level
gives a detection (R183, R211). -/
def beginListen (s : State) : State :=
  let s := { s with
    stage := .listen, listenEnd := some (s.now + Config.listenTime)
    lines := s.pins.mapWith fun l level => { s.lines.get l with level := level }
    ctx := { s.ctx with ignition := ignitionOf s.pins.ign } }
  allLines.foldl (fun t l => judgeLevel l t) s

/-- LISTEN ends: POLL begins and every channel sends its first drive (R212). -/
def beginPoll (s : State) : State := chooseRates { s with stage := .poll, listenEnd := none }

/-! ## SENSE and RUN (R28, R34, R212, R213) -/

/-- The known state that a first report shows SENSE, as a target; none where there is no report, or no known state
(R28). -/
def sensedTarget (c : Closure) (first : Option (LockSensed × ChildSensed)) : Option LockTarget :=
  first.bind fun p => manualTarget (sensedOf c p.1)

/-- The target SENSE takes: the known state of the first report, or else LOCKED, and the first known state is awaited
(R28). -/
def senseLock (c : Closure) (first : Option (LockSensed × ChildSensed)) (k : ClosureLock) : ClosureLock :=
  { k with target := (sensedTarget c first).getD .locked, senseWaits := (sensedTarget c first).isNone }

/-- The child-lock target SENSE takes; ENGAGED where there is no report, or UNKNOWN (R34). -/
def senseChild : Option (LockSensed × ChildSensed) → ChildTarget
  | some (_, .disengaged) => .disengaged
  | _ => .engaged

/-- SENSE sets every target (R212). -/
def sense (s : State) : State :=
  { s with
    stage := .sense
    closures := s.closures.mapWith fun c k => senseLock c (channel s c).firstSense k
    children := s.children.mapWith fun d k =>
      { k with target := senseChild (channel s (rearClosure d)).firstSense } }

/-- The STARTED notice (R213). -/
def startedNotice (s : State) : List Byte :=
  startedNoticeData s.mgmt.resetKind s.mgmt.base s.mgmt.straps s.store.blankAtLoad s.store.lockCell.isSome

/-- A channel held at FORCED_OFF hands the stop on at the entry into RUN: a window that a loss in POLL put in FAULT is IDLE
(R67, R177 A; log entry 59). -/
def idleForcedOff (s : State) : State :=
  { s with windows := s.windows.mapWith fun w x => if forcedOff s (windowClosure w) then leaveFault x else x }

/-- The entry into RUN (R186, R213). -/
def enterRun (s : State) : State :=
  let s := { s with
    stage := .run
    ctx := { s.ctx with state := .awake, ignition := ignitionOf s.pins.ign, lastWake := none } }
  let s := startStatus (idleForcedOff (chooseRates (clearReported (activity s))))
  let s := if s.group.crashKept then takeCrash { s with group := { s.group with crashKept := false } } else s
  offerNotice (startedNotice s) s

/-- POLL ends once every channel has given a good report or is LOST; SENSE and RUN follow at once (R212, R213). -/
def pollCheck (s : State) : State :=
  if s.stage == .poll && allClosures.all fun c => (channel s c).firstSense.isSome || nodeLost s c then
    enterRun (sense s)
  else s

/-! ## The end of a save (R204, R209) -/

/-- The whole images the store may hold. -/
def imageCandidates : StoreImage → List Tables
  | .good t => [t]
  | .bad => []
  | .unknown candidates => candidates

/-- A save completes with a good verify: the image is the snapshot, and a locked record sets the lock cell for good. -/
def saveGood (snapshot : Tables) (s : State) : State :=
  { s with
    store := { s.store with
      image := .good snapshot, snapshot := none, lastResult := some true
      lockCell := s.store.lockCell <|> (if snapshot.protection.lock then some snapshot.protection else none) } }

/-- A save completes with a failed verify: the image is unknown, and STORE_FAIL is raised. -/
def saveFailed (snapshot : Tables) (s : State) : State :=
  raise .storeFail none
    { s with
      store := { s.store with
        image := .unknown (imageCandidates s.store.image ++ [snapshot]), snapshot := none, lastResult := some false } }

/-- A kept park save begins at once (R190, R209). -/
def startKept (s : State) : State :=
  if s.store.parkKept then beginSave { s with store := { s.store with parkKept := false } } else s

/-- What a power loss leaves of the image while a save runs (R209; log entry 10). -/
def tornImage (extent : WriteExtent) (store : Store) : StoreImage :=
  match store.snapshot, extent with
  | none, _ => store.image
  | some _, .nothing => store.image
  | some _, .part => .bad
  | some t, .whole => .good t

end Sys2Proof.Machine
end

