-- ==== Sys2Proof/Machine/Links.lean ====
section
/-!
DEFINITION. The Door Link Engine (chapter 9): good reports in the order of R168, edges, lost nodes, cycle ends and
Channel Power Modes. Building and sending a drive, and rates, stand in Drives.lean.
-/

namespace Sys2Proof.Machine

/-! ## Switch levels and edges (R170, R171) -/

/-- The last report of a channel whose node is PRESENT (log entry 27). -/
def presentReport (s : State) (c : Closure) : Option Report :=
  if (channel s c).link == .present then (channel s c).lastReport else none

/-- The present level of a window's own switch, when channel `c` gives `rep`. -/
def ownLevel (s : State) (c : Closure) (rep : Report) (w : WindowId) : Switch :=
  if windowClosure w == c then rep.ownSwitch
  else ((presentReport s (windowClosure w)).map (·.ownSwitch)).getD .none

/-- The present level of a window's driver-pack switch, when channel `c` gives `rep`. -/
def packLevel (s : State) (c : Closure) (rep : Report) (w : WindowId) : Switch :=
  if driverClosure s == c then rep.pack.get w
  else ((presentReport s (driverClosure s)).map (·.pack.get w)).getD .none

/-- An edge of the central lock switch or the key cylinder (R4). -/
def lockSwitchEdge (source : LockSource) (old new : LockSwitch) (s : State) : State :=
  match old, new with
  | .none, .lock => arriveLock ⟨.lockAll, source, false⟩ s
  | .none, .unlock => arriveLock ⟨.unlockAll, source, false⟩ s
  | _, _ => s

/-- The child button's press edge toggles the child locks (R30). -/
def childButtonEdge (old new : Bool) (s : State) : State := if !old && new then childToggle s else s

/-- The lockout button: every edge is activity and a wake with cause BUTTON, and a press changes the flag (R35, R187 E,
R192). -/
def lockoutButtonEdge (old new : Bool) (s : State) : State :=
  if old == new then s
  else
    let s := wake .button (activity s)
    if new then setLockout (!s.cfg.car.lockout) s else s

/-- The driver-pack edges of a report from the driver closure's node (R171). -/
def packEdges (c : Closure) (old rep : Report) (s : State) : State :=
  let s := allWindows.foldl
    (fun t w => switchEdge w .driverPack (old.pack.get w) (rep.pack.get w) (ownLevel t c rep w) t) s
  let s := lockSwitchEdge .insideSwitch old.central rep.central s
  let s := childButtonEdge old.childButton rep.childButton s
  let s := lockoutButtonEdge old.lockoutButton rep.lockoutButton s
  lockSwitchEdge .keyCylinder old.keyCylinder rep.keyCylinder s

/-- The own-switch edge of a report. -/
def ownEdge (c : Closure) (old rep : Report) (s : State) : State :=
  match closureWindow c with
  | some w => switchEdge w .ownSwitch old.ownSwitch rep.ownSwitch (packLevel s c rep w) s
  | none => s

/-- Item E of R168: the edges, the driver pack's first, then the own-switch level (R170, R171). -/
def takeEdges (c : Closure) (old : Option Report) (rep : Report) (s : State) : State :=
  let s :=
    match old with
    | some o =>
      if running s then ownEdge c o rep (if c == driverClosure s then packEdges c o rep s else s) else s
    | none => s
  match closureWindow c with
  | some w => clearSuppressed w rep.ownSwitch s
  | none => s

/-! ## Node faults (R175) -/

/-- A fault flag is set that was clear in the report compared with; in an edge-free report every set flag counts. -/
def newFault (old : Option Report) (rep : Report) : Bool :=
  match old with
  | some o => (rep.overtemp && !o.overtemp) || (rep.openLoad && !o.openLoad) || (rep.lowSupply && !o.lowSupply)
  | none => rep.overtemp || rep.openLoad || rep.lowSupply

/-- Item D of R168: NODE_FAULT is raised before the overtemperature flag stops the window (R68, R175; log entry 88). -/
def takeFaults (c : Closure) (old : Option Report) (rep : Report) (s : State) : State :=
  let s := if running s && newFault old rep then raise .nodeFault (some c) s else s
  match closureWindow c with
  | some w => windowOvertemp w rep.overtemp s
  | none => s

/-! ## Good reports (R168, R169, R174) -/

/-- An uplink payload from RUN on (R159). -/
def takeUplink (c : Closure) (rep : Report) (s : State) : State :=
  match rep.uplink, s.cfg.frame.uplinkIds.get c with
  | some data, some id => if running s then offer { kind := .other, id := id, data := data, started := false } s else s
  | _, _ => s

/-- The counts of a good report, and what SENSE keeps of the first one (R165, R178, R28). -/
def countGood (rep : Report) (ch : Channel) : Channel :=
  { ch with
    answered := true, missing := 0, goodCount := min 65535 (ch.goodCount + 1)
    firstSense := ch.firstSense <|> some (rep.lockSensed, rep.childSensed) }

/-- Item H of R168: last report, PRESENT and readiness (R169). -/
def recordReport (rep : Report) (awake : Bool) (ch : Channel) : Channel :=
  { ch with
    lastReport := some rep, comparable := true, link := .present, reported := ch.reported || awake }

/-- Item B of R168; the group may become idle by it (R17). -/
def takeLocks (c : Closure) (rep : Report) (recovery : Bool) (s : State) : State :=
  let s := lockReport c rep recovery s
  let s := match closureRear c with
    | some d => childReport d rep.childSensed s
    | none => s
  followGroup s

/-- Item C of R168. -/
def takeMotor (c : Closure) (rep : Report) (s : State) : State :=
  match closureWindow c with
  | some w => windowReport w rep s
  | none => s

/-- Item A of R168: the recovery of a LOST node (R174). -/
def recoverNode (c : Closure) (s : State) : State :=
  if nodeLost s c then
    let s := setChannel c { channel s c with link := .present } s
    match closureWindow c with
    | some w => windowRecovered w s
    | none => s
  else s

/-- A good report, in the order of R168. -/
def goodReport (c : Closure) (rep : Report) (s : State) : State :=
  let ch := channel s c
  let awake := isAwake s
  let recovery := nodeLost s c
  let old := if ch.comparable then ch.lastReport else none
  let s := recoverNode c (setChannel c (countGood rep ch) s)
  let s := takeMotor c rep (takeLocks c rep recovery s)
  let s := takeEdges c old rep (takeFaults c old rep s)
  let s := takeUplink c rep (handleEvents c rep s)
  let s := setChannel c (recordReport rep awake (channel s c)) s
  pollCheck (followGroup s)

/-- A report is taken in a cycle that has not ended and has no good report yet (R165). -/
def cycleOpen (s : State) (c : Closure) : Bool :=
  live s.now (channel s c).cycleEnd && !(channel s c).answered

/-! ## Cycle ends and losses (R165, R173) -/

/-- A release prepared for the next drive is dropped when TG's node is declared LOST (R167; log entry 60). -/
def dropRelease (c : Closure) (s : State) : State :=
  if c == .tg then { s with release := { s.release with prepared := false } } else s

/-- The node is declared LOST (R173). Nothing stays prepared for it (R167). A held motion of another window that the driver
pack began runs on when the driver closure's node is lost, as no edge ends it (log entry 76). -/
def declareLost (c : Closure) (s : State) : State :=
  let ch := channel s c
  let s := setChannel c
    { ch with
      link := .lost, lastReport := none, comparable := false, reported := false
      lossCount := min 65535 (ch.lossCount + 1) } s
  let s := dropRelease c (lockLost c s)
  let s := match closureRear c with
    | some d => childLost d s
    | none => s
  let s := followGroup s
  let s := match closureWindow c with
    | some w => windowLost w s
    | none => s
  raise .linkLost (some c) { s with pass := s.pass.set c [] }

/-- A cycle ended without a good report (R165). The missing count of a LOST channel is left as it is, also where a stop
of the channel has made it 0 (R166 C; log entry 69). -/
def missedReport (c : Closure) (s : State) : State :=
  let ch := channel s c
  let ch := { ch with missingCount := min 65535 (ch.missingCount + 1) }
  if ch.link == .lost then setChannel c ch s
  else
    let ch := { ch with missing := min Config.lostAfter (ch.missing + 1) }
    let s := setChannel c ch s
    if Config.lostAfter ≤ ch.missing then declareLost c s else s

/-- The cycle end (R165): a missing report is counted, and the next drive is sent. -/
def cycleEnds (c : Closure) (s : State) : State :=
  let s := if (channel s c).answered then s else pollCheck (missedReport c s)
  if channelOff s c then s else sendDrive c s

/-! ## Channel Power Modes (R177) -/

/-- The hand-overs of a channel set to FORCED_OFF (R177). No further drive is sent, so a slot that still waits for its
STOP drive is freed too (R58). A held motion of another window that the driver pack began runs on when the driver
closure's channel stops so (log entry 86). -/
def handForcedOff (c : Closure) (s : State) : State :=
  let s := match closureWindow c with
    | some w => windowForcedOff w s
    | none => s
  let s := setClosure c (closureDown (closure s c)) s
  let s := match closureRear c with
    | some d => setChild d (childDown (child s d)) s
    | none => s
  let s := followGroup s
  { s with
    pass := s.pass.set c []
    motion := { s.motion with slots := s.motion.slots.filter fun sl => windowClosure sl.window != c } }

/-- A Channel Power Mode is written (R176, R177). -/
def setMode (c : Closure) (mode : PowerMode) (s : State) : State :=
  let old := s.cfg.modes.get c
  let s := chooseRates { s with cfg := { s.cfg with modes := s.cfg.modes.set c mode } }
  if mode == .forcedOff && old != .forcedOff then handForcedOff c s else s

end Sys2Proof.Machine
end

