-- ==== Sys2Proof/Machine/TableWords.lean ====
section
/-!
DEFINITION. The tables the management cursor reaches as READ shows them (11 section 11.3, 12 section 12.7, R216): the
placement, the fields of each entry in order, and the region of each table. The words are computed from the records.
-/

namespace Sys2Proof.Machine

/-! ## Placement (R216) -/

/-- The words of fields placed upward from bit 0, each a (width, value) pair; a field that would cross a word boundary
begins the next word. -/
def placeFrom : List (Nat × Nat) → Nat → Nat → List Nat
  | [], current, _ => [current]
  | (w, v) :: rest, current, used =>
    if used + w ≤ 32 then placeFrom rest (current + v % 2 ^ w * 2 ^ used) (used + w)
    else current :: placeFrom rest (v % 2 ^ w) w

def place (fields : List (Nat × Nat)) : List Nat := placeFrom fields 0 0

/-- A field that may be absent: one more bit above its value bits, and 0 in every bit while absent. -/
def optField (width : Nat) : Option Nat → Nat × Nat
  | some v => (width + 1, 2 ^ width + v % 2 ^ width)
  | none => (width + 1, 0)

def flagField (b : Bool) : Nat × Nat := (1, flagBit b)

/-- A time in 10 ms steps over 16 bits, saturating (R216; rounded down, log entry 15). -/
def timeSteps (ms : Nat) : Nat := min 65535 (ms / 10)

/-- The time left to a deadline that may be absent. -/
def leftField (now : Nat) (deadline : Option Nat) : Nat × Nat := optField 16 (deadline.map fun d => timeSteps (d - now))

/-! ## Codes by the order of listing (R216) -/

def lockSourceCode : LockSource → Nat
  | .fob => 0
  | .passive => 1
  | .insideSwitch => 2
  | .keyCylinder => 3
  | .driveAway => 4
  | .autoRelock => 5
  | .remote => 6
  | .body => 7
  | .crash => 8
  | .management => 9
  | .manual => 10

def windowStateCode : WindowState → Nat
  | .idle => 0
  | .waiting => 1
  | .movingManual => 2
  | .movingAuto => 3
  | .reversing => 4
  | .fault => 5

def directionCode : Direction → Nat
  | .up => 0
  | .down => 1

def originCode : Origin → Nat
  | .ownSwitch => 0
  | .driverPack => 1
  | .fobOperation => 2
  | .operation => 3
  | .body => 4
  | .management => 5

def windowRefusalCode : Option WindowRefusal → Nat
  | none => 0
  | some .notNormalized => 1
  | some .hot => 2
  | some .lowSupply => 3
  | some .fault => 4
  | some .busy => 5

def outcomeCode : Option MotionOutcome → Nat
  | none => 0
  | some .reached => 1
  | some .released => 2
  | some .stopped => 3
  | some .cancelled => 4
  | some .replaced => 5
  | some .overridden => 6
  | some .pinched => 7
  | some .runtime => 8
  | some .lost => 9

def fobStateCode : FobState → Nat
  | .empty => 0
  | .active => 1
  | .blocked => 2

def unlockModeCode : UnlockMode → Nat
  | .all => 0
  | .driverFirst => 1

def buttonCode : Button → Nat
  | .lock => 0
  | .unlock => 1
  | .tailgate => 2

def telegramResultCode : TelegramResult → Nat
  | .accepted => 0
  | .resynced => 1
  | .candidate => 2
  | .replay => 3
  | .unknownFob => 4
  | .refused => 5
  | .repeatCounted => 6
  | .repeatIgnored => 7

def triggerCode : Trigger → Nat
  | .handle => 0
  | .wakeLine => 1

def startResultCode : StartResult → Nat
  | .started => 0
  | .renewed => 1
  | .crashHold => 2
  | .disabled => 3
  | .holdRequired => 4

def abortCauseCode : AbortCause → Nat
  | .superseded => 0
  | .pinchAbort => 1
  | .leaseLost => 2
  | .crashAbort => 3
  | .cancelled => 4

/-- CLOSED 0, a count as itself, OPEN 8191 (R216). -/
def stepTargetCode : StepTarget → Nat
  | .closed => 0
  | .count n => n
  | .opened => 8191

def rateCode : Rate → Nat
  | .fast => 0
  | .slow => 1
  | .off => 2

def linkCode : LinkState → Nat
  | .unknown => 0
  | .present => 1
  | .lost => 2

def powerModeCode : PowerMode → Nat
  | .auto => 0
  | .forcedOn => 1
  | .forcedOff => 2

def lineModeCode : LineMode → Nat
  | .rising => 0
  | .falling => 1
  | .high => 2
  | .low => 3

def levelCode : Level → Nat
  | .high => 0
  | .low => 1

def ignitionCode : Ignition → Nat
  | .run => 0
  | .off => 1

/-- The wake lines in the order of CLEAR_WAKE. -/
def lineCode : WakeLine → Nat
  | .ign => 0
  | .door c => closureCode c + 1

/-- NONE 0, then the causes of R192 in its order. -/
def wakeCauseCode : Option WakeCause → Nat
  | none => 0
  | some (.wakeLine _) => 1
  | some .frame => 2
  | some .management => 3
  | some .fob => 4
  | some .ignition => 5
  | some .search => 6
  | some .request => 7
  | some .latch => 8
  | some .button => 9

def wakeCauseLine : Option WakeCause → Option Nat
  | some (.wakeLine l) => some (lineCode l)
  | _ => none

def selectorCode : Selector → Nat
  | .stored => 0
  | .strap => 1

def routeCode : Route → Nat
  | .notice => 0
  | .noticeAndFlag => 1

def sideCode : FrontDoor → Nat
  | .fl => 0
  | .fr => 1

/-! ## The tables (11 section 11.3) -/

/-- The number of entries and of words per entry of a table. -/
def tableShape : Nat → Option (Nat × Nat)
  | 0 => some (7, 2)
  | 1 => some (10, 4)
  | 2 => some (4, 6)
  | 3 => some (4, 4)
  | 4 => some (9, 4)
  | 5 => some (3, 4)
  | 6 => some (5, 2)
  | 7 => some (4, 4)
  | 8 => some (3, 4)
  | 9 => some (33, 4)
  | 10 => some (33, 1)
  | 11 => some (5, 6)
  | 12 => some (6, 1)
  | 13 => some (1, 6)
  | 14 => some (15, 1)
  | 15 => some (1, 1)
  | _ => none

/-- The read tables, which take no WRITE (11 section 11.3). -/
def readTable (table : Nat) : Bool := [0, 2, 5, 6, 8, 10, 11, 13, 15].contains table

/-- The flag of a table's region in a set of region flags; PROTECTION has no region. -/
def regionFlag (flags : RegionFlags) (table : Nat) : Bool :=
  match table with
  | 3 => flags.profiles
  | 4 => flags.fobs
  | 5 => flags.fobs
  | 6 => flags.fobs
  | 9 => flags.rules
  | 10 => flags.rules
  | 14 => flags.rules
  | 15 => false
  | _ => flags.closures

/-! ## Fields of each entry, in order -/

/-- CLOSURE_STATE entries 0 to 4 (01 section 1.1). -/
def closureFields (now : Nat) (k : ClosureLock) : List (Nat × Nat) :=
  [(2, lockTargetCode k.target), (3, lockSensedCode k.sensed), (3, lockPhaseCode k.phase), (2, latchCode k.latch),
   flagField k.openedSinceUnlock, (4, lockSourceCode k.lastSource), leftField now k.driveDeadline,
   leftField now k.settleDeadline]

/-- CLOSURE_STATE entries 5 and 6 (02 section 2.1). -/
def childFields (now : Nat) (k : ChildLock) : List (Nat × Nat) :=
  [(1, childTargetCode k.target), (2, childSensedCode k.sensed), (3, childPhaseCode k.phase),
   optField 2 (k.command.map childCommandCode), flagField k.retried, leftField now k.settleDeadline]

/-- CLOSURE_SETTINGS entry 0 (R216). -/
def carFields (c : CarSettings) : List (Nat × Nat) :=
  [(1, sideCode c.driverSide), (6, c.pulseSteps), (8, c.relockTime), (6, c.driveAwaySpeed), flagField c.lockout,
   flagField c.inhibitLinked, (8, c.retainedTime), (8, c.parkDelay), (8, c.deepDelay)]

/-- CLOSURE_SETTINGS entries 1 to 4; the rear windows end with their Child Open Limit (R216). -/
def windowSettingFields (x : WindowSettings) (child : Option Nat) : List (Nat × Nat) :=
  [(13, x.travel), (13, x.openLimit), (6, x.tBase), (5, x.margin), (4, x.debounce), (8, x.topMargin), (13, x.span),
   (4, x.blanking), (8, x.ceiling), (13, x.backOff)] ++ (child.toList.map fun n => (13, n))

/-- WINDOW_STATE (R216). -/
def windowFields (s : State) (w : WindowId) : List (Nat × Nat) :=
  let x := window s w
  [(13, x.position), flagField x.normalized, (3, windowStateCode x.state), (1, directionCode x.direction),
   (13, x.requested), (13, effectiveTarget s w), optField 3 (x.origin.map originCode), flagField x.held, (15, x.heat),
   flagField x.hot, (16, timeSteps (s.now - x.heatStamp)),
   (16, (x.runStart.map fun t => timeSteps (s.now - t)).getD 0), leftField s.now x.normHold, flagField x.suppressed,
   (13, x.lastPinchPosition), (8, x.pinchCount), (3, windowRefusalCode x.lastRefusal), (4, outcomeCode x.lastOutcome),
   flagField x.clearPending, flagField x.pinchFlag, (2, (x.lastPinchCause.map pinchCauseCode).getD 0)]

/-- PROFILES. -/
def profileFields (profile : List Nat) : List (Nat × Nat) := profile.map fun r => (8, r)

/-- FOBS entries 0 to 7 (05 section 5.1, R216). -/
def fobFields (f : Fob) (r : FobRun) : List (Nat × Nat) :=
  [(2, fobStateCode f.state), (32, f.serial), optField 20 f.accepted, optField 20 (r.candidate.map (·.counter)),
   flagField f.remoteAllowed, flagField f.passiveAllowed, flagField f.comfortAllowed, (1, unlockModeCode f.mode),
   flagField r.batteryLow]

/-- FOBS entry 8. -/
def keySettingFields (k : KeySettings) : List (Nat × Nat) :=
  [(8, k.forwardWindow), flagField k.passive] ++ (allClosures.map fun c => flagField (k.touch.get c))
    ++ [(6, k.searchSteps), (11, k.searchId.toNat)]

/-- KEY_STATUS as one run of words (R111, R216). That there is no last telegram shows in the presence bit of its result
alone (log entry 56). -/
def keyStatusFields (s : State) : List (Nat × Nat) :=
  let t := s.key.lastTelegram
  let h := s.key.hold
  [(32, (t.map (·.serial)).getD 0), (2, (t.map fun x => buttonCode x.button).getD 0),
   (8, (t.map (·.repeatNumber)).getD 0), optField 3 (t.bind (·.fob)),
   optField 3 (t.map fun x => telegramResultCode x.result), (16, s.key.unknownCount), (16, s.key.refusedCount),
   flagField h.isSome, (3, (h.map (·.fob)).getD 0), (2, (h.map fun x => buttonCode x.button).getD 0),
   (20, (h.map (·.counter)).getD 0), (8, (h.map (·.lastCounted)).getD 0),
   flagField ((h.map (·.operationStarted)).getD false), flagField s.group.driverFirst.isSome,
   optField 3 (s.group.doubleLock.map (·.fob)), (8, s.cfg.key.forwardWindow)]

/-- SEARCH_STATUS entries 0 to 3, the trigger before the time left, as R126 has them (log entry 89). -/
def slotFields (now : Nat) : Option SearchSlot → List (Nat × Nat)
  | none => []
  | some x =>
    [(1, 1), (3, closureCode x.closure), (2, purposeCode x.purpose), (4, x.tag), (1, triggerCode x.trigger),
     (16, timeSteps (x.deadline - now))]

/-- SEARCH_STATUS entry 4 (R126). -/
def searchFields (x : Search) : List (Nat × Nat) :=
  let r := x.last
  [(4, x.tagCounter), (3, (r.map fun y => closureCode y.closure).getD 0),
   (2, (r.map fun y => purposeCode y.purpose).getD 0), (4, (r.map (·.tag)).getD 0),
   (3, (r.map fun y => searchOutcomeCode y.outcome).getD 0), optField 3 (r.bind (·.fob)), flagField r.isSome,
   (16, x.noSlot)]

/-- OPERATIONS (R216); the steps beyond the count read 0. -/
def descriptorFields (d : Descriptor) : List (Nat × Nat) :=
  [flagField d.enabled, (2, kindLabelCode d.kind), (3, d.steps.length)]
    ++ ((List.range 4).flatMap fun n =>
      match d.steps[n]? with
      | some st => [(2, windowCode st.window), (13, stepTargetCode st.target)]
      | none => [(2, 0), (13, 0)])
    ++ [flagField d.holdToRun]

/-- OPERATION_STATUS entry 0: the Active Operation, and whether it is present. A step count in 3 bits stands before the
steps (log entry 66). -/
def activeFields (now : Nat) : Option ActiveOp → List (Nat × Nat)
  | none => []
  | some op =>
    [(2, op.descriptor), (2, kindLabelCode op.kind), flagField op.holdToRun, (4, opSourceCode op.source),
     leftField now op.lease, (3, op.steps.length)]
      ++ ((List.range 4).flatMap fun n =>
        match op.steps[n]? with
        | some st => [(2, windowCode st.window), (13, stepTargetCode st.target), (3, stepStatusCode st.status)]
        | none => [(2, 0), (13, 0), (3, 0)])
      ++ [(3, op.remaining), optField 3 (op.abortCause.map abortCauseCode), (1, 1)]

/-- OPERATION_STATUS entry 1: the last start. -/
def startFields : Option LastStart → List (Nat × Nat)
  | none => []
  | some x => [(3, startResultCode x.result), (2, x.descriptor), (4, opSourceCode x.source), (1, 1)]

/-- OPERATION_STATUS entry 2: the last operation, with a step count in 3 bits before the step statuses (log entry 66) and
the outcome in the code of the Operation notice (log entry 77). -/
def lastOpFields : Option LastOp → List (Nat × Nat)
  | none => []
  | some x =>
    [(2, x.descriptor), (2, kindLabelCode x.kind), (4, opSourceCode x.source), (3, opOutcomeCode x.outcome),
     (3, x.steps.length)]
      ++ ((List.range 4).map fun n => (3, ((x.steps[n]?).map fun st => stepStatusCode st.status).getD 0)) ++ [(1, 1)]

/-- RULES entries 0 to 31, word by word (12 section 12.7). -/
def ruleWords (r : Rule) (hits : Nat) : List Nat :=
  [packBits [flagField r.valid, (11, r.base.toNat), (11, r.mask.toNat), (4, r.minLength), (3, actionCode r.action),
     flagField r.wake, flagField r.keepAwake],
   r.argument.toNat,
   packBits [(3, r.byteIndex), (3, r.lowBit), (5, r.width), (8, r.num), (8, r.den)],
   packBits [(16, hits)]]

/-- RULES entry 32 (R216); the Default Disposition lies as a PASS bit below its mask, and the mask is shown with DROP too
(log entry 78). -/
def frameSettingFields (f : FrameSettings) : List (Nat × Nat) :=
  [flagField f.passDefault, (5, f.defaultMask.toNat), (11, f.statusId.toNat)]
    ++ allClosures.map fun c => optField 11 ((f.uplinkIds.get c).map BitVec.toNat)

/-- The fields of a last report as LINK_STATUS shows them, without the uplink payload (R216). -/
def reportFields (r : Report) : List (Nat × Nat) :=
  [flagField r.pulseActive, (3, lockSensedCode r.lockSensed), (2, childSensedCode r.childSensed), flagField r.ajar,
   flagField r.touchUnlock, flagField r.touchLock, flagField r.releaseButton, (3, switchCode r.ownSwitch)]
    ++ (allWindows.map fun w => (3, switchCode (r.pack.get w)))
    ++ [(2, lockSwitchCode r.central), flagField r.childButton, flagField r.lockoutButton,
        (2, lockSwitchCode r.keyCylinder), (6, r.ripple), (8, r.current), flagField r.overtemp, flagField r.openLoad,
        flagField r.lowSupply, (1, 1)]

/-- The same places while there is no last report. -/
def noReportFields : List (Nat × Nat) :=
  [1, 3, 2, 1, 1, 1, 1, 3, 3, 3, 3, 3, 2, 1, 1, 2, 6, 8, 1, 1, 1, 1].map fun w => (w, 0)

/-- LINK_STATUS, reported since AWAKE before the last report, as R178 has them (log entry 90). -/
def linkFields (ch : Channel) : List (Nat × Nat) :=
  [(2, rateCode ch.rate), (2, linkCode ch.link), (2, ch.missing), flagField ch.reported]
    ++ ((ch.lastReport.map reportFields).getD noReportFields)
    ++ [(16, ch.goodCount), (16, ch.missingCount), (16, ch.lossCount)]

/-- WAKE_LINES (10 section 10.3). -/
def lineFields (cfg : LineSettings) (x : LineState) : List (Nat × Nat) :=
  [flagField cfg.enable, (2, lineModeCode cfg.mode), flagField x.pending, (1, levelCode x.level)]

/-- The time left while a value is fresh, and 0 while it is stale. -/
def freshLeft (now : Nat) (deadline : Option Nat) : Nat := ((deadline.map fun d => timeSteps (d - now)).getD 0)

/-- CONTEXT_STATUS as one run of words (R194, R216). The order of item A's fields is log entry 81, and the line of a
WAKE_LINE cause, an optional field of its own after the cause's code, is log entry 82. -/
def contextFields (s : State) : List (Nat × Nat) :=
  let c := s.ctx
  [(8, c.speed), flagField (speedFresh s), (16, freshLeft s.now c.speedFresh), (8, c.voltage),
   flagField (voltageFresh s), (16, freshLeft s.now c.voltageFresh), (1, ignitionCode c.ignition),
   (2, opStateCode c.state), (16, timeSteps (s.now - c.lastActivity)), (16, timeSteps (c.idleDeadline - s.now)),
   flagField (awakeHold s)] ++ ((holdFlags s).map flagField)
    ++ [optField 20 (c.deepDeadline.map fun d => (d - s.now) / 1000), (4, wakeCauseCode c.lastWake),
        optField 3 (wakeCauseLine c.lastWake), (16, c.wakeCount)]

/-- MANAGEMENT entry 0 (R196). -/
def identifierFields (s : State) : List (Nat × Nat) :=
  let i := s.cfg.ids
  [(11, i.storedBase.toNat), (1, selectorCode i.bit3), (1, selectorCode i.bit4), (1, selectorCode i.bit5),
   (11, s.mgmt.base.toNat)] ++ strapBits s.mgmt.straps

/-- MANAGEMENT entries 1 to 14 (11 section 11.6). -/
def faultFields (r : FaultRecord) (x : ReportSetting) : List (Nat × Nat) :=
  [(8, r.count), (3, optClosureCode r.last), flagField r.attention, flagField x.masked, (1, routeCode x.route)]

/-- Four region flags in the order of PROTECT. -/
def regionBits (f : RegionFlags) : List (Nat × Nat) :=
  [flagField f.rules, flagField f.fobs, flagField f.closures, flagField f.profiles]

def protectionFields (p : Protection) : List (Nat × Nat) :=
  regionBits p.readFlags ++ regionBits p.writeFlags ++ [flagField p.lock]

/-- PROTECTION: the working record, then the lock cell (R203). -/
def protectionTable (s : State) : List (Nat × Nat) :=
  protectionFields s.cfg.protection ++ [optField 9 (s.store.lockCell.map fun p => packBits (protectionFields p))]

/-! ## The word at a place (R198) -/

def closureOfIndex (i : Nat) : Closure := allClosures.getD i .fl

def windowOfIndex (i : Nat) : WindowId := allWindows.getD i .fl

def lineOfIndex (i : Nat) : WakeLine := allLines.getD i .ign

/-- The Child Open Limit of a rear window. -/
def childLimitOf (s : State) (w : WindowId) : Option Nat := (windowRear w).map s.cfg.childOpenLimit.get

/-- The words of a table's entry. -/
def entryWords (s : State) (table index : Nat) : List Nat :=
  match table with
  | 0 =>
    if index < 5 then place (closureFields s.now (closure s (closureOfIndex index)))
    else place (childFields s.now (child s (if index = 5 then .rl else .rr)))
  | 1 =>
    if index = 0 then place (carFields s.cfg.car)
    else if index ≤ 4 then
      let w := windowOfIndex (index - 1)
      place (windowSettingFields (windowCfg s w) (childLimitOf s w))
    else place [(2, powerModeCode (s.cfg.modes.get (closureOfIndex (index - 5))))]
  | 2 => place (windowFields s (windowOfIndex index))
  | 3 => place (profileFields (s.cfg.profiles.get (windowOfIndex index)))
  | 4 => if index < 8 then place (fobFields (fob s index) (fobRun s index)) else place (keySettingFields s.cfg.key)
  | 5 => (place (keyStatusFields s)).drop (index * 4)
  | 6 => if index < 4 then place (slotFields s.now (slot s index)) else place (searchFields s.search)
  | 7 => place (((s.cfg.descriptors[index]?).map descriptorFields).getD [])
  | 8 =>
    match index with
    | 0 => place (activeFields s.now s.op.active)
    | 1 => place (startFields s.op.lastStart)
    | _ => place (lastOpFields s.op.lastOp)
  | 9 =>
    if index < 32 then ruleWords (rule s index) (s.counts.hits.getD index 0) else place (frameSettingFields s.cfg.frame)
  | 10 => place [(16, if index < 32 then s.counts.hits.getD index 0 else s.counts.noMatch)]
  | 11 => place (linkFields (channel s (closureOfIndex index)))
  | 12 => place (lineFields (s.cfg.lines.get (lineOfIndex index)) (s.lines.get (lineOfIndex index)))
  | 13 => place (contextFields s)
  | 14 =>
    if index = 0 then place (identifierFields s)
    else
      place (faultFields (s.faults.getD (index - 1) .clear) (s.cfg.report.getD (index - 1) ⟨false, .notice⟩))
  | 15 => place (protectionTable s)
  | _ => []

/-- The word at a place; a word without fields reads 0. -/
def readWord (s : State) (c : Cursor) : Word := BitVec.ofNat 32 ((entryWords s c.table c.index).getD c.word 0)

end Sys2Proof.Machine
end

