-- ==== Sys2Proof/Machine/Tables.lean ====
section
/-!
DEFINITION. What an accepted WRITE does, word by word (11 R199), with each owner's own checks and effects. Every write
takes the value with the one-shot mask applied, and answers `.error` with a result where the owner refuses.
-/

namespace Sys2Proof.Machine

/-- The answer of an owner to a write: a refusal, or the state with the change made. -/
abbrev WriteAnswer := Except Result State

/-- A change made when every field is in its range, and RANGE otherwise. -/
def inRange (ok : Bool) (s : State) : WriteAnswer := if ok then .ok s else .error .range

def within (low high n : Nat) : Bool := low ≤ n && n ≤ high

/-! ## CLOSURE_SETTINGS -/

def setCar (c : CarSettings) (s : State) : State := { s with cfg := { s.cfg with car := c } }

/-- Entry 0, word 0: Driver Side to Retained Time; the lockout flag and Inhibit-Linked reach the rear window inhibit at
once (R35, R36). -/
def writeCar0 (v : Nat) (s : State) : WriteAnswer :=
  let c := { s.cfg.car with
    driverSide := if bitOf v 0 then .fr else .fl
    pulseSteps := bitsOf v 1 6, relockTime := bitsOf v 7 8, driveAwaySpeed := bitsOf v 15 6, lockout := bitOf v 21
    inhibitLinked := bitOf v 22, retainedTime := bitsOf v 23 8 }
  inRange (within 5 50 c.pulseSteps && c.driveAwaySpeed ≤ 60) (followSettings s (setCar c s))

/-- A write of Deep Delay while PARKED moves the deep deadline (R191). -/
def moveDeep (s : State) : State :=
  match s.ctx.parkedAt with
  | some t => if s.ctx.state == .parked then { s with ctx := { s.ctx with deepDeadline := some (t + deepDelay s) } } else s
  | none => s

/-- Entry 0, word 1: Park Delay and Deep Delay. The idle deadline is recomputed and the deep deadline moved, and a state
whose conditions then hold is entered at the write (R187, R189, R191). -/
def writeCar1 (v : Nat) (s : State) : WriteAnswer :=
  let c := { s.cfg.car with parkDelay := bitsOf v 0 8, deepDelay := bitsOf v 8 8 }
  inRange (within 5 255 c.parkDelay && within 1 255 c.deepDelay) (closeState (moveDeep (recomputeIdle (setCar c s))))

def setWindowCfg (w : WindowId) (x : WindowSettings) (s : State) : State :=
  { s with cfg := { s.cfg with windows := s.cfg.windows.set w x } }

/-- An accepted change of Travel on the window record (R44). -/
def travelChanged (travel : Nat) (x : Window) : Window :=
  { unnormalize travel x with requested := min x.requested travel }

/-- A Travel write is refused with BUSY on a window that waits or moves (R44). -/
def travelBusy (s : State) (w : WindowId) (travel : Nat) : Bool :=
  travel != (windowCfg s w).travel && ((window s w).state == .waiting || windowMoving (window s w))

/-- Entries 1 to 4, word 0: Travel, Open Limit (clamped to travel) and T_base (R44 to R46, R92). BUSY is judged before
RANGE (log entry 31). -/
def writeWindow0 (w : WindowId) (v : Nat) (s : State) : WriteAnswer :=
  let travel := bitsOf v 0 13
  let tBase := bitsOf v 26 6
  let cfg := { windowCfg s w with travel := travel, openLimit := min (bitsOf v 13 13) travel, tBase := tBase }
  if travelBusy s w travel then .error .busy
  else
    let t := if travel = (windowCfg s w).travel then s else setWindow w (travelChanged travel (window s w)) s
    inRange (within 1000 8000 travel && within 5 60 tBase) (followLimit s w (setWindowCfg w cfg t))

/-- Entries 1 to 4, word 1: M, K, S and H (R92). -/
def writeWindow1 (w : WindowId) (v : Nat) (s : State) : WriteAnswer :=
  let cfg := { windowCfg s w with
    margin := bitsOf v 0 5, debounce := bitsOf v 5 4, topMargin := bitsOf v 9 8, span := bitsOf v 17 13 }
  inRange
    (cfg.margin ≤ 30 && within 1 8 cfg.debounce && within 10 200 cfg.topMargin && within 200 cfg.travel cfg.span)
    (setWindowCfg w cfg s)

/-- Entries 1 to 4, word 2: blanking, I_max and B (R92). -/
def writeWindow2 (w : WindowId) (v : Nat) (s : State) : WriteAnswer :=
  let cfg := { windowCfg s w with blanking := bitsOf v 0 4, ceiling := bitsOf v 4 8, backOff := bitsOf v 12 13 }
  inRange (within 1 10 cfg.blanking && within 50 255 cfg.ceiling && within 50 cfg.travel cfg.backOff)
    (setWindowCfg w cfg s)

/-- Entries 3 and 4, word 3: the Child Open Limit (R37); entries 1 and 2 hold no field there. -/
def writeWindow3 (w : WindowId) (v : Nat) (s : State) : WriteAnswer :=
  match windowRear w with
  | none => .ok s
  | some d =>
    let limit := bitsOf v 0 13
    inRange (limit ≤ (windowCfg s w).travel)
      (followLimit s w { s with cfg := { s.cfg with childOpenLimit := s.cfg.childOpenLimit.set d limit } })

def powerModeOfCode : Nat → Option PowerMode
  | 0 => some .auto
  | 1 => some .forcedOn
  | 2 => some .forcedOff
  | _ => none

/-- Entries 5 to 9, word 0: the Channel Power Mode (R176, R177). -/
def writeMode (c : Closure) (v : Nat) (s : State) : WriteAnswer :=
  match powerModeOfCode (bitsOf v 0 2) with
  | some mode => .ok (setMode c mode s)
  | none => .error .range

def writeClosureSettings (index word v : Nat) (s : State) : WriteAnswer :=
  if index = 0 then
    match word with
    | 0 => writeCar0 v s
    | 1 => writeCar1 v s
    | _ => .ok s
  else if index ≤ 4 then
    let w := windowOfIndex (index - 1)
    match word with
    | 0 => writeWindow0 w v s
    | 1 => writeWindow1 w v s
    | 2 => writeWindow2 w v s
    | _ => writeWindow3 w v s
  else if word = 0 then writeMode (closureOfIndex (index - 5)) v s
  else .ok s

/-! ## PROFILES (R88) -/

def writeProfiles (index word v : Nat) (s : State) : WriteAnswer :=
  let w := windowOfIndex index
  let zones := [bitsOf v 0 8, bitsOf v 8 8, bitsOf v 16 8, bitsOf v 24 8]
  let old := s.cfg.profiles.get w
  inRange (zones.all (· ≤ 200)) (setProfile w (old.take (word * 4) ++ zones ++ old.drop (word * 4 + 4)) s)

/-! ## FOBS (R94, R95, R114) -/

/-- The entry would share its serial with another non-EMPTY entry (R94). -/
def serialClash (s : State) (i : Nat) (f : Fob) : Bool :=
  f.state != .empty &&
    s.cfg.fobs.zipIdx.any fun p => p.2 != i && p.1.state != .empty && p.1.serial == f.serial

/-- The hold ends if it belongs to the fob (R95 C). -/
def endHoldOf (i : Nat) (s : State) : State :=
  match s.key.hold with
  | some h => if h.fob = i then setHold none s else s
  | none => s

/-- The hold stays but starts no operation any more if it belongs to the fob (R95 D). -/
def barHoldOf (i : Nat) (s : State) : State :=
  match s.key.hold with
  | some h => if h.fob = i then setHold (some { h with comfortCleared := true }) s else s
  | none => s

/-- What a change of an entry does to what the Key Unit holds for the fob (R95). -/
def fobChanged (i : Nat) (old new : Fob) (s : State) : State :=
  if old.serial ≠ new.serial then
    endHoldOf i (setFobRun i .reset (setFob i { new with accepted := none } s))
  else if (old.state ≠ new.state ∧ new.state ≠ .active) ∨ (old.remoteAllowed ∧ ¬ new.remoteAllowed) then
    endHoldOf i (setFobRun i { fobRun s i with candidate := none } (setFob i new s))
  else if old.comfortAllowed ∧ ¬ new.comfortAllowed then barHoldOf i (setFob i new s)
  else setFob i new s

def fobStateOfCode : Nat → Option FobState
  | 0 => some .empty
  | 1 => some .active
  | 2 => some .blocked
  | _ => none

/-- An entry with a field changed, refused with DUPLICATE on a clash (R94). -/
def writeFob (i : Nat) (new : Fob) (s : State) : WriteAnswer :=
  if serialClash s i new then .error .duplicate else .ok (fobChanged i (fob s i) new s)

/-- Entry 8, word 0: W and the passive-entry settings; switching Passive Entry off closes every open slot (R94, R114). -/
def writeKeySettings (v : Nat) (s : State) : WriteAnswer :=
  let k : KeySettings :=
    { forwardWindow := bitsOf v 0 8, passive := bitOf v 8
      touch := ⟨bitOf v 9, bitOf v 10, bitOf v 11, bitOf v 12, bitOf v 13⟩
      searchSteps := bitsOf v 14 6, searchId := BitVec.ofNat 11 (bitsOf v 20 11) }
  let t := { s with cfg := { s.cfg with key := k } }
  inRange (1 ≤ k.forwardWindow && within 5 50 k.searchSteps)
    (if s.cfg.key.passive && !k.passive then closeAllSlots t else t)

def writeFobs (index word v : Nat) (s : State) : WriteAnswer :=
  if index < 8 then
    let f := fob s index
    match word with
    | 0 =>
      match fobStateOfCode (bitsOf v 0 2) with
      | some st => writeFob index { f with state := st } s
      | none => .error .range
    | 1 => writeFob index { f with serial := v } s
    | 2 => .error .range
    | _ =>
      writeFob index
        { f with
          remoteAllowed := bitOf v 21, passiveAllowed := bitOf v 22, comfortAllowed := bitOf v 23
          mode := if bitOf v 24 then .driverFirst else .all } s
  else if word = 0 then writeKeySettings v s
  else .ok s

/-! ## OPERATIONS (R128) -/

def kindLabelOf (n : Nat) : KindLabel :=
  match n with
  | 0 => .comfortClose
  | 1 => .comfortOpen
  | 2 => .vent
  | _ => .parkClose

/-- The target a code stands for: CLOSED 0, a count 1..8000, OPEN 8191 (R216). -/
def stepTargetOfCode (n : Nat) : Option StepTarget :=
  if n = 0 then some .closed else if n ≤ 8000 then some (.count n) else if n = 8191 then some .opened else none

/-- The steps of an entry's three words, up to the count. -/
def readSteps (w0 w1 w2 : Nat) : List (Nat × Nat) :=
  let all :=
    [(bitsOf w0 6 2, bitsOf w0 8 13), (bitsOf w0 21 2, bitsOf w1 0 13), (bitsOf w1 13 2, bitsOf w1 15 13),
     (bitsOf w1 28 2, bitsOf w2 0 13)]
  all.take (bitsOf w0 3 3)

/-- The descriptor of an entry's words; `none` where R128 refuses it. -/
def readDescriptor (w0 w1 w2 : Nat) : Option Descriptor := do
  let count := bitsOf w0 3 3
  let steps ← (readSteps w0 w1 w2).mapM fun p => do
    let w ← windowOfCode p.1
    let t ← stepTargetOfCode p.2
    some (StepSpec.mk w t)
  if within 1 4 count && (steps.map (·.window)).Nodup then
    some { enabled := bitOf w0 0, kind := kindLabelOf (bitsOf w0 1 2), steps := steps, holdToRun := bitOf w2 13 }
  else none

def writeOperations (index word v : Nat) (s : State) : WriteAnswer :=
  if word = 3 then .ok s
  else
    let words := (entryWords s 7 index).set word v
    match readDescriptor (words.getD 0 0) (words.getD 1 0) (words.getD 2 0) with
    | some d => .ok { s with cfg := { s.cfg with descriptors := s.cfg.descriptors.set index d } }
    | none => .error .range

/-! ## RULES (R144) -/

/-- A rule replaces an entry; a change of base, mask, min length or action zeroes its hit count (R144). -/
def setRule (i : Nat) (new : Rule) (s : State) : State :=
  let old := rule s i
  let same := old.base = new.base ∧ old.mask = new.mask ∧ old.minLength = new.minLength ∧ old.action = new.action
  { s with
    cfg := { s.cfg with rules := s.cfg.rules.set i new }
    counts := if same then s.counts else { s.counts with hits := s.counts.hits.set i 0 } }

/-- The kinds a rule may carry (08 section 8.3). -/
def ruleKind (code : Nat) : Bool := [1, 2, 3, 4, 5, 6, 7, 11, 12, 13, 14].contains code

/-- A rule with action REQUEST names a kind that a rule may carry (R144). -/
def requestHolds (r : Rule) : Bool := r.action != .request || ruleKind (bitsOf r.argument.toNat 0 4)

/-- Word 0 of a rule, judged with the argument that the entry holds (R199). -/
def writeRule0 (i v : Nat) (s : State) : WriteAnswer :=
  match actionOfCode (bitsOf v 27 3) with
  | none => .error .range
  | some action =>
    let new := { rule s i with
      valid := bitOf v 0, base := BitVec.ofNat 11 (bitsOf v 1 11), mask := BitVec.ofNat 11 (bitsOf v 12 11)
      minLength := bitsOf v 23 4, action := action, wake := bitOf v 30, keepAwake := bitOf v 31 }
    inRange (new.minLength ≤ 8 && requestHolds new) (setRule i new s)

/-- Word 1 of a rule: the argument, judged under the action that the entry holds (R199; log entry 14). -/
def writeRule1 (i v : Nat) (s : State) : WriteAnswer :=
  let new := { rule s i with argument := BitVec.ofNat 12 (bitsOf v 0 12) }
  inRange (requestHolds new) (setRule i new s)

/-- Word 2 of a rule: the extraction. -/
def writeRule2 (i v : Nat) (s : State) : WriteAnswer :=
  let new := { rule s i with
    byteIndex := bitsOf v 0 3, lowBit := bitsOf v 3 3, width := bitsOf v 6 5, num := bitsOf v 11 8, den := bitsOf v 19 8 }
  inRange
    (within 1 16 new.width && 1 ≤ new.num && 1 ≤ new.den && new.byteIndex * 8 + new.lowBit + new.width ≤ 64)
    (setRule i new s)

/-- An Uplink Identifier of 11 bits and its presence bit. -/
def uplinkOf (v low : Nat) : Option CanId :=
  if bitOf v (low + 11) then some (BitVec.ofNat 11 (bitsOf v low 11)) else none

def setFrame (f : FrameSettings) (s : State) : State := { s with cfg := { s.cfg with frame := f } }

/-- Entry 32: Default Disposition, as a PASS bit below its mask (log entry 78), Status Identifier and Uplink Identifiers. -/
def writeFrameSettings (word v : Nat) (s : State) : WriteAnswer :=
  let f := s.cfg.frame
  let u := f.uplinkIds
  match word with
  | 0 =>
    inRange (bitsOf v 6 2 = 0)
      (setFrame
        { f with
          passDefault := bitOf v 0, defaultMask := BitVec.ofNat 5 (bitsOf v 1 5)
          statusId := BitVec.ofNat 11 (bitsOf v 6 11), uplinkIds := { u with fl := uplinkOf v 17 } } s)
  | 1 => .ok (setFrame { f with uplinkIds := { u with fr := uplinkOf v 0, rl := uplinkOf v 12 } } s)
  | 2 => .ok (setFrame { f with uplinkIds := { u with rr := uplinkOf v 0, tg := uplinkOf v 12 } } s)
  | _ => .ok s

def writeRules (index word v : Nat) (s : State) : WriteAnswer :=
  if index < 32 then
    match word with
    | 0 => writeRule0 index v s
    | 1 => writeRule1 index v s
    | 2 => writeRule2 index v s
    | _ => .error .range
  else writeFrameSettings word v s

/-! ## WAKE_LINES (R184) -/

def lineModeOf (n : Nat) : LineMode :=
  match n with
  | 0 => .rising
  | 1 => .falling
  | 2 => .high
  | _ => .low

/-- Enable and mode of a line; the mode is judged at the write (R183, R184). -/
def writeLine (index v : Nat) (s : State) : WriteAnswer :=
  let line := lineOfIndex index
  let cfg : LineSettings := ⟨bitOf v 0, lineModeOf (bitsOf v 1 2)⟩
  .ok (judgeLevel line { s with cfg := { s.cfg with lines := s.cfg.lines.set line cfg } })

/-! ## MANAGEMENT (R196, R205) -/

def selectorOf (b : Bool) : Selector := if b then .strap else .stored

def writeIdentifiers (v : Nat) (s : State) : WriteAnswer :=
  let ids : IdSettings :=
    { storedBase := BitVec.ofNat 11 (bitsOf v 0 11), bit3 := selectorOf (bitOf v 11), bit4 := selectorOf (bitOf v 12)
      bit5 := selectorOf (bitOf v 13) }
  inRange (bitsOf v 0 2 = 0) { s with cfg := { s.cfg with ids := ids } }

/-- A report mask and route (R205). -/
def writeReport (cls v : Nat) (s : State) : WriteAnswer :=
  let x : ReportSetting := ⟨bitOf v 12, if bitOf v 13 then .noticeAndFlag else .notice⟩
  .ok { s with cfg := { s.cfg with report := s.cfg.report.set cls x } }

def writeManagement (index v : Nat) (s : State) : WriteAnswer :=
  if index = 0 then writeIdentifiers v s else writeReport (index - 1) v s

/-! ## A WRITE at the cursor (R199) -/

/-- The owner's checks and effects, by table. -/
def ownerWrite (c : Cursor) (v : Nat) (s : State) : WriteAnswer :=
  match c.table with
  | 1 => writeClosureSettings c.index c.word v s
  | 3 => writeProfiles c.index c.word v s
  | 4 => writeFobs c.index c.word v s
  | 7 => writeOperations c.index c.word v s
  | 9 => writeRules c.index c.word v s
  | 12 => writeLine c.index v s
  | 14 => writeManagement c.index v s
  | _ => .error .range

/-- The checks of R199 in their order: protection, read table, owner. -/
def writeAt (c : Cursor) (v : Word) (s : State) : WriteAnswer :=
  if regionFlag s.cfg.protection.writeFlags c.table then .error .protected_
  else if readTable c.table then .error .range
  else ownerWrite c v.toNat s

/-- The value a WRITE judges: the bits set in the one-shot mask keep what the word holds (R200). -/
def maskedValue (mask : Option Word) (held value : Word) : Word :=
  match mask with
  | some m => (held &&& m) ||| (value &&& ~~~m)
  | none => value

/-- The cursor after a READ or WRITE answered OK, and the END flag (R198). -/
def advance (c : Cursor) : Cursor × Bool :=
  match tableShape c.table with
  | none => (c, false)
  | some (entries, words) =>
    if c.word + 1 < words then (⟨c.table, c.index, c.word + 1⟩, false)
    else if c.index + 1 < entries then (⟨c.table, c.index + 1, 0⟩, false)
    else (c, true)

end Sys2Proof.Machine
end

