-- ==== Sys2Proof/Machine/Management.lean ====
section
/-!
DEFINITION. The Management Responder (11 sections 11.1 to 11.6): what each request does and how it is answered. Every
management row of the table hands its request to `manage`.
-/

namespace Sys2Proof.Machine

/-- What a request leaves behind: the state, the result and the response's bytes from byte 2 on. -/
structure Reply where
  state : State
  result : Result
  tail : List Byte
  deriving DecidableEq, Repr

/-- An answer with no bytes but the result. -/
def reply (result : Result) (s : State) : Reply := ⟨s, result, []⟩

def setCursor (c : Cursor) (s : State) : State := { s with mgmt := { s.mgmt with cursor := c } }

def setMask (m : Option Word) (s : State) : State := { s with mgmt := { s.mgmt with mask := m } }

/-! ## The cursor commands (R198 to R200) -/

/-- A place the cursor can stand at (R198). -/
def placeExists (c : Cursor) : Bool :=
  match tableShape c.table with
  | some (entries, words) => c.index < entries && c.word < words
  | none => false

def serveSelect (c : Cursor) (s : State) : Reply :=
  if placeExists c then reply .ok (setCursor c s) else reply .range s

def serveRead (s : State) : Reply :=
  let c := s.mgmt.cursor
  if regionFlag s.cfg.protection.readFlags c.table then reply .protected_ s
  else
    let next := advance c
    ⟨setCursor next.1 s, .ok, byteOf [(1, flagBit next.2)] :: leBytes 4 (readWord s c).toNat⟩

/-- A WRITE; it uses the one-shot mask up, whatever its result (R199, R200). -/
def serveWrite (value : Word) (s : State) : Reply :=
  let c := s.mgmt.cursor
  let v := maskedValue s.mgmt.mask (readWord s c) value
  let s := setMask none s
  match writeAt c v s with
  | .error r => reply r s
  | .ok t =>
    let next := advance c
    ⟨setCursor next.1 t, .ok, [byteOf [(1, flagBit next.2)]]⟩

/-! ## Commands that act on other blocks (R201) -/

def serveRelease (ticket : Nat) (s : State) : Reply :=
  match heldFrame s ticket with
  | some f => reply .ok (releaseFrame f s)
  | none => reply .noTicket s

def serveDiscard (ticket : Nat) (s : State) : Reply :=
  match heldFrame s ticket with
  | some _ => reply .ok (freeTrap ticket s)
  | none => reply .noTicket s

/-- The source of a management lock request: CRASH for a CRASH_UNLOCK (R201 B). -/
def managementSource (kind : LockKind) : LockSource := if kind == .crashUnlock then .crash else .management

/-- CLEAR_NORMALIZED names one window, or all four with FFh (R57, 12 section 12.2). -/
def serveClearNormalized (code : Nat) (s : State) : Reply :=
  if code = 255 then reply .ok (allWindows.foldl (fun t w => clearNormalized w t) s)
  else
    match windowOfCode code with
    | some w => reply .ok (clearNormalized w s)
    | none => reply .range s

/-- A REQUEST, by its kind (R201 B). -/
def serveRequest (kind : RequestKind) (s : State) : Reply :=
  match kind with
  | .lock k => reply .ok (arriveLock ⟨k, managementSource k, false⟩ s)
  | .releaseTailgate => reply .ok (releaseTailgate s)
  | .crashClear => reply .ok { s with group := { s.group with crashHold := none } }
  | .childSet code st =>
    match rearOfCode code, childTargetOfCode st with
    | some d, some t => reply .ok (childSetTarget d t s)
    | _, _ => reply .range s
  | .clearNormalized code => serveClearNormalized code s
  | .windowMove code count =>
    match windowOfCode code with
    | some w => if count ≤ 8000 then reply .ok (requestMotion ⟨w, count, .management, false⟩ s) else reply .range s
    | none => reply .range s
  | .windowStop code =>
    match windowOfCode code with
    | some w => reply .ok (stopWindow w s)
    | none => reply .range s
  | .operationStart d => if d ≤ 3 then reply .ok (startOperation d .management s) else reply .range s
  | .operationCancel => reply .ok (cancelOperation s)
  | .outside => reply .range s

/-- CLEAR_WAKE for the lines whose bits are set (R184), in the order IGN, FL, FR, RL, RR, TG (log entry 71). -/
def serveClearWake (lines : Nat) (s : State) : Reply :=
  reply .ok ((allLines.filter fun l => bitOf lines (lineCode l)).foldl (fun t l => clearWakeLine l t) s)

/-! ## Faults, saves, protection and status (R202 to R208) -/

/-- A set of fault classes as 16 bits. -/
def classSet (f : FaultRecord → Bool) (s : State) : Nat := packBits (s.faults.map fun r => flagField (f r))

def serveFaults (s : State) : Reply :=
  ⟨s, .ok, 0 :: leBytes 2 (classSet (fun r => 0 < r.count) s) ++ leBytes 2 (classSet (·.attention) s)⟩

/-- CLEAR_FAULTS (R206). -/
def clearFaults (s : State) : State :=
  { s with
    faults := s.faults.map fun _ => .clear
    key := { s.key with unknownCount := 0, refusedCount := 0 }
    search := { s.search with noSlot := 0 }
    channels := s.channels.mapWith fun _ ch => { ch with goodCount := 0, missingCount := 0, lossCount := 0 }
    ctx := { s.ctx with wakeCount := 0 } }

/-- SAVE is BUSY while a save runs or a park save is kept (R208). -/
def saveBusy (s : State) : Bool := saving s || s.store.parkKept

def serveSave (s : State) : Reply := if saveBusy s then reply .busy s else reply .ok (beginSave s)

def regionFlagsOf (n : Nat) : RegionFlags := ⟨bitOf n 0, bitOf n 1, bitOf n 2, bitOf n 3⟩

/-- PROTECT (R203). -/
def serveProtect (readBits writeBits lockBits : Nat) (s : State) : Reply :=
  if s.store.lockCell.isSome then reply .protected_ s
  else
    let p : Protection := ⟨regionFlagsOf readBits, regionFlagsOf writeBits, bitOf lockBits 0⟩
    reply .ok { s with cfg := { s.cfg with protection := p } }

def saveResultCode : Option Bool → Nat
  | none => 0
  | some true => 1
  | some false => 2

def portSilent (s : State) : Bool := s.port != .active

/-- The STATUS record (R202, 12 section 12.2). -/
def statusRecord (s : State) : List Byte :=
  [byteOf
      [(2, opStateCode s.ctx.state), (3, stageCode s.stage), (1, flagBit (s.ctx.ignition == .run)),
       (1, flagBit (portSilent s))],
   byteOf (allLines.map fun l => flagField (s.lines.get l).pending),
   byteOf
      [(4, s.group.tokens), flagField s.group.crashHold.isSome, flagField (saving s), flagField s.store.parkKept],
   byteOf
      [(2, saveResultCode s.store.lastResult), flagField (s.faults.any (·.attention)), flagField s.store.blankAtLoad,
       flagField s.store.lockCell.isSome]]

/-! ## Taking a request (R197) -/

/-- Every request but WRITE and MASK makes the one-shot mask absent; those two treat it themselves (R200). -/
def maskAfter (r : ManagementRequest) (s : State) : State :=
  match r with
  | .write _ => s
  | .mask _ => s
  | _ => setMask none s

/-- A request taken from RUN on, RESTART apart (R198 to R208). -/
def serve (r : ManagementRequest) (s : State) : Reply :=
  match r with
  | .select t i w => serveSelect ⟨t, i, w⟩ s
  | .read => serveRead s
  | .write v => serveWrite v s
  | .mask m => reply .ok (setMask (some m) s)
  | .release ticket => serveRelease ticket s
  | .discard ticket => serveDiscard ticket s
  | .request kind => serveRequest kind s
  | .clearWake lines => serveClearWake lines s
  | .faults => serveFaults s
  | .clearFaults => reply .ok (clearFaults s)
  | .save => serveSave s
  | .protect a b c => serveProtect a b c s
  | .restart => reply .busy s
  | .status => ⟨s, .ok, statusRecord s⟩
  | .unknown _ => reply .unknown s

/-- The response frame on B+1. -/
def responseFrame (s : State) (code : Nat) (result : Result) (tail : List Byte) : TxFrame :=
  { kind := .response, id := responseId s, data := responseData code result tail, started := false }

/-- A request is answered; its activity and its wake come after that (R197). -/
def answer (r : ManagementRequest) (x : Reply) : State :=
  wake .management (activity (offer (responseFrame x.state (requestCode r) x.result x.tail) x.state))

/-- RESTART is taken: the queue is emptied but for the OK response, and start-up begins again (R210). -/
def takeRestart (s : State) : State :=
  { restart s with tx := [responseFrame s (requestCode .restart) .ok []] }

/-- A management request from the body bus: none is received before LISTEN; before RUN all but STATUS are answered
STARTING, a CRASH_CLEAR too, and a CRASH_UNLOCK, which is then not kept (R197, R211; log entries 49 and 85). -/
def manage (r : ManagementRequest) (s : State) : State :=
  if !following s then s
  else
    let s := maskAfter r s
    if running s then
      if r = .restart ∧ !saveBusy s then takeRestart s else answer r (serve r s)
    else if r = .status then answer r (serve r s)
    else answer r (reply .starting (setMask none s))

end Sys2Proof.Machine
end

