-- ==== Sys2Proof/Machine/Perform.lean ====
section
/-!
DEFINITION. The frame of every command: the time that passes before it, its effect, and the close of the step.
-/

namespace Sys2Proof.Machine

/-- What every command but POWER_ON answers. Without a supply time passes and nothing else happens (log entry 30). -/
def perform (dt : Nat) (f : State → State) (s : State) : Host.Outcome State Fault Refusal :=
  let s := elapse dt s
  .next (if s.stage = .off then s else finish s (f s))

/-- A deadline is taken, where it is present (log entry 2). -/
def atDeadline (deadline : Option Nat) (f : State → State) (s : State) : State :=
  match deadline with
  | some d => f (reach d s)
  | none => s

end Sys2Proof.Machine
end

