-- ==== Sys2Proof/Machine/BusCommands.lean ====
section
/-!
DEFINITION. The meanings of the body-bus, door-link and arbiter rows.
-/

namespace Sys2Proof.Machine

/-- A data frame the port has taken whole (R142, R143): at most 8 data bytes (log entry 25). -/
def receiveFrame (id : CanId) (data : List Byte) (s : State) : State :=
  if following s && data.length ≤ 8 then
    if id = s.mgmt.base then manage (readRequest data) s else matchFrame 0 id data s
  else s

/-- BODY_FRAME_RECEIVED (R143, R145). -/
def execBodyFrameReceived (dt : Nat) (id : CanId) (data : List Byte) (s : State) : Host.Outcome State Fault Refusal :=
  perform dt (receiveFrame id data) s

/-- UNKNOWN_REQUEST (R197, R217 A): a frame on the request identifier, read like any other. -/
def execUnknownRequest (dt : Nat) (data : List Byte) (s : State) : Host.Outcome State Fault Refusal :=
  perform dt (fun t => receiveFrame t.mgmt.base data t) s

/-- NODE_REPORT (R165, R168): a record that is late, second in its cycle or unreadable is discarded. -/
def execNodeReport (dt : Nat) (c : Closure) (record : List Byte) (s : State) : Host.Outcome State Fault Refusal :=
  perform dt
    (fun t =>
      match readReport record with
      | some rep => if cycleOpen t c then goodReport c rep t else t
      | none => t) s

/-- LINK_CYCLE_END (R165). -/
def execLinkCycleEnd (dt : Nat) (c : Closure) (s : State) : Host.Outcome State Fault Refusal :=
  perform dt (fun t => atDeadline (channel t c).cycleEnd (cycleEnds c) t) s

/-- MOTION_GRANT (R58, R61): one grant (log entry 7). -/
def execMotionGrant (dt : Nat) (s : State) : Host.Outcome State Fault Refusal :=
  perform dt
    (fun t =>
      match grantable t with
      | some w => grant w t
      | none => t) s

/-- PENDING_REQUEST_TAKEN (R11). -/
def execPendingRequestTaken (dt : Nat) (s : State) : Host.Outcome State Fault Refusal :=
  perform dt (fun t => if running t then followGroup t else t) s

/-- BUS_OFF (R141). -/
def execBusOff (dt : Nat) (s : State) : Host.Outcome State Fault Refusal :=
  perform dt (fun t => if following t && t.port == .active then enterSilent t else t) s

/-- PORT_ACTIVE_RETURN (R141). -/
def execPortActiveReturn (dt : Nat) (s : State) : Host.Outcome State Fault Refusal :=
  perform dt
    (fun t =>
      match t.port with
      | .silent since => { reach (since + Config.silentTime) t with port := .active }
      | .active => t) s

/-- BEGIN_TRANSMISSION (R161). -/
def execBeginTransmission (dt : Nat) (s : State) : Host.Outcome State Fault Refusal :=
  perform dt beginTransmission s

/-- FRAME_ACKNOWLEDGED (R161). -/
def execFrameAcknowledged (dt : Nat) (s : State) : Host.Outcome State Fault Refusal := perform dt acknowledge s

/-- TRANSMISSION_FAILED (R161). -/
def execTransmissionFailed (dt : Nat) (s : State) : Host.Outcome State Fault Refusal := perform dt abandonAttempt s

end Sys2Proof.Machine
end

