-- ==== Sys2Proof/Machine/ManagementCommands.lean ====
section
/-!
DEFINITION. The meanings of the management rows. Each hands its request, as a frame on B carries it, to the Management
Responder. The WRITE rows are one frame: the cursor decides which word they reach (log entry 37).
-/

namespace Sys2Proof.Machine

/-- SELECT (R198). -/
def execSelect (dt : Nat) (table : Byte) (index : Byte) (word : Byte) (s : State) : Host.Outcome State Fault Refusal :=
  perform dt (manage (.select table.toNat index.toNat word.toNat)) s

/-- READ (R198). -/
def execRead (dt : Nat) (s : State) : Host.Outcome State Fault Refusal :=
  perform dt (manage .read) s

/-- WRITE (R199). -/
def execWrite (dt : Nat) (value : Word) (s : State) : Host.Outcome State Fault Refusal :=
  perform dt (manage (.write value)) s

/-- WRITE_TRAVEL (R44). -/
def execWriteTravel (dt : Nat) (value : Word) (s : State) : Host.Outcome State Fault Refusal :=
  perform dt (manage (.write value)) s

/-- WRITE_OPEN_LIMIT (R46). -/
def execWriteOpenLimit (dt : Nat) (value : Word) (s : State) : Host.Outcome State Fault Refusal :=
  perform dt (manage (.write value)) s

/-- WRITE_CHILD_OPEN_LIMIT (R37). -/
def execWriteChildOpenLimit (dt : Nat) (value : Word) (s : State) : Host.Outcome State Fault Refusal :=
  perform dt (manage (.write value)) s

/-- WRITE_WINDOW_LOCKOUT (R35). -/
def execWriteWindowLockout (dt : Nat) (value : Word) (s : State) : Host.Outcome State Fault Refusal :=
  perform dt (manage (.write value)) s

/-- WRITE_PARAMETERS (R92). -/
def execWriteParameters (dt : Nat) (value : Word) (s : State) : Host.Outcome State Fault Refusal :=
  perform dt (manage (.write value)) s

/-- WRITE_CHANNEL_POWER_MODE (R177). -/
def execWriteChannelPowerMode (dt : Nat) (value : Word) (s : State) : Host.Outcome State Fault Refusal :=
  perform dt (manage (.write value)) s

/-- WRITE_PARK_DELAY (R189). -/
def execWriteParkDelay (dt : Nat) (value : Word) (s : State) : Host.Outcome State Fault Refusal :=
  perform dt (manage (.write value)) s

/-- WRITE_DEEP_DELAY (R191). -/
def execWriteDeepDelay (dt : Nat) (value : Word) (s : State) : Host.Outcome State Fault Refusal :=
  perform dt (manage (.write value)) s

/-- WRITE_PROFILES (R88). -/
def execWriteProfiles (dt : Nat) (value : Word) (s : State) : Host.Outcome State Fault Refusal :=
  perform dt (manage (.write value)) s

/-- WRITE_FOBS (R95). -/
def execWriteFobs (dt : Nat) (value : Word) (s : State) : Host.Outcome State Fault Refusal :=
  perform dt (manage (.write value)) s

/-- WRITE_PASSIVE_SETTINGS (R114). -/
def execWritePassiveSettings (dt : Nat) (value : Word) (s : State) : Host.Outcome State Fault Refusal :=
  perform dt (manage (.write value)) s

/-- WRITE_OPERATIONS (R128). -/
def execWriteOperations (dt : Nat) (value : Word) (s : State) : Host.Outcome State Fault Refusal :=
  perform dt (manage (.write value)) s

/-- WRITE_RULES (R144). -/
def execWriteRules (dt : Nat) (value : Word) (s : State) : Host.Outcome State Fault Refusal :=
  perform dt (manage (.write value)) s

/-- WRITE_WAKE_LINES (R184). -/
def execWriteWakeLines (dt : Nat) (value : Word) (s : State) : Host.Outcome State Fault Refusal :=
  perform dt (manage (.write value)) s

/-- WRITE_MANAGEMENT (R196). -/
def execWriteManagement (dt : Nat) (value : Word) (s : State) : Host.Outcome State Fault Refusal :=
  perform dt (manage (.write value)) s

/-- MASK (R200). -/
def execMask (dt : Nat) (bits : Word) (s : State) : Host.Outcome State Fault Refusal :=
  perform dt (manage (.mask bits)) s

/-- RELEASE (R155). -/
def execRelease (dt : Nat) (ticket : Byte) (s : State) : Host.Outcome State Fault Refusal :=
  perform dt (manage (.release ticket.toNat)) s

/-- DISCARD (R156). -/
def execDiscard (dt : Nat) (ticket : Byte) (s : State) : Host.Outcome State Fault Refusal :=
  perform dt (manage (.discard ticket.toNat)) s

/-- LOCK_ALL (R7). -/
def execLockAll (dt : Nat) (s : State) : Host.Outcome State Fault Refusal :=
  perform dt (manage (.request (.lock .lockAll))) s

/-- UNLOCK_ALL (R7). -/
def execUnlockAll (dt : Nat) (s : State) : Host.Outcome State Fault Refusal :=
  perform dt (manage (.request (.lock .unlockAll))) s

/-- UNLOCK_DRIVER (R7). -/
def execUnlockDriver (dt : Nat) (s : State) : Host.Outcome State Fault Refusal :=
  perform dt (manage (.request (.lock .unlockDriver))) s

/-- DEADLOCK_ALL (R7). -/
def execDeadlockAll (dt : Nat) (s : State) : Host.Outcome State Fault Refusal :=
  perform dt (manage (.request (.lock .deadlockAll))) s

/-- UNLOCK_TAILGATE (R7). -/
def execUnlockTailgate (dt : Nat) (s : State) : Host.Outcome State Fault Refusal :=
  perform dt (manage (.request (.lock .unlockTailgate))) s

/-- RELEASE_TAILGATE (R24). -/
def execReleaseTailgate (dt : Nat) (s : State) : Host.Outcome State Fault Refusal :=
  perform dt (manage (.request .releaseTailgate)) s

/-- CRASH_UNLOCK (R19). -/
def execCrashUnlock (dt : Nat) (s : State) : Host.Outcome State Fault Refusal :=
  perform dt (manage (.request (.lock .crashUnlock))) s

/-- CRASH_CLEAR (R20). -/
def execCrashClear (dt : Nat) (s : State) : Host.Outcome State Fault Refusal :=
  perform dt (manage (.request .crashClear)) s

/-- CHILD_SET (R30). -/
def execChildSet (dt : Nat) (closure : Byte) (childState : Byte) (s : State) : Host.Outcome State Fault Refusal :=
  perform dt (manage (.request (.childSet closure.toNat childState.toNat))) s

/-- CLEAR_NORMALIZED (R57). -/
def execClearNormalized (dt : Nat) (window : Byte) (s : State) : Host.Outcome State Fault Refusal :=
  perform dt (manage (.request (.clearNormalized window.toNat))) s

/-- WINDOW_MOVE (R48). -/
def execWindowMove (dt : Nat) (window : Byte) (count : BitVec 16) (s : State) : Host.Outcome State Fault Refusal :=
  perform dt (manage (.request (.windowMove window.toNat count.toNat))) s

/-- WINDOW_STOP (R50). -/
def execWindowStop (dt : Nat) (window : Byte) (s : State) : Host.Outcome State Fault Refusal :=
  perform dt (manage (.request (.windowStop window.toNat))) s

/-- OPERATION_START (R130). -/
def execOperationStart (dt : Nat) (descriptor : Byte) (s : State) : Host.Outcome State Fault Refusal :=
  perform dt (manage (.request (.operationStart descriptor.toNat))) s

/-- OPERATION_CANCEL (R138). -/
def execOperationCancel (dt : Nat) (s : State) : Host.Outcome State Fault Refusal :=
  perform dt (manage (.request .operationCancel)) s

/-- CLEAR_WAKE (R184). -/
def execClearWake (dt : Nat) (lines : Byte) (s : State) : Host.Outcome State Fault Refusal :=
  perform dt (manage (.clearWake lines.toNat)) s

/-- FAULTS (R202). -/
def execFaults (dt : Nat) (s : State) : Host.Outcome State Fault Refusal :=
  perform dt (manage .faults) s

/-- CLEAR_FAULTS (R206). -/
def execClearFaults (dt : Nat) (s : State) : Host.Outcome State Fault Refusal :=
  perform dt (manage .clearFaults) s

/-- SAVE (R208). -/
def execSave (dt : Nat) (s : State) : Host.Outcome State Fault Refusal :=
  perform dt (manage .save) s

/-- PROTECT (R203). -/
def execProtect (dt : Nat) (readFlags : Byte) (writeFlags : Byte) (lockByte : Byte) (s : State) :
    Host.Outcome State Fault Refusal :=
  perform dt (manage (.protect readFlags.toNat writeFlags.toNat lockByte.toNat)) s

/-- RESTART (R210). -/
def execRestart (dt : Nat) (s : State) : Host.Outcome State Fault Refusal :=
  perform dt (manage .restart) s

/-- STATUS (R202). -/
def execStatus (dt : Nat) (s : State) : Host.Outcome State Fault Refusal :=
  perform dt (manage .status) s

end Sys2Proof.Machine
end

