-- ==== Sys2Proof/Machine/SupplyCommands.lean ====
section
/-!
DEFINITION. The meanings of the supply, start-up, store and pin rows.
-/

namespace Sys2Proof.Machine

/-- POWER_ON (R211). -/
def execPowerOn (dt : Nat) (s0 s1 s2 : Bool) (s : State) : Host.Outcome State Fault Refusal :=
  .next (powerOn ⟨s0, s1, s2⟩ (elapse dt s))

/-- LOAD_COMPLETE (R211). -/
def execLoadComplete (dt : Nat) (s : State) : Host.Outcome State Fault Refusal :=
  perform dt (fun t => if t.stage = .load then beginListen t else t) s

/-- LISTEN_END (R212). -/
def execListenEnd (dt : Nat) (s : State) : Host.Outcome State Fault Refusal :=
  perform dt (fun t => atDeadline t.listenEnd beginPoll t) s

/-- POWER_LOSS (R209): every working record ends, and a running save leaves the image as far as it was written. -/
def execPowerLoss (dt : Nat) (extent : WriteExtent) (s : State) : Host.Outcome State Fault Refusal :=
  perform dt (fun t => cold { t with store := { t.store with image := tornImage extent t.store } }) s

/-- SAVE_COMPLETE (R204, R209): a kept park save then begins at once. -/
def execSaveComplete (dt : Nat) (verified : Bool) (s : State) : Host.Outcome State Fault Refusal :=
  perform dt
    (fun t =>
      match t.store.snapshot with
      | some image => startKept (if verified then saveGood image t else saveFailed image t)
      | none => t) s

/-- PARK_SAVE (R190, R208): a park save begins with its own snapshot where no save runs, and is kept while one runs, whose
end begins it (log entry 17). -/
def execParkSave (dt : Nat) (s : State) : Host.Outcome State Fault Refusal :=
  perform dt (fun t => if running t then parkSave t else t) s

/-- The retained deadline a RUN→OFF transition sets; with a Retained Time of 0 honouring ends at once (R51). -/
def setRetained (s : State) : State :=
  if s.cfg.car.retainedTime = 0 then endHonouring s
  else { s with motion := { s.motion with retained := some (s.now + s.cfg.car.retainedTime * 1000) } }

/-- A transition of the ignition from RUN on, once the field is written (R182). -/
def ignitionChanged (level : Ignition) (s : State) : State :=
  let s := activity s
  match level with
  | .run => wake .ignition (dropRetained (lockIgnitionOn s))
  | .off => setRetained s

/-- IGNITION_TRANSITION (R182); the line is followed from LISTEN on. -/
def execIgnitionTransition (dt : Nat) (level : Ignition) (s : State) : Host.Outcome State Fault Refusal :=
  perform dt
    (fun t =>
      let pin := match level with
        | .run => Level.high
        | .off => Level.low
      let old := t.ctx.ignition
      let t := { t with pins := t.pins.set .ign pin }
      if following t then
        let t := { t with ctx := { t.ctx with ignition := level } }
        if running t && old != level then ignitionChanged level t else t
      else t) s

/-- The line takes the level at which its mode detects, and the detection is taken; in a level mode there is none while
pending is set (R183; log entry 18). -/
def lineDetection (line : WakeLine) (s : State) : State :=
  let mode := (s.cfg.lines.get line).mode
  let s := { s with pins := s.pins.set line (activeLevel mode) }
  if following s then
    let s := { s with lines := s.lines.set line { s.lines.get line with level := activeLevel mode } }
    match mode with
    | .rising => detect line s
    | .falling => detect line s
    | _ => judgeLevel line s
  else s

/-- WAKE_LINE_DETECTION (R185). -/
def execWakeLineDetection (dt : Nat) (line : WakeLine) (s : State) : Host.Outcome State Fault Refusal :=
  perform dt (lineDetection line) s

/-- WAKE_LINE_LEVEL_CHANGE (R183): should the change be a detection under the mode after all, it is taken as one. -/
def execWakeLineLevelChange (dt : Nat) (line : WakeLine) (level : Level) (s : State) :
    Host.Outcome State Fault Refusal :=
  perform dt
    (fun t =>
      let t := { t with pins := t.pins.set line level }
      if following t then lineLevel line level t else t) s

end Sys2Proof.Machine
end

