-- ==== Sys2Proof/Machine/TimerCommands.lean ====
section
/-!
DEFINITION. The meanings of the deadline rows. Each takes its deadline where it is present and changes nothing where it
is absent.
-/

namespace Sys2Proof.Machine

/-- DRIVE_DEADLINE (R12). -/
def execDriveDeadline (dt : Nat) (c : Closure) (s : State) : Host.Outcome State Fault Refusal :=
  perform dt (fun t => atDeadline (closure t c).driveDeadline (driveExpired c) t) s

/-- SETTLE_DEADLINE (R13, R14). -/
def execSettleDeadline (dt : Nat) (c : Closure) (s : State) : Host.Outcome State Fault Refusal :=
  perform dt (fun t => atDeadline (closure t c).settleDeadline (settleExpired c) t) s

/-- CHILD_SETTLE_DEADLINE (R32). -/
def execChildSettleDeadline (dt : Nat) (d : RearDoor) (s : State) : Host.Outcome State Fault Refusal :=
  perform dt (fun t => atDeadline (child t d).settleDeadline (childSettleExpired d) t) s

/-- REFILL_DEADLINE (R5). -/
def execRefillDeadline (dt : Nat) (s : State) : Host.Outcome State Fault Refusal :=
  perform dt
    (fun t => atDeadline t.group.refillDeadline (fun u => { u with group := refilled u.now u.group }) t) s

/-- RELOCK_DEADLINE (R22). -/
def execRelockDeadline (dt : Nat) (s : State) : Host.Outcome State Fault Refusal :=
  perform dt
    (fun t =>
      match t.group.relockTimer with
      | some timer => relockExpired timer.restore (reach timer.deadline t)
      | none => t) s

/-- RELEASE_DEADLINE (R24). -/
def execReleaseDeadline (dt : Nat) (s : State) : Host.Outcome State Fault Refusal :=
  perform dt
    (fun t => atDeadline t.release.deadline (fun u => { u with release := { u.release with deadline := none } }) t) s

/-- DRIVER_FIRST_WINDOW_EXPIRY (R27). -/
def execDriverFirstWindowExpiry (dt : Nat) (s : State) : Host.Outcome State Fault Refusal :=
  perform dt
    (fun t => atDeadline t.group.driverFirst (fun u => { u with group := { u.group with driverFirst := none } }) t) s

/-- DOUBLE_LOCK_WINDOW_EXPIRY (R27). -/
def execDoubleLockWindowExpiry (dt : Nat) (s : State) : Host.Outcome State Fault Refusal :=
  perform dt
    (fun t =>
      atDeadline (t.group.doubleLock.map (·.deadline))
        (fun u => { u with group := { u.group with doubleLock := none } }) t) s

/-- TIMED_PATTERN_DEADLINE (R39). -/
def execTimedPatternDeadline (dt : Nat) (s : State) : Host.Outcome State Fault Refusal :=
  perform dt (fun t => atDeadline (t.timed.map (·.deadline)) (fun u => { u with timed := none }) t) s

/-- RETAINED_DEADLINE (R51). -/
def execRetainedDeadline (dt : Nat) (s : State) : Host.Outcome State Fault Refusal :=
  perform dt (fun t => atDeadline t.motion.retained dropRetained t) s

/-- NORMALIZATION_HOLD_DEADLINE (R56 C). -/
def execNormalizationHoldDeadline (dt : Nat) (w : WindowId) (s : State) : Host.Outcome State Fault Refusal :=
  perform dt (fun t => atDeadline (window t w).normHold (normalize w) t) s

/-- RUN_TIME_LIMIT (R62, R86 D). -/
def execRunTimeLimit (dt : Nat) (w : WindowId) (s : State) : Host.Outcome State Fault Refusal :=
  perform dt (fun t => atDeadline (runLimit (window t w)) (runTimeOut w) t) s

/-- CANDIDATE_DEADLINE (R98). -/
def execCandidateDeadline (dt : Nat) (i : Fin 8) (s : State) : Host.Outcome State Fault Refusal :=
  perform dt
    (fun t =>
      atDeadline ((fobRun t i).candidate.map (·.deadline))
        (fun u => setFobRun i { fobRun u i with candidate := none } u) t) s

/-- HOLD_DEADLINE (R106). -/
def execHoldDeadline (dt : Nat) (s : State) : Host.Outcome State Fault Refusal :=
  perform dt (fun t => atDeadline (t.key.hold.map (·.deadline)) (setHold none) t) s

/-- LEASE_DEADLINE (R136, R137). -/
def execLeaseDeadline (dt : Nat) (s : State) : Host.Outcome State Fault Refusal :=
  perform dt
    (fun t => atDeadline (t.op.active.bind (·.lease)) (fun u => abort .leaseLost (crashTest u)) t) s

/-- SEARCH_DEADLINE (R125). -/
def execSearchDeadline (dt : Nat) (n : Fin 4) (s : State) : Host.Outcome State Fault Refusal :=
  perform dt
    (fun t =>
      match slot t n with
      | some x => closeSlot n x .noKey none (reach x.deadline t)
      | none => t) s

/-- TRAP_EXPIRY (R156). -/
def execTrapExpiry (dt : Nat) (ticket : Byte) (s : State) : Host.Outcome State Fault Refusal :=
  perform dt
    (fun t =>
      match heldFrame t ticket.toNat with
      | some f => expireFrame f (reach f.expiry t)
      | none => t) s

/-- SPEED_FRESHNESS_DEADLINE (R180). -/
def execSpeedFreshnessDeadline (dt : Nat) (s : State) : Host.Outcome State Fault Refusal :=
  perform dt
    (fun t => atDeadline t.ctx.speedFresh (fun u => { u with ctx := { u.ctx with speedFresh := none } }) t) s

/-- VOLTAGE_FRESHNESS_DEADLINE (R180). -/
def execVoltageFreshnessDeadline (dt : Nat) (s : State) : Host.Outcome State Fault Refusal :=
  perform dt
    (fun t => atDeadline t.ctx.voltageFresh (fun u => { u with ctx := { u.ctx with voltageFresh := none } }) t) s

/-- STATUS_PERIOD (R163 A). -/
def execStatusPeriod (dt : Nat) (s : State) : Host.Outcome State Fault Refusal :=
  perform dt
    (fun t =>
      match t.nextStatus with
      | some d =>
        let t := { reach d t with nextStatus := some (d + Config.statusTime) }
        if running t && isAwake t then offerPages t else t
      | none => t) s

/-- IDLE_DEADLINE (R189): the clock reaches it in AWAKE, and the close of the step enters PARKED if it may. -/
def execIdleDeadline (dt : Nat) (s : State) : Host.Outcome State Fault Refusal :=
  perform dt (fun t => if running t && isAwake t then reach t.ctx.idleDeadline t else t) s

/-- DEEP_DEADLINE (R191): the clock reaches it, and the close of the step enters DEEP if it may. -/
def execDeepDeadline (dt : Nat) (s : State) : Host.Outcome State Fault Refusal :=
  perform dt (fun t => atDeadline t.ctx.deepDeadline id t) s

end Sys2Proof.Machine
end

