-- ==== Sys2Proof/Machine/Dispatch.lean ====
section
/-! DEFINITION. The dispatch: one arm for each row of the table, each one direct call of the row's meaning. -/

namespace Sys2Proof.Machine

/-- A command's effect on everything but the queue. -/
def exec (i : Instr) (s : State) : Host.Outcome State Fault Refusal :=
  match i with
  | .powerOn dt strap0 strap1 strap2 => Sys2Proof.Machine.execPowerOn dt strap0 strap1 strap2 s
  | .loadComplete dt => Sys2Proof.Machine.execLoadComplete dt s
  | .listenEnd dt => Sys2Proof.Machine.execListenEnd dt s
  | .bodyFrameReceived dt id data => Sys2Proof.Machine.execBodyFrameReceived dt id data s
  | .select dt table index word => Sys2Proof.Machine.execSelect dt table index word s
  | .read dt => Sys2Proof.Machine.execRead dt s
  | .write dt value => Sys2Proof.Machine.execWrite dt value s
  | .writeTravel dt value => Sys2Proof.Machine.execWriteTravel dt value s
  | .writeOpenLimit dt value => Sys2Proof.Machine.execWriteOpenLimit dt value s
  | .writeChildOpenLimit dt value => Sys2Proof.Machine.execWriteChildOpenLimit dt value s
  | .writeWindowLockout dt value => Sys2Proof.Machine.execWriteWindowLockout dt value s
  | .writeParameters dt value => Sys2Proof.Machine.execWriteParameters dt value s
  | .writeChannelPowerMode dt value => Sys2Proof.Machine.execWriteChannelPowerMode dt value s
  | .writeParkDelay dt value => Sys2Proof.Machine.execWriteParkDelay dt value s
  | .writeDeepDelay dt value => Sys2Proof.Machine.execWriteDeepDelay dt value s
  | .writeProfiles dt value => Sys2Proof.Machine.execWriteProfiles dt value s
  | .writeFobs dt value => Sys2Proof.Machine.execWriteFobs dt value s
  | .writePassiveSettings dt value => Sys2Proof.Machine.execWritePassiveSettings dt value s
  | .writeOperations dt value => Sys2Proof.Machine.execWriteOperations dt value s
  | .writeRules dt value => Sys2Proof.Machine.execWriteRules dt value s
  | .writeWakeLines dt value => Sys2Proof.Machine.execWriteWakeLines dt value s
  | .writeManagement dt value => Sys2Proof.Machine.execWriteManagement dt value s
  | .mask dt bits => Sys2Proof.Machine.execMask dt bits s
  | .release dt ticket => Sys2Proof.Machine.execRelease dt ticket s
  | .discard dt ticket => Sys2Proof.Machine.execDiscard dt ticket s
  | .lockAll dt => Sys2Proof.Machine.execLockAll dt s
  | .unlockAll dt => Sys2Proof.Machine.execUnlockAll dt s
  | .unlockDriver dt => Sys2Proof.Machine.execUnlockDriver dt s
  | .deadlockAll dt => Sys2Proof.Machine.execDeadlockAll dt s
  | .unlockTailgate dt => Sys2Proof.Machine.execUnlockTailgate dt s
  | .releaseTailgate dt => Sys2Proof.Machine.execReleaseTailgate dt s
  | .crashUnlock dt => Sys2Proof.Machine.execCrashUnlock dt s
  | .crashClear dt => Sys2Proof.Machine.execCrashClear dt s
  | .childSet dt closure childState => Sys2Proof.Machine.execChildSet dt closure childState s
  | .clearNormalized dt window => Sys2Proof.Machine.execClearNormalized dt window s
  | .windowMove dt window count => Sys2Proof.Machine.execWindowMove dt window count s
  | .windowStop dt window => Sys2Proof.Machine.execWindowStop dt window s
  | .operationStart dt descriptor => Sys2Proof.Machine.execOperationStart dt descriptor s
  | .operationCancel dt => Sys2Proof.Machine.execOperationCancel dt s
  | .clearWake dt lines => Sys2Proof.Machine.execClearWake dt lines s
  | .faults dt => Sys2Proof.Machine.execFaults dt s
  | .clearFaults dt => Sys2Proof.Machine.execClearFaults dt s
  | .save dt => Sys2Proof.Machine.execSave dt s
  | .protect dt readFlags writeFlags lockByte => Sys2Proof.Machine.execProtect dt readFlags writeFlags lockByte s
  | .restart dt => Sys2Proof.Machine.execRestart dt s
  | .status dt => Sys2Proof.Machine.execStatus dt s
  | .unknownRequest dt data => Sys2Proof.Machine.execUnknownRequest dt data s
  | .nodeReport dt channel record => Sys2Proof.Machine.execNodeReport dt channel record s
  | .linkCycleEnd dt channel => Sys2Proof.Machine.execLinkCycleEnd dt channel s
  | .motionGrant dt => Sys2Proof.Machine.execMotionGrant dt s
  | .pendingRequestTaken dt => Sys2Proof.Machine.execPendingRequestTaken dt s
  | .driveDeadline dt closure => Sys2Proof.Machine.execDriveDeadline dt closure s
  | .settleDeadline dt closure => Sys2Proof.Machine.execSettleDeadline dt closure s
  | .childSettleDeadline dt door => Sys2Proof.Machine.execChildSettleDeadline dt door s
  | .refillDeadline dt => Sys2Proof.Machine.execRefillDeadline dt s
  | .relockDeadline dt => Sys2Proof.Machine.execRelockDeadline dt s
  | .releaseDeadline dt => Sys2Proof.Machine.execReleaseDeadline dt s
  | .driverFirstWindowExpiry dt => Sys2Proof.Machine.execDriverFirstWindowExpiry dt s
  | .doubleLockWindowExpiry dt => Sys2Proof.Machine.execDoubleLockWindowExpiry dt s
  | .timedPatternDeadline dt => Sys2Proof.Machine.execTimedPatternDeadline dt s
  | .retainedDeadline dt => Sys2Proof.Machine.execRetainedDeadline dt s
  | .normalizationHoldDeadline dt window => Sys2Proof.Machine.execNormalizationHoldDeadline dt window s
  | .runTimeLimit dt window => Sys2Proof.Machine.execRunTimeLimit dt window s
  | .candidateDeadline dt fob => Sys2Proof.Machine.execCandidateDeadline dt fob s
  | .holdDeadline dt => Sys2Proof.Machine.execHoldDeadline dt s
  | .leaseDeadline dt => Sys2Proof.Machine.execLeaseDeadline dt s
  | .searchDeadline dt slot => Sys2Proof.Machine.execSearchDeadline dt slot s
  | .trapExpiry dt ticket => Sys2Proof.Machine.execTrapExpiry dt ticket s
  | .speedFreshnessDeadline dt => Sys2Proof.Machine.execSpeedFreshnessDeadline dt s
  | .voltageFreshnessDeadline dt => Sys2Proof.Machine.execVoltageFreshnessDeadline dt s
  | .statusPeriod dt => Sys2Proof.Machine.execStatusPeriod dt s
  | .idleDeadline dt => Sys2Proof.Machine.execIdleDeadline dt s
  | .parkSave dt => Sys2Proof.Machine.execParkSave dt s
  | .deepDeadline dt => Sys2Proof.Machine.execDeepDeadline dt s
  | .ignitionTransition dt level => Sys2Proof.Machine.execIgnitionTransition dt level s
  | .wakeLineDetection dt line => Sys2Proof.Machine.execWakeLineDetection dt line s
  | .busOff dt => Sys2Proof.Machine.execBusOff dt s
  | .portActiveReturn dt => Sys2Proof.Machine.execPortActiveReturn dt s
  | .beginTransmission dt => Sys2Proof.Machine.execBeginTransmission dt s
  | .frameAcknowledged dt => Sys2Proof.Machine.execFrameAcknowledged dt s
  | .transmissionFailed dt => Sys2Proof.Machine.execTransmissionFailed dt s
  | .saveComplete dt verified => Sys2Proof.Machine.execSaveComplete dt verified s
  | .powerLoss dt extent => Sys2Proof.Machine.execPowerLoss dt extent s
  | .wakeLineLevelChange dt line level => Sys2Proof.Machine.execWakeLineLevelChange dt line level s

end Sys2Proof.Machine
end

