-- ==== Sys2Proof/Machine/DueSteps.lean ====
section
/-!
DEFINITION. What happens on an empty queue: one millisecond passes, and the part's own steps that are then due join the
queue (log entry 3). The steps that depend on the outside (frames, reports, pins, the end of LOAD or of a save, the
supply) never arise here.
-/

namespace Sys2Proof.Machine

/-- A deadline that is present and has been reached. -/
def due (now : Nat) : Option Nat → Bool
  | some d => d ≤ now
  | none => false

/-- The step, where its deadline is due. -/
def dueStep (now : Nat) (deadline : Option Nat) (i : Instr) : List Instr := if due now deadline then [i] else []

/-- The step, where its condition holds. -/
def stepIf (cond : Bool) (i : Instr) : List Instr := if cond then [i] else []

/-- The pending lock request can be taken (R11). -/
def takeable (s : State) : Bool := running s && !groupBusy s && s.group.slot.any (ready s)

/-- The eight places of the Fob Table. -/
def allFobs : List (Fin 8) := [0, 1, 2, 3, 4, 5, 6, 7]

/-- The four Search Slots. -/
def allSlots : List (Fin 4) := [0, 1, 2, 3]

/-- When the SILENT port becomes ACTIVE (R141). -/
def silentEnd : Port → Option Nat
  | .active => none
  | .silent since => some (since + Config.silentTime)

/-- The due steps of start-up, the door links, the locks and the lamp. -/
def dueLockSteps (s : State) : List Instr :=
  dueStep s.now s.listenEnd (.listenEnd 0)
    ++ allClosures.flatMap (fun c => dueStep s.now (channel s c).cycleEnd (.linkCycleEnd 0 c))
    ++ allClosures.flatMap (fun c => dueStep s.now (closure s c).driveDeadline (.driveDeadline 0 c))
    ++ allClosures.flatMap (fun c => dueStep s.now (closure s c).settleDeadline (.settleDeadline 0 c))
    ++ allRearDoors.flatMap (fun d => dueStep s.now (child s d).settleDeadline (.childSettleDeadline 0 d))
    ++ dueStep s.now s.group.refillDeadline (.refillDeadline 0)
    ++ dueStep s.now (s.group.relockTimer.map (·.deadline)) (.relockDeadline 0)
    ++ dueStep s.now s.release.deadline (.releaseDeadline 0)
    ++ dueStep s.now s.group.driverFirst (.driverFirstWindowExpiry 0)
    ++ dueStep s.now (s.group.doubleLock.map (·.deadline)) (.doubleLockWindowExpiry 0)
    ++ dueStep s.now (s.timed.map (·.deadline)) (.timedPatternDeadline 0)
    ++ stepIf (takeable s) (.pendingRequestTaken 0)

/-- The due steps of the windows, the keys and the operations. -/
def dueWindowSteps (s : State) : List Instr :=
  dueStep s.now s.motion.retained (.retainedDeadline 0)
    ++ allWindows.flatMap (fun w => dueStep s.now (window s w).normHold (.normalizationHoldDeadline 0 w))
    ++ allWindows.flatMap (fun w => dueStep s.now (runLimit (window s w)) (.runTimeLimit 0 w))
    ++ stepIf (grantable s).isSome (.motionGrant 0)
    ++ allFobs.flatMap
        (fun (i : Fin 8) => dueStep s.now ((fobRun s i).candidate.map (·.deadline)) (.candidateDeadline 0 i))
    ++ dueStep s.now (s.key.hold.map (·.deadline)) (.holdDeadline 0)
    ++ dueStep s.now (s.op.active.bind (·.lease)) (.leaseDeadline 0)
    ++ allSlots.flatMap (fun (n : Fin 4) => dueStep s.now ((slot s n).map (·.deadline)) (.searchDeadline 0 n))

/-- The due steps of the frame path, the context and the operating state. -/
def dueFrameSteps (s : State) : List Instr :=
  s.trap.held.flatMap (fun f => dueStep s.now (some f.expiry) (.trapExpiry 0 (oneByte f.ticket)))
    ++ dueStep s.now s.ctx.speedFresh (.speedFreshnessDeadline 0)
    ++ dueStep s.now s.ctx.voltageFresh (.voltageFreshnessDeadline 0)
    ++ dueStep s.now s.nextStatus (.statusPeriod 0)
    ++ stepIf (running s && mayPark s) (.idleDeadline 0)
    ++ stepIf (running s && maySinkDeep s) (.deepDeadline 0)
    ++ dueStep s.now (silentEnd s.port) (.portActiveReturn 0)
    ++ stepIf (mayTransmit s) (.beginTransmission 0)

/-- The part's own steps that are due, each with no time before it. -/
def dueSteps (s : State) : List Instr := dueLockSteps s ++ dueWindowSteps s ++ dueFrameSteps s

/-- A millisecond in which no command came. -/
def idle (s : State) : State :=
  let s := elapse 1 s
  { s with pending := dueSteps s }

end Sys2Proof.Machine
end

