-- ==== Sys2Proof/Machine/Step.lean ====
section
/-!
DEFINITION. One step of the block: the command at the front of the queue is taken, or a millisecond passes.
-/

namespace Sys2Proof.Machine

/-- The front command's meaning on the state with the queue's rest; on an empty queue, `idle` (log entry 3). -/
def step (s : State) : Host.Outcome State Fault Refusal :=
  match s.pending with
  | i :: rest => exec i { s with pending := rest }
  | [] => .next (idle s)

/-- The state with the command that the word spells at the front of its queue; as it is where the word spells none
(log entry 26). -/
def State.withFetchWord (s : State) (nbits w : Nat) : State :=
  match decodeTableWord nbits w with
  | some i => { s with pending := i :: s.pending }
  | none => s

end Sys2Proof.Machine
end

