-- ==== Sys2Proof/Safety.lean ====
section
/-!
DEFINITION. The terms that the statements about the block use: the limits that every state of a run keeps, the calm
state in which the close of a step asks for nothing, and what it means for two states to agree.
-/

namespace Sys2Proof.Machine

/-- The limits the manual sets on what the block holds: 12 tokens (R5), 16 queued frames (R160), 4 held frames (R154),
2 frames for each door (R158), 2 motor slots (R58), and a position within each window's travel (R44). -/
structure Bounded (s : State) : Prop where
  tokens : s.group.tokens ≤ Config.tokenMax
  tx : s.tx.length ≤ Config.txPlaces
  trap : s.trap.held.length ≤ Config.trapPlaces
  pass : ∀ c, (s.pass.get c).length ≤ Config.passPlaces
  slots : s.motion.slots.length ≤ Config.motorSlots
  positions : ∀ w, (window s w).position ≤ (windowCfg s w).travel

/-- What the Operation Engine keeps: no operation is present while crash hold is set (R137), and the Active Operation
counts its steps that have not ended (R129). -/
structure OperationsSound (s : State) : Prop where
  stopped : s.group.crashHold.isSome → s.op.active = none
  counted : ∀ op, s.op.active = some op → op.remaining = notEnded op.steps

/-- The supply is on, and the close of a step has nothing to do: before RUN it never has; in RUN the part is AWAKE with
the ignition RUN and every channel has the rate that R176 gives it. -/
structure Calm (s : State) : Prop where
  supplied : s.stage ≠ .off
  awake : s.stage = .run → s.ctx.state = .awake
  ignition : s.stage = .run → s.ctx.ignition = .run
  rates : s.stage = .run → ∀ c, (channel s c).rate = chosenRate s c

/-- A calm part in RUN. -/
structure Steady (s : State) : Prop extends Calm s where
  run : s.stage = .run

/-- A part in AWAKE that a request cannot find parking, because the request is itself an activity event: with the ignition
OFF it needs a Park Delay above 0, which every WRITE keeps (R187, R189, R197). -/
structure Alert (s : State) : Prop where
  run : s.stage = .run
  awake : s.ctx.state = .awake
  parkDelay : s.ctx.ignition = .off → 0 < s.cfg.car.parkDelay
  rates : ∀ c, (channel s c).rate = chosenRate s c

/-- A part in RUN, in any operating state, whose state and rates still stand `dt` ms later: AWAKE it does not meet the
PARKED conditions, and PARKED it does not meet those of DEEP (R176, R189, R191). -/
structure Settled (dt : Nat) (s : State) : Prop where
  run : s.stage = .run
  awake : s.ctx.state = .awake → s.ctx.ignition = .run ∨ awakeHold s = true ∨ s.now + dt < s.ctx.idleDeadline
  parked : s.ctx.state = .parked → awakeHold s = true ∨ ∀ d ∈ s.ctx.deepDeadline, s.now + dt < d
  rates : ∀ c, (channel s c).rate = chosenRate s c

/-- A part at rest: PARKED or DEEP, with a Park Delay above 0. -/
structure Asleep (s : State) : Prop where
  run : s.stage = .run
  asleep : s.ctx.state = .parked ∨ s.ctx.state = .deep
  parkDelay : 0 < s.cfg.car.parkDelay

/-- A state less the time of the last activity and the idle deadline that follows from it (R187). -/
def lessActivity (s : State) : State := { s with ctx := { s.ctx with lastActivity := 0, idleDeadline := 0 } }

/-- Two states agree in everything but the last activity and the idle deadline. -/
def AgreeButActivity (s t : State) : Prop := lessActivity s = lessActivity t

/-- The state `dt` ms later with the one-shot mask used up and a response at the tail of the transmit queue: what every
management request but MASK does besides its own effect (R197, R200). -/
def replied (dt code : Nat) (result : Result) (tail : List Byte) (s : State) : State :=
  { s with
    now := s.now + dt, mgmt := { s.mgmt with mask := none }, tx := s.tx ++ [responseFrame s code result tail] }

/-- An alert part with room in the transmit queue, the cursor at a word of an unprotected table, and no mask: a WRITE
there meets the owner's own checks alone (R199, R200). -/
structure WriteReady (table index word : Nat) (s : State) : Prop where
  alert : Alert s
  room : s.tx.length < Config.txPlaces
  cursor : s.mgmt.cursor = ⟨table, index, word⟩
  mask : s.mgmt.mask = none
  open_ : regionFlag s.cfg.protection.writeFlags table = false

/-- A WRITE answered OK without the END flag: `t` holds the change, and `next` is the place the cursor goes on to. -/
def written (dt : Nat) (next : Cursor) (t : State) : State :=
  replied dt 0x03 .ok [0] { t with mgmt := { t.mgmt with cursor := next } }

/-- A WRITE answered OK at the last word of a table: the END flag goes out and the cursor stays (R198). -/
def writtenLast (dt : Nat) (t : State) : State := replied dt 0x03 .ok [1] t

/-! ## Locks -/

/-- An alert part whose lock group is idle, with every channel reporting, tokens left, no crash hold and no latch AJAR: a
lock request is taken at once and actuated (R7, R9). -/
structure LockReady (s : State) : Prop where
  alert : Alert s
  room : s.tx.length < Config.txPlaces
  idle : ∀ c, (closure s c).phase = .idle ∨ (closure s c).phase = .fault
  unsent : ∀ c, (closure s c).command = .idle ∧ (closure s c).pulseSteps = 0
  noFlight : s.group.inFlight = none
  noSlot : s.group.slot = none
  reported : ∀ c, (channel s c).reported = true
  present : ∀ c, (channel s c).link ≠ .lost
  notForced : ∀ c, s.cfg.modes.get c ≠ .forcedOff
  tokens : 0 < s.group.tokens
  noHold : s.group.crashHold = none
  noAjar : ∀ c, (closure s c).latch ≠ .ajar

/-- A named closure right after its actuation: IDLE where it is sensed at its target, and otherwise DRIVING with a pulse
toward the target prepared; a target of UNLOCKED clears opened-since-unlock (R2, R8 B and C). -/
def actuated (target : LockTarget) (source : LockSource) (steps : Nat) (k : ClosureLock) : ClosureLock :=
  let aimed := { k with
    target := target, lastSource := source, driveDeadline := none, settleDeadline := none
    openedSinceUnlock := if target = LockTarget.unlocked then false else k.openedSinceUnlock }
  if atTarget k.sensed target then { aimed with phase := .idle }
  else { aimed with phase := .driving, command := pulseFor target, pulseSteps := steps }

/-- The state with a request actuated `dt` ms later on the closures `names`, each to its target: one token consumed, the
refill running, the request in flight, and the relock timer absent unless the request is its own (R5, R7, R8, R22). -/
def lockedBy (dt : Nat) (r : LockRequest) (names : List Closure) (target : Closure → LockTarget) (s : State) : State :=
  { s with
    closures := s.closures.mapWith fun c k =>
      if c ∈ names then actuated (target c) r.source s.cfg.car.pulseSteps k else k
    group := { s.group with
      inFlight := some ⟨r, driverClosure s⟩, tokens := s.group.tokens - 1, lastRefusal := none
      refillDeadline := s.group.refillDeadline <|> some (s.now + dt + 5000), relockTimer := none } }

/-- Some closure a request names is not sensed at its new target. -/
def SomeToDrive (names : List Closure) (target : Closure → LockTarget) (s : State) : Prop :=
  ∃ c ∈ names, atTarget (closure s c).sensed (target c) = false

/-- The lock lamp's timed pattern less a STEADY one, which an unlock takes away (R39). -/
def lessSteady (t : Option TimedPattern) : Option TimedPattern := t.filter fun p => p.pattern ≠ .steady

/-- The closures that a kind of request names, with the driver closure given (01 section 1.2). -/
def requestNames (driver : Closure) (kind : LockKind) : List Closure :=
  if kind = .unlockDriver then [driver] else if kind = .unlockTailgate then [.tg] else [.fl, .fr, .rl, .rr, .tg]

/-- The new target that a kind of request gives a closure it names (01 section 1.2). -/
def requestTarget (kind : LockKind) (c : Closure) : LockTarget :=
  if kind = .lockAll then .locked
  else if kind = .deadlockAll then (if c = .tg then .locked else .deadlocked)
  else .unlocked

/-- The state with a request taken and actuated: the locks as `lockedBy` has them, and an unlock takes a STEADY pattern
away (R8, R39). -/
def lockTaken (dt : Nat) (r : LockRequest) (s : State) : State :=
  { lockedBy dt r (requestNames (driverClosure s) r.kind) (requestTarget r.kind) s with
    timed := if r.kind = .lockAll ∨ r.kind = .deadlockAll then s.timed else lessSteady s.timed }

/-- The state with a request taken that leaves no closure to be driven, and so completes at once: a lock-type request
lights the STEADY pattern, and an unlock-type one arms drive-away locking again; its source starts no relock timer (R8,
R17, R21, R23, R39). -/
def lockCompleted (dt : Nat) (r : LockRequest) (s : State) : State :=
  let t := lockTaken dt r s
  if r.kind = .lockAll ∨ r.kind = .deadlockAll then
    { t with group := { t.group with inFlight := none }, timed := some ⟨.steady, s.now + dt + 5000⟩ }
  else { t with group := { t.group with inFlight := none, driveAwayArmed := true } }

/-- The request leaves some closure it names to be driven. -/
def Drives (kind : LockKind) (s : State) : Prop :=
  SomeToDrive (requestNames (driverClosure s) kind) (requestTarget kind) s

/-- The search slot `n` is open with `x`, and no other slot has its tag (R113). -/
def OnlySlot (n : Nat) (x : SearchSlot) (s : State) : Prop :=
  s.search.slots[n]? = some (some x) ∧
    ∀ m ∈ List.range s.search.slots.length, m ≠ n → ∀ z, s.search.slots[m]? = some (some z) → z.tag ≠ x.tag

/-! ## Windows -/

/-- A window at rest that a request of `s` would find neither hot nor low on supply nor forced off (R48). -/
structure WindowFree (w : WindowId) (s : State) : Prop where
  idle : (window s w).state = .idle
  noOrigin : (window s w).origin = none
  normalized : (window s w).normalized = true
  cold : (window s w).hot = false
  cool : (window s w).overtemp = false
  notForced : s.cfg.modes.get (windowClosure w) ≠ .forcedOff
  supply : 90 ≤ s.ctx.voltage

/-- A request that waits for its grant: its window, the last in the queue of the requests not from a switch (R49, R59). -/
def waitingFor (now : Nat) (w : WindowId) (requested : Nat) (dir : Direction) (origin : Origin) (s : State) : State :=
  { s with
    windows := s.windows.set w
      { heatRest now (window s w) with
        state := .waiting, direction := dir, requested := requested, origin := some origin, held := false
        normHold := none, lastRefusal := none }
    motion := { s.motion with otherQueue := s.motion.otherQueue ++ [w] } }

/-- A motion, and no reversal, that ended where it was with an outcome: its window is IDLE and owes the motor a STOP
drive, and its slot waits for that drive (R43, R58, R63). -/
def endedRunning (w : WindowId) (outcome : MotionOutcome) (s : State) : State :=
  { s with
    windows := s.windows.set w
      { window s w with
        state := .idle, lastOutcome := some outcome, origin := none, held := false, normHold := none
        runStart := none, reversalTarget := none, stopDue := true }
    motion := { s.motion with
      slots := s.motion.slots.map fun sl => if sl.window = w then ⟨sl.window, true⟩ else sl } }

/-! ## Pass Queues -/

/-- The channel mask names the closure, and its channel takes a copy: its node is not LOST and it is not FORCED_OFF
(R158). -/
abbrev TakesCopy (mask : Nat) (c : Closure) (s : State) : Prop :=
  mask / 2 ^ closureCode c % 2 = 1 ∧ (channel s c).link ≠ .lost ∧ s.cfg.modes.get c ≠ .forcedOff

/-- The Pass Queues with a copy of a frame at the tail of each queue that takes one (R158). -/
def passedTo (mask : Nat) (f : PassFrame) (s : State) : Five (List PassFrame) :=
  s.pass.mapWith fun c q => if TakesCopy mask c s then q ++ [f] else q

/-! ## Global operations -/

/-- A step that is PENDING or ISSUED (07 section 7.2). -/
def openStep (x : OpStep) : Bool := x.status == .pending || x.status == .issued

/-- The steps once the open step of a window has taken a status (R132). -/
def stepsMarked (w : WindowId) (status : StepStatus) (steps : List OpStep) : List OpStep :=
  steps.map fun x => if x.window = w ∧ openStep x = true then { x with status := status } else x

/-- The steps once an abort has cancelled every open one (R134). -/
def stepsCancelled (steps : List OpStep) : List OpStep :=
  steps.map fun x => if openStep x = true then { x with status := .cancelled } else x

/-- The last-operation record of an operation that ends with an outcome, COMPLETE being none (R133). -/
def endedOp (op : ActiveOp) (outcome : Option AbortCause) (steps : List OpStep) : LastOp :=
  { descriptor := op.descriptor, kind := op.kind, source := op.source, outcome := outcome, steps := steps }

/-- The Operation notice on B+2 (R133). -/
def operationNotice (s : State) (last : LastOp) : TxFrame :=
  ⟨.other, s.mgmt.base + 2#11, operationNoticeData last, false⟩

/-- An operation without an abort cause runs, its steps have windows of their own, it counts its open steps, and the one
for `w` is ISSUED: its motion waits or moves from the operation (R129, R131). -/
structure StepOut (w : WindowId) (op : ActiveOp) (s : State) : Prop where
  active : s.op.active = some op
  distinct : (op.steps.map (·.window)).Nodup
  counted : op.remaining = op.steps.countP openStep
  noCause : op.abortCause = none
  noHold : s.group.crashHold = none
  issued : ∃ x ∈ op.steps, x.window = w ∧ x.status = .issued
  out : (window s w).state = .waiting ∨ (window s w).state = .movingAuto
  origin : (window s w).origin = some .operation ∨ (window s w).origin = some .fobOperation

/-- The state with the operation's step for `w` ended with a status other than PINCHED: the operation runs on while a step
is open, and ends COMPLETE with its notice when none is (R129, R132, R133). -/
def stepEndedAs (w : WindowId) (status : StepStatus) (op : ActiveOp) (s : State) : State :=
  let steps := stepsMarked w status op.steps
  if steps.any openStep then
    { s with op := { s.op with active := some { op with steps := steps, remaining := op.remaining - 1 } } }
  else
    { s with
      op := { s.op with active := none, lastOp := some (endedOp op none steps) }
      tx := s.tx ++ [operationNotice s (endedOp op none steps)] }

/-- The requested target of a step: 0 for CLOSED and travel for OPEN (R45, R131 C). -/
def stepTarget (st : StepSpec) (s : State) : Nat :=
  match st.target with
  | .closed => 0
  | .count n => min n (windowCfg s st.window).travel
  | .opened => (windowCfg s st.window).travel

/-- The direction of a step's request: closing at 0 and below P (R47). -/
def stepDirection (st : StepSpec) (s : State) : Direction :=
  if stepTarget st s = 0 ∨ stepTarget st s < (window s st.window).position then .up else .down

/-- Something is left to move for a request: an opening short of the target under the limit, a closing above it, and a
closing to 0 always (R46, R47; under a limit of 0, log entry 62). -/
def LeftToMove (dir : Direction) (effective position : Nat) : Prop :=
  dir = .down ∧ position < effective ∨ dir = .up ∧ (effective = 0 ∨ effective < position)

/-- What the start pass at `now` makes of a step (R131): SKIPPED where the window or the request is refused for one of the
causes of R48, R67 and R68; else ISSUED where something is left to move, and DONE where nothing is. -/
def StepComesTo (now : Nat) (s : State) (st : StepSpec) (status : StepStatus) : Prop :=
  let w := st.window
  let x := window s w
  let moves := LeftToMove (stepDirection st s) (min (stepTarget st s) (currentLimit s w)) x.position
  status = .issued ∧ WindowFree w s ∧ moves ∨ status = .done ∧ WindowFree w s ∧ ¬moves ∨
    status = .skipped ∧
      (x.state = .fault ∨ x.state = .reversing ∨ x.origin = some .ownSwitch ∨ x.origin = some .driverPack ∨
        st.target = .closed ∧ x.normalized = false ∨ s.cfg.modes.get (windowClosure w) = .forcedOff ∨
        (heatRest now x).hot = true ∨ x.overtemp = true ∨
        s.ctx.voltage < 90 ∧ ∃ d ∈ s.ctx.voltageFresh, now ≤ d)

/-! ## Node Drives -/

/-- The motor command that the next drive carries for a window: its direction in a motion or reversal, and STOP with none,
after the end of one, or at a change of direction (R43). -/
def nextMotor (x : Window) : MotorCommand :=
  if (x.state = .movingManual ∨ x.state = .movingAuto ∨ x.state = .reversing) ∧ x.stopDue = false then
    if x.direction = .up then (if x.lastDrive = .down then .stop else .up)
    else if x.lastDrive = .up then .stop
    else .down
  else .stop

/-- The window once a drive with the motor command has been sent: the first STOP after a run is a coast drive, and the
first UP or DOWN after a STOP is a motor start, with its run time, counters, maxima and start position (R43, R71). -/
def drivenWindow (now : Nat) (motor : MotorCommand) (x : Window) : Window :=
  let started : Window := { x with
    runCounter := 0, debounce := 0, zeroCount := 0, maxima := List.replicate 16 none, startPosition := x.position
    runStart := some now }
  { (if motor ≠ .stop ∧ x.lastDrive = .stop then started else x) with
    lastDrive := motor, stopDue := false
    coast :=
      if motor = .stop ∧ x.lastDrive = .up then some .up
      else if motor = .stop ∧ x.lastDrive = .down then some .down
      else none }

/-- The drive that a channel carries next in AWAKE: the prepared commands, the motor command, the lamps and the head of the
Pass Queue (02 section 2.5, R38 to R41, R43, R158, R167). -/
def nextDrive (c : Closure) (s : State) : NodeDrive :=
  let k := closure s c
  let pulse := k.command = .lockPulse ∨ k.command = .unlockPulse ∨ k.command = .deadlockPulse
  let deadlocked := ∀ d ∈ [Closure.fl, .fr, .rl, .rr], (closure s d).sensed = .deadlocked
  let left := child s .rl
  let right := child s .rr
  { lock := k.command
    pulseSteps := if pulse then k.pulseSteps else 0
    child := if c = .rl then left.command else if c = .rr then right.command else none
    release := c == .tg && s.release.prepared
    motor := ((closureWindow c).map fun w => nextMotor (window s w)).getD .stop
    lockLamp := if c = .tg then .off else (s.timed.map (·.pattern)).getD (if deadlocked then .slow else .off)
    childLamp :=
      if c ≠ driverClosure s then .off
      else if left.phase = .fault ∨ right.phase = .fault then .fast
      else if left.target ≠ right.target then .slow
      else if left.target = .engaged then .steady
      else .off
    lockoutLamp := if c = driverClosure s ∧ s.cfg.car.lockout = true then .steady else .off
    payload := (s.pass.get c).head? }

/-- The state with that drive sent at `now` in a FAST cycle of the channel record `ch`: every one-shot command in it counts
as sent, a pulse starts its drive deadline and a release its 300 ms, the payload leaves its queue, and a STOP frees the
slot that waited for it (R12, R24, R32, R43, R58, R158, R165, R167). -/
def driveSent (now : Nat) (ch : Channel) (c : Closure) (s : State) : State :=
  let k := closure s c
  let pulse := k.command = .lockPulse ∨ k.command = .unlockPulse ∨ k.command = .deadlockPulse
  let drive := nextDrive c s
  { s with
    closures := s.closures.set c
      { k with
        command := .idle, pulseSteps := 0
        driveDeadline := if pulse then some (now + 10 * k.pulseSteps + 100) else k.driveDeadline }
    children := s.children.mapWith fun d x => if rearClosure d = c then { x with command := none } else x
    release := if drive.release then ⟨some (now + 300), false⟩ else s.release
    pass := s.pass.set c (s.pass.get c).tail
    windows := s.windows.mapWith fun w x => if windowClosure w = c then drivenWindow now drive.motor x else x
    motion := { s.motion with
      slots := s.motion.slots.filter fun sl =>
        !(windowClosure sl.window == c && sl.ending && drive.motor == .stop) }
    channels := s.channels.set c
      { ch with cycleEnd := some (now + 10), answered := false, drive := some (driveBytes drive) } }

/-! ## Door reports -/

/-- A good report: it can be read, and is the first of a cycle that has not ended (R165). -/
structure ReportDue (dt : Nat) (c : Closure) (record : List Byte) (rep : Report) (s : State) : Prop where
  steady : Steady s
  due : ∃ d ∈ (channel s c).cycleEnd, s.now + dt ≤ d
  first : (channel s c).answered = false
  read : readReport record = some rep

/-- A report that a channel's present cycle takes, compared with the last one: its latch is the one already shown, and no
node fault flag is set (R165, R168, R175). -/
structure ReportComes (dt : Nat) (c : Closure) (record : List Byte) (rep old : Report) (s : State) : Prop extends
    ReportDue dt c record rep s where
  present : (channel s c).link = .present
  compared : (channel s c).comparable = true
  last : (channel s c).lastReport = some old
  latch : (closure s c).latch = if rep.ajar then .ajar else .shut
  flags : rep.overtemp = false ∧ rep.openLoad = false ∧ rep.lowSupply = false

/-- The lock state that a report shows; TG is never DEADLOCKED (R1). -/
def seenLock (c : Closure) (rep : Report) : LockSensed :=
  if c = .tg ∧ rep.lockSensed = .deadlocked then .locked else rep.lockSensed

/-- A report that shows a resting closure's lock as it was known. -/
abbrev LockUnmoved (c : Closure) (rep : Report) (s : State) : Prop :=
  (closure s c).phase = .idle ∧ (closure s c).sensed = seenLock c rep ∧ (closure s c).senseWaits = false

/-- A report that shows a rear door's resting child lock as it was known, at its target or UNKNOWN (R33). -/
def ChildUnmoved (c : Closure) (rep : Report) (s : State) : Prop :=
  ∀ d, rearClosure d = c →
    (child s d).phase = .idle ∧ (child s d).sensed = rep.childSensed ∧
      (rep.childSensed = .unknown ∨ (rep.childSensed = .engaged ↔ (child s d).target = .engaged))

/-- The motor of the closure's window stands, and no coast is to be counted (R43). -/
def MotorRests (c : Closure) (s : State) : Prop :=
  ∀ w, windowClosure w = c → (window s w).lastDrive = .stop ∧ (window s w).coast = none

/-- A report with no handle event and no uplink (R172). -/
abbrev Untouched (rep : Report) : Prop :=
  rep.touchUnlock = false ∧ rep.touchLock = false ∧ rep.releaseButton = false ∧ rep.uplink = none

/-- The switch and button levels of a report, which give its edges (R170, R171). -/
def levels (rep : Report) : Switch × Four Switch × LockSwitch × Bool × Bool × LockSwitch :=
  (rep.ownSwitch, rep.pack, rep.central, rep.childButton, rep.lockoutButton, rep.keyCylinder)

/-- A node fault flag is set that the report compared with does not show; an edge-free report compares with none (R175). -/
def ShowsFault (rep : Report) (old : Option Report) : Prop :=
  let clear (flag : Report → Bool) : Prop := ∀ o ∈ old, flag o = false
  rep.overtemp = true ∧ clear (·.overtemp) ∨ rep.openLoad = true ∧ clear (·.openLoad) ∨
    rep.lowSupply = true ∧ clear (·.lowSupply)

/-- A report in which neither the lock nor the child lock moved, of a channel whose lock group has nothing to do. -/
structure LocksRest (dt : Nat) (c : Closure) (record : List Byte) (rep old : Report) (s : State) : Prop extends
    ReportComes dt c record rep old s where
  lock : LockUnmoved c rep s
  child : ChildUnmoved c rep s
  noFlight : s.group.inFlight = none
  noSlot : s.group.slot = none

/-- The state with a report taken `dt` ms later on a channel at rest: it is counted and kept, its channel has reported,
and its window has cooled; own-switch suppressed is clear where the report shows the own switch at NONE (R54, R64 B,
R165, R168, R169). -/
def reportTaken (dt : Nat) (c : Closure) (rep : Report) (s : State) : State :=
  { s with
    now := s.now + dt
    channels := s.channels.set c
      { channel s c with
        answered := true, missing := 0, goodCount := min 65535 ((channel s c).goodCount + 1)
        firstSense := (channel s c).firstSense <|> some (rep.lockSensed, rep.childSensed), lastReport := some rep
        comparable := true, link := .present, reported := true }
    windows := s.windows.mapWith fun w x =>
      if windowClosure w = c then
        { heatDecay (s.now + dt) x with
          overtemp := false, suppressed := if rep.ownSwitch = .none then false else x.suppressed }
      else x }

/-- The child lock once it is actuated toward a target on a channel that reports: IDLE where it is sensed there, and
otherwise DRIVING with its command (R31 B and C). -/
def childAimed (target : ChildTarget) (k : ChildLock) : ChildLock :=
  let there : Bool :=
    match k.sensed, target with
    | .engaged, .engaged => true
    | .disengaged, .disengaged => true
    | _, _ => false
  { k with
    target := target, retried := false, settleDeadline := none
    phase := if there then .idle else .driving
    command := if there then none else some (if target = .engaged then .engage else .disengage) }

/-- The rear window inhibit does not reach the window (R36). -/
def Uninhibited (w : WindowId) (s : State) : Prop :=
  ∀ d, rearWindow d = w →
    s.cfg.car.lockout = false ∧ (s.cfg.car.inhibitLinked = false ∨ (child s d).target = .disengaged)

/-- A window at rest and free, which a press on its own switch moves (R36, R48, R52, R54). -/
structure PressFree (w : WindowId) (s : State) : Prop extends WindowFree w s where
  unsuppressed : (window s w).suppressed = false
  uninhibited : Uninhibited w s

/-- The state with a switch press on a free window taken: its entry waits at the tail of the switch class, held for the
levels UP and DOWN (R45, R47, R49, R52, R59). -/
def pressWaits (w : WindowId) (origin : Origin) (level : Switch) (s : State) : State :=
  let closing := level = .up ∨ level = .upAuto
  { s with
    windows := s.windows.set w
      { heatRest s.now (window s w) with
        state := .waiting, direction := if closing then .up else .down
        requested := if closing then 0 else (windowCfg s w).travel, origin := some origin
        held := level == .up || level == .down, normHold := none, lastRefusal := none }
    motion := { s.motion with switchQueue := s.motion.switchQueue ++ [w] } }

/-! ## Management rows -/

/-- The command code of a management row (12 section 12.2). UNKNOWN_REQUEST has the code its frame carries, and is none
of these. -/
def managementCode : Instr → Option Nat
  | .select .. => some 0x01
  | .read _ => some 0x02
  | .write .. => some 0x03
  | .writeTravel .. => some 0x03
  | .writeOpenLimit .. => some 0x03
  | .writeChildOpenLimit .. => some 0x03
  | .writeWindowLockout .. => some 0x03
  | .writeParameters .. => some 0x03
  | .writeChannelPowerMode .. => some 0x03
  | .writeParkDelay .. => some 0x03
  | .writeDeepDelay .. => some 0x03
  | .writeProfiles .. => some 0x03
  | .writeFobs .. => some 0x03
  | .writePassiveSettings .. => some 0x03
  | .writeOperations .. => some 0x03
  | .writeRules .. => some 0x03
  | .writeWakeLines .. => some 0x03
  | .writeManagement .. => some 0x03
  | .mask .. => some 0x04
  | .release .. => some 0x05
  | .discard .. => some 0x06
  | .lockAll _ => some 0x07
  | .unlockAll _ => some 0x07
  | .unlockDriver _ => some 0x07
  | .deadlockAll _ => some 0x07
  | .unlockTailgate _ => some 0x07
  | .releaseTailgate _ => some 0x07
  | .crashUnlock _ => some 0x07
  | .crashClear _ => some 0x07
  | .childSet .. => some 0x07
  | .clearNormalized .. => some 0x07
  | .windowMove .. => some 0x07
  | .windowStop .. => some 0x07
  | .operationStart .. => some 0x07
  | .operationCancel _ => some 0x07
  | .clearWake .. => some 0x08
  | .faults _ => some 0x09
  | .clearFaults _ => some 0x0A
  | .save _ => some 0x0B
  | .protect .. => some 0x0C
  | .restart _ => some 0x0D
  | .status _ => some 0x0E
  | _ => none

/-- A row of the table that asks for a non-crash lock actuation, with its kind (01 section 1.2). -/
def lockRows (dt : Nat) : List (Instr × LockKind) :=
  [(.lockAll dt, .lockAll), (.unlockAll dt, .unlockAll), (.unlockDriver dt, .unlockDriver),
   (.deadlockAll dt, .deadlockAll), (.unlockTailgate dt, .unlockTailgate)]

/-! ## Answers -/

/-- A command answers a next state that agrees with `t` but for the activity that the close of a step may note (R188). -/
def Answers (i : Instr) (s t : State) : Prop := ∃ u, exec i s = .next u ∧ AgreeButActivity u t

/-- The same for a command that is an activity event: the last activity is the time of the command, and the idle
deadline follows from it (R187). -/
def AnswersActive (i : Instr) (s t : State) : Prop :=
  ∃ u, exec i s = .next u ∧ AgreeButActivity u t ∧ u.ctx.lastActivity = u.now ∧ u.ctx.idleDeadline = idleDeadlineOf u

end Sys2Proof.Machine
end

