-- ==== Sys2Proof/WellFormed.lean ====
section
/-!
DEFINITION. When a command's operands are inside what its row's rule admits: a frame has at most 8 data bytes, a report
is as long as its layout allows, and each code of a request is one that its format names. `exec` gives a meaning to
every command; the ones that are not well-formed are answered RANGE, read as UNKNOWN, passed over in their unused bits
or discarded, as the rules say (R201, R217; log entry 25).
-/

namespace Sys2Proof

/-- The least length of a request frame by its command code (12 section 12.2). -/
def requestLength (code : Nat) : Option Nat :=
  match code with
  | 0x01 => some 4
  | 0x02 => some 1
  | 0x03 => some 5
  | 0x04 => some 5
  | 0x05 => some 2
  | 0x06 => some 2
  | 0x07 => some 5
  | 0x08 => some 2
  | 0x09 => some 1
  | 0x0A => some 1
  | 0x0B => some 1
  | 0x0C => some 4
  | 0x0D => some 1
  | 0x0E => some 1
  | _ => none

/-- A frame that R217 A answers UNKNOWN: empty, of no command code, or shorter than its command. -/
def unreadableRequest (data : List Byte) : Bool :=
  match data with
  | [] => true
  | b :: _ =>
    match requestLength b.toNat with
    | some n => data.length < n
    | none => true

/-- The longest Node Report: 9 bytes, 8 bytes of uplink and the check byte (12 section 12.6). -/
def reportMax : Nat := 18

/-- The most data bytes of a CAN frame (08 section 8.1). -/
def frameMax : Nat := 8

/-- The operands are inside what the row's rule admits. -/
def Instr.wellFormed (i : Instr) : Bool :=
  match i with
  | .powerOn _ _ _ _ => true
  | .loadComplete _ => true
  | .listenEnd _ => true
  | .bodyFrameReceived _ _ data => data.length ≤ frameMax
  | .select _ table _ _ => table.toNat < 16
  | .read _ => true
  | .write _ _ => true
  | .writeTravel _ _ => true
  | .writeOpenLimit _ _ => true
  | .writeChildOpenLimit _ _ => true
  | .writeWindowLockout _ _ => true
  | .writeParameters _ _ => true
  | .writeChannelPowerMode _ _ => true
  | .writeParkDelay _ _ => true
  | .writeDeepDelay _ _ => true
  | .writeProfiles _ _ => true
  | .writeFobs _ _ => true
  | .writePassiveSettings _ _ => true
  | .writeOperations _ _ => true
  | .writeRules _ _ => true
  | .writeWakeLines _ _ => true
  | .writeManagement _ _ => true
  | .mask _ _ => true
  | .release _ _ => true
  | .discard _ _ => true
  | .lockAll _ => true
  | .unlockAll _ => true
  | .unlockDriver _ => true
  | .deadlockAll _ => true
  | .unlockTailgate _ => true
  | .releaseTailgate _ => true
  | .crashUnlock _ => true
  | .crashClear _ => true
  | .childSet _ closure childState => (closure.toNat == 2 || closure.toNat == 3) && childState.toNat ≤ 1
  | .clearNormalized _ window => window.toNat ≤ 3 || window.toNat == 0xFF
  | .windowMove _ window count => window.toNat ≤ 3 && count.toNat ≤ 8000
  | .windowStop _ window => window.toNat ≤ 3
  | .operationStart _ descriptor => descriptor.toNat ≤ 3
  | .operationCancel _ => true
  | .clearWake _ lines => lines.toNat < 64
  | .faults _ => true
  | .clearFaults _ => true
  | .save _ => true
  | .protect _ readFlags writeFlags lockByte =>
    readFlags.toNat < 16 && writeFlags.toNat < 16 && lockByte.toNat ≤ 1
  | .restart _ => true
  | .status _ => true
  | .unknownRequest _ data => data.length ≤ frameMax && unreadableRequest data
  | .nodeReport _ _ record => record.length ≤ reportMax
  | .linkCycleEnd _ _ => true
  | .motionGrant _ => true
  | .pendingRequestTaken _ => true
  | .driveDeadline _ _ => true
  | .settleDeadline _ _ => true
  | .childSettleDeadline _ _ => true
  | .refillDeadline _ => true
  | .relockDeadline _ => true
  | .releaseDeadline _ => true
  | .driverFirstWindowExpiry _ => true
  | .doubleLockWindowExpiry _ => true
  | .timedPatternDeadline _ => true
  | .retainedDeadline _ => true
  | .normalizationHoldDeadline _ _ => true
  | .runTimeLimit _ _ => true
  | .candidateDeadline _ _ => true
  | .holdDeadline _ => true
  | .leaseDeadline _ => true
  | .searchDeadline _ _ => true
  | .trapExpiry _ _ => true
  | .speedFreshnessDeadline _ => true
  | .voltageFreshnessDeadline _ => true
  | .statusPeriod _ => true
  | .idleDeadline _ => true
  | .parkSave _ => true
  | .deepDeadline _ => true
  | .ignitionTransition _ _ => true
  | .wakeLineDetection _ _ => true
  | .busOff _ => true
  | .portActiveReturn _ => true
  | .beginTransmission _ => true
  | .frameAcknowledged _ => true
  | .transmissionFailed _ => true
  | .saveComplete _ _ => true
  | .powerLoss _ _ => true
  | .wakeLineLevelChange _ _ _ => true

/-- The time in ms that passes before the command (log entry 1). -/
def Instr.elapsed (i : Instr) : Nat :=
  match i with
  | .powerOn dt _ _ _ => dt
  | .loadComplete dt => dt
  | .listenEnd dt => dt
  | .bodyFrameReceived dt _ _ => dt
  | .select dt _ _ _ => dt
  | .read dt => dt
  | .write dt _ => dt
  | .writeTravel dt _ => dt
  | .writeOpenLimit dt _ => dt
  | .writeChildOpenLimit dt _ => dt
  | .writeWindowLockout dt _ => dt
  | .writeParameters dt _ => dt
  | .writeChannelPowerMode dt _ => dt
  | .writeParkDelay dt _ => dt
  | .writeDeepDelay dt _ => dt
  | .writeProfiles dt _ => dt
  | .writeFobs dt _ => dt
  | .writePassiveSettings dt _ => dt
  | .writeOperations dt _ => dt
  | .writeRules dt _ => dt
  | .writeWakeLines dt _ => dt
  | .writeManagement dt _ => dt
  | .mask dt _ => dt
  | .release dt _ => dt
  | .discard dt _ => dt
  | .lockAll dt => dt
  | .unlockAll dt => dt
  | .unlockDriver dt => dt
  | .deadlockAll dt => dt
  | .unlockTailgate dt => dt
  | .releaseTailgate dt => dt
  | .crashUnlock dt => dt
  | .crashClear dt => dt
  | .childSet dt _ _ => dt
  | .clearNormalized dt _ => dt
  | .windowMove dt _ _ => dt
  | .windowStop dt _ => dt
  | .operationStart dt _ => dt
  | .operationCancel dt => dt
  | .clearWake dt _ => dt
  | .faults dt => dt
  | .clearFaults dt => dt
  | .save dt => dt
  | .protect dt _ _ _ => dt
  | .restart dt => dt
  | .status dt => dt
  | .unknownRequest dt _ => dt
  | .nodeReport dt _ _ => dt
  | .linkCycleEnd dt _ => dt
  | .motionGrant dt => dt
  | .pendingRequestTaken dt => dt
  | .driveDeadline dt _ => dt
  | .settleDeadline dt _ => dt
  | .childSettleDeadline dt _ => dt
  | .refillDeadline dt => dt
  | .relockDeadline dt => dt
  | .releaseDeadline dt => dt
  | .driverFirstWindowExpiry dt => dt
  | .doubleLockWindowExpiry dt => dt
  | .timedPatternDeadline dt => dt
  | .retainedDeadline dt => dt
  | .normalizationHoldDeadline dt _ => dt
  | .runTimeLimit dt _ => dt
  | .candidateDeadline dt _ => dt
  | .holdDeadline dt => dt
  | .leaseDeadline dt => dt
  | .searchDeadline dt _ => dt
  | .trapExpiry dt _ => dt
  | .speedFreshnessDeadline dt => dt
  | .voltageFreshnessDeadline dt => dt
  | .statusPeriod dt => dt
  | .idleDeadline dt => dt
  | .parkSave dt => dt
  | .deepDeadline dt => dt
  | .ignitionTransition dt _ => dt
  | .wakeLineDetection dt _ => dt
  | .busOff dt => dt
  | .portActiveReturn dt => dt
  | .beginTransmission dt => dt
  | .frameAcknowledged dt => dt
  | .transmissionFailed dt => dt
  | .saveComplete dt _ => dt
  | .powerLoss dt _ => dt
  | .wakeLineLevelChange dt _ _ => dt

/-- The same command with no time before it. -/
def Instr.soon (i : Instr) : Instr :=
  match i with
  | .powerOn _ strap0 strap1 strap2 => .powerOn 0 strap0 strap1 strap2
  | .loadComplete _ => .loadComplete 0
  | .listenEnd _ => .listenEnd 0
  | .bodyFrameReceived _ id data => .bodyFrameReceived 0 id data
  | .select _ table index word => .select 0 table index word
  | .read _ => .read 0
  | .write _ value => .write 0 value
  | .writeTravel _ value => .writeTravel 0 value
  | .writeOpenLimit _ value => .writeOpenLimit 0 value
  | .writeChildOpenLimit _ value => .writeChildOpenLimit 0 value
  | .writeWindowLockout _ value => .writeWindowLockout 0 value
  | .writeParameters _ value => .writeParameters 0 value
  | .writeChannelPowerMode _ value => .writeChannelPowerMode 0 value
  | .writeParkDelay _ value => .writeParkDelay 0 value
  | .writeDeepDelay _ value => .writeDeepDelay 0 value
  | .writeProfiles _ value => .writeProfiles 0 value
  | .writeFobs _ value => .writeFobs 0 value
  | .writePassiveSettings _ value => .writePassiveSettings 0 value
  | .writeOperations _ value => .writeOperations 0 value
  | .writeRules _ value => .writeRules 0 value
  | .writeWakeLines _ value => .writeWakeLines 0 value
  | .writeManagement _ value => .writeManagement 0 value
  | .mask _ bits => .mask 0 bits
  | .release _ ticket => .release 0 ticket
  | .discard _ ticket => .discard 0 ticket
  | .lockAll _ => .lockAll 0
  | .unlockAll _ => .unlockAll 0
  | .unlockDriver _ => .unlockDriver 0
  | .deadlockAll _ => .deadlockAll 0
  | .unlockTailgate _ => .unlockTailgate 0
  | .releaseTailgate _ => .releaseTailgate 0
  | .crashUnlock _ => .crashUnlock 0
  | .crashClear _ => .crashClear 0
  | .childSet _ closure childState => .childSet 0 closure childState
  | .clearNormalized _ window => .clearNormalized 0 window
  | .windowMove _ window count => .windowMove 0 window count
  | .windowStop _ window => .windowStop 0 window
  | .operationStart _ descriptor => .operationStart 0 descriptor
  | .operationCancel _ => .operationCancel 0
  | .clearWake _ lines => .clearWake 0 lines
  | .faults _ => .faults 0
  | .clearFaults _ => .clearFaults 0
  | .save _ => .save 0
  | .protect _ readFlags writeFlags lockByte => .protect 0 readFlags writeFlags lockByte
  | .restart _ => .restart 0
  | .status _ => .status 0
  | .unknownRequest _ data => .unknownRequest 0 data
  | .nodeReport _ channel record => .nodeReport 0 channel record
  | .linkCycleEnd _ channel => .linkCycleEnd 0 channel
  | .motionGrant _ => .motionGrant 0
  | .pendingRequestTaken _ => .pendingRequestTaken 0
  | .driveDeadline _ closure => .driveDeadline 0 closure
  | .settleDeadline _ closure => .settleDeadline 0 closure
  | .childSettleDeadline _ door => .childSettleDeadline 0 door
  | .refillDeadline _ => .refillDeadline 0
  | .relockDeadline _ => .relockDeadline 0
  | .releaseDeadline _ => .releaseDeadline 0
  | .driverFirstWindowExpiry _ => .driverFirstWindowExpiry 0
  | .doubleLockWindowExpiry _ => .doubleLockWindowExpiry 0
  | .timedPatternDeadline _ => .timedPatternDeadline 0
  | .retainedDeadline _ => .retainedDeadline 0
  | .normalizationHoldDeadline _ window => .normalizationHoldDeadline 0 window
  | .runTimeLimit _ window => .runTimeLimit 0 window
  | .candidateDeadline _ fob => .candidateDeadline 0 fob
  | .holdDeadline _ => .holdDeadline 0
  | .leaseDeadline _ => .leaseDeadline 0
  | .searchDeadline _ slot => .searchDeadline 0 slot
  | .trapExpiry _ ticket => .trapExpiry 0 ticket
  | .speedFreshnessDeadline _ => .speedFreshnessDeadline 0
  | .voltageFreshnessDeadline _ => .voltageFreshnessDeadline 0
  | .statusPeriod _ => .statusPeriod 0
  | .idleDeadline _ => .idleDeadline 0
  | .parkSave _ => .parkSave 0
  | .deepDeadline _ => .deepDeadline 0
  | .ignitionTransition _ level => .ignitionTransition 0 level
  | .wakeLineDetection _ line => .wakeLineDetection 0 line
  | .busOff _ => .busOff 0
  | .portActiveReturn _ => .portActiveReturn 0
  | .beginTransmission _ => .beginTransmission 0
  | .frameAcknowledged _ => .frameAcknowledged 0
  | .transmissionFailed _ => .transmissionFailed 0
  | .saveComplete _ verified => .saveComplete 0 verified
  | .powerLoss _ extent => .powerLoss 0 extent
  | .wakeLineLevelChange _ line level => .wakeLineLevelChange 0 line level

end Sys2Proof
end

