-- ==== Sys2Proof/Certificates/Slice0/Obligations.lean ====
section
/-!
DEFINITION. The statements about the block, from the numbered rules of spec/. `OBLIGATIONS.json` lists them.
-/

open Sys2Proof Sys2Proof.Machine

/-! ## The machine as a whole -/

/-- A step takes the front command and does what it means with the queue's rest. On an empty queue a millisecond
passes, and the part's own steps that are then due join the queue (the model's choice, log entry 3). -/
def Obligations.StepTakesTheFrontCommand : Prop :=
  ∀ (s : State) (i : Instr) (rest : List Instr),
    step { s with pending := i :: rest } = exec i { s with pending := rest } ∧
    step { s with pending := [] } =
      .next { s with now := s.now + 1, pending := dueSteps { s with now := s.now + 1, pending := [] } }

/-- Every command answers a next state, whatever the state: no fault and no refusal. It leaves the waiting commands
as they are, and the clock never goes back. -/
def Obligations.EveryCommandAnswersAndKeepsTheQueue : Prop :=
  ∀ (i : Instr) (s : State), ∃ t, exec i s = .next t ∧ t.pending = s.pending ∧ s.now ≤ t.now

/-- Without a supply every command but POWER_ON only lets time pass (the model's reading, log entry 30). -/
def Obligations.WithoutSupplyOnlyTimePasses : Prop :=
  ∀ (i : Instr) (s : State), s.stage = .off → (∀ dt a b c, i ≠ .powerOn dt a b c) →
    exec i s = .next { s with now := s.now + i.elapsed }

/-- The state after reset is within every limit and holds no operation. -/
def Obligations.ResetIsSound : Prop :=
  Bounded State.reset ∧ OperationsSound State.reset ∧ State.reset.op.active = none

/-- No step leads out of the limits: at most 12 tokens, 16 queued frames, 4 held frames, 2 frames for each door and
2 motor slots, and no window position beyond its travel (R5, R44, R58, R154, R158, R160). -/
def Obligations.StepKeepsBounds : Prop :=
  ∀ s t : State, Bounded s → step s = .next t → Bounded t

/-- No step leaves an operation present while crash hold is set, or a remaining count that is not the number of
steps that have not ended (R129, R137). -/
def Obligations.StepKeepsOperationsSound : Prop :=
  ∀ s t : State, OperationsSound s → step s = .next t → OperationsSound t

/-- A set lock cell is never changed, every LOAD takes the working protection record from it whatever the image
holds, and a save that begins later carries its record. An empty cell is set only by a save that completes with a
good verify and whose snapshot held the lock flag, and takes that snapshot's record; without it a LOAD takes the
image's record, and the working lock flag bars no PROTECT (R204). -/
def Obligations.LockCellIsForGood : Prop :=
  ∀ s t : State, step s = .next t →
    let loads : Prop :=
      s.stage ≠ .load ∧ t.stage = .load ∨ ∃ dt a b c rest, s.pending = .powerOn dt a b c :: rest
    (∀ p, s.store.lockCell = some p →
      t.store.lockCell = some p ∧ (loads → t.cfg.protection = p) ∧
      (∀ image, s.store.snapshot = none → t.store.snapshot = some image → image.protection = p)) ∧
    (s.store.lockCell = none →
      (∀ p, t.store.lockCell = some p →
        ∃ image, s.store.snapshot = some image ∧ image.protection.lock = true ∧ p = image.protection ∧
          t.store.image = .good image) ∧
      (∀ dt rest image, s.pending = .saveComplete dt true :: rest → s.stage ≠ .off →
        s.store.snapshot = some image → image.protection.lock = true →
        t.store.lockCell = some image.protection) ∧
      (∀ image, loads → s.store.image = .good image → t.cfg.protection = image.protection) ∧
      (∀ dt r w l rest, s.pending = .protect dt r w l :: rest → Alert s →
        t.cfg.protection.lock = l.getLsbD 0))

/-! ## Management requests -/

/-- SELECT moves the cursor to a place that exists and is answered OK; any other place is answered RANGE and leaves
the cursor. MASK puts its mask in place, whatever was there, and is answered OK (R198, R200). -/
def Obligations.SelectAndMaskPrepareTheNextWord : Prop :=
  ∀ (s : State) (dt : Nat), Alert s → s.tx.length < 16 →
    (∀ table index word : Byte,
      AnswersActive (.select dt table index word) s
        (match tableShape table.toNat with
        | some (entries, words) =>
          if index.toNat < entries ∧ word.toNat < words then
            replied dt 0x01 .ok []
              { s with mgmt := { s.mgmt with cursor := ⟨table.toNat, index.toNat, word.toNat⟩ } }
          else replied dt 0x01 .range [] s
        | none => replied dt 0x01 .range [] s)) ∧
    (∀ bits : Word,
      AnswersActive (.mask dt bits) s
        { s with
          now := s.now + dt, mgmt := { s.mgmt with mask := some bits }
          tx := s.tx ++ [responseFrame s 0x04 .ok []] })

/-- READ shows the word at the cursor as it stands when the READ is taken, and the cursor goes on to the next word;
at the last word of the last entry it stays and the END flag is 1; a read-protected region is answered PROTECTED
(R198, R203). -/
def Obligations.ReadShowsTheWordAndAdvances : Prop :=
  ∀ (s : State) (dt entries words : Nat), Alert s → s.tx.length < 16 →
    tableShape s.mgmt.cursor.table = some (entries, words) →
    AnswersActive (.read dt) s
      (let c := s.mgmt.cursor
       let shown := leBytes 4 (readWord { s with now := s.now + dt, mgmt := { s.mgmt with mask := none } } c).toNat
       let onward (next : Cursor) := { s with mgmt := { s.mgmt with cursor := next } }
       if regionFlag s.cfg.protection.readFlags c.table then replied dt 0x02 .protected_ [] s
       else if c.word + 1 < words then replied dt 0x02 .ok (0 :: shown) (onward ⟨c.table, c.index, c.word + 1⟩)
       else if c.index + 1 < entries then replied dt 0x02 .ok (0 :: shown) (onward ⟨c.table, c.index + 1, 0⟩)
       else replied dt 0x02 .ok (1 :: shown) s)

/-- STATUS shows the state, the stage, the ignition, the port, the pending lines, the tokens, crash hold, the save state
and the four flags of the store and the fault table, byte by byte as 12 section 12.2 lays them out; FAULTS shows the
classes counted and the classes with attention. In AWAKE they change nothing but the one-shot mask and the transmit
queue. In PARKED and DEEP STATUS shows the state as it stood before the request's own wake, and every request that
acts on nothing but the management records wakes the part with cause MANAGEMENT: the channels go FAST, none has
reported, and the status period starts (R192, R193, R197, R202). -/
def Obligations.StatusAndFaultsShow : Prop :=
  ∀ (s : State) (dt : Nat), s.tx.length < 16 →
    let bit (b : Bool) (n : Nat) : Nat := if b then 2 ^ n else 0
    let shown (state : Nat) : List Byte :=
      [BitVec.ofNat 8 (state + 16 + bit (s.ctx.ignition == .run) 5 + bit (s.port != .active) 6),
       BitVec.ofNat 8
        (bit s.lines.ign.pending 0 + bit s.lines.doors.fl.pending 1 + bit s.lines.doors.fr.pending 2
          + bit s.lines.doors.rl.pending 3 + bit s.lines.doors.rr.pending 4 + bit s.lines.doors.tg.pending 5),
       BitVec.ofNat 8
        (s.group.tokens + bit s.group.crashHold.isSome 4 + bit s.store.snapshot.isSome 5 + bit s.store.parkKept 6),
       BitVec.ofNat 8
        ((match s.store.lastResult with | none => 0 | some true => 1 | some false => 2)
          + bit (s.faults.any fun r => r.attention) 2 + bit s.store.blankAtLoad 3 + bit s.store.lockCell.isSome 4)]
    let classes (f : FaultRecord → Bool) : List Byte :=
      leBytes 2 ((List.range 14).map fun k => bit (f (s.faults.getD k ⟨0, none, false⟩)) k).sum
    let faultSets := 0 :: classes (fun r => 0 < r.count) ++ classes (fun r => r.attention)
    (Alert s → s.group.tokens < 16 →
      AnswersActive (.status dt) s (replied dt 0x0E .ok (shown 1) s) ∧
      (s.faults.length = 14 → AnswersActive (.faults dt) s (replied dt 0x09 .ok faultSets s))) ∧
    (Asleep s → s.group.tokens < 16 → s.tx = [] →
      ∃ u, exec (.status dt) s = .next u ∧ u.ctx.state = .awake ∧
        u.tx.head? =
          some (responseFrame s 0x0E .ok (shown (if s.ctx.state = .parked then 2 else 3)))) ∧
    (Asleep s → ∀ i,
      (i ∈ [Instr.read dt, .faults dt, .status dt, .clearFaults dt, .save dt, .crashClear dt] ∨
        (∃ a b c, i = .select dt a b c ∨ i = .protect dt a b c) ∨ (∃ v, i = .mask dt v) ∨
        (∃ a, i = .discard dt a)) →
      ∃ u, exec i s = .next u ∧ u.ctx.state = .awake ∧ u.ctx.lastWake = some .management ∧
        u.ctx.lastActivity = s.now + dt ∧ u.ctx.deepDeadline = none ∧ u.nextStatus = some (s.now + dt + 100) ∧
        u.group.tokens = s.group.tokens ∧
        ∀ c, (channel u c).reported = false ∧ (s.cfg.modes.get c ≠ .forcedOff → (channel u c).rate = .fast))

/-- CLEAR_FAULTS sets every fault count to 0, every last closure to NONE and every attention flag clear, and clears
the unknown-fob, refused, no-slot, link lifetime and wake counts; it leaves every other record, the hit counts, the
no-match count, the report settings and the queued notices among them (R206). -/
def Obligations.ClearFaultsClearsTheCounts : Prop :=
  ∀ (s : State) (dt : Nat), Alert s → s.tx.length < 16 →
    AnswersActive (.clearFaults dt) s
      (replied dt 0x0A .ok []
        { s with
          faults := s.faults.map fun _ => ⟨0, none, false⟩
          key := { s.key with unknownCount := 0, refusedCount := 0 }
          search := { s.search with noSlot := 0 }
          channels := s.channels.mapWith fun _ ch => { ch with goodCount := 0, missingCount := 0, lossCount := 0 }
          ctx := { s.ctx with wakeCount := 0 } })

/-- PROTECT replaces the working protection record by the one carried, and is answered PROTECTED with no change
once the lock cell is set (R203). -/
def Obligations.ProtectReplacesTheRecord : Prop :=
  ∀ (s : State) (dt : Nat) (r w l : Byte), Alert s → s.tx.length < 16 →
    AnswersActive (.protect dt r w l) s
      (if s.store.lockCell.isSome then replied dt 0x0C .protected_ [] s
      else
        replied dt 0x0C .ok []
          { s with
            cfg := { s.cfg with
              protection :=
                ⟨⟨r.getLsbD 0, r.getLsbD 1, r.getLsbD 2, r.getLsbD 3⟩,
                 ⟨w.getLsbD 0, w.getLsbD 1, w.getLsbD 2, w.getLsbD 3⟩, l.getLsbD 0⟩ } })

/-- A frame on the request identifier that is empty, names no command or is shorter than its command is answered
UNKNOWN and changes nothing else (R197, R217 A). -/
def Obligations.UnreadableRequestIsAnsweredUnknown : Prop :=
  ∀ (s : State) (dt : Nat) (data : List Byte), Alert s → s.tx.length < 16 → data.length ≤ 8 →
    unreadableRequest data = true →
    AnswersActive (.unknownRequest dt data) s (replied dt (data.headD 0).toNat .unknown [] s)

/-- Before RUN every management row but STATUS is answered STARTING with its own command code and does nothing more than
use the one-shot mask up; CRASH_CLEAR too, against R20 (the model's choice, log entry 49), and CRASH_UNLOCK, against R19
(the model's reading, log entry 85). A frame that names no request is answered STARTING too, and not UNKNOWN (the
model's reading, log entry 24). STATUS is served (R197, R211). -/
def Obligations.RequestsBeforeRunAreAnsweredStarting : Prop :=
  ∀ (s : State), (s.stage = .listen ∨ s.stage = .poll ∨ s.stage = .sense) → s.tx.length < 16 →
    (∀ (i : Instr) (code : Nat), managementCode i = some code → code ≠ 0x0E →
      exec i s = .next (replied i.elapsed code .starting [] s)) ∧
    (∀ dt, exec (.status dt) s = .next (replied dt 0x0E .ok (statusRecord s) s)) ∧
    (∀ dt data, data.length ≤ 8 → unreadableRequest data = true →
      exec (.unknownRequest dt data) s = .next (replied dt (data.headD 0).toNat .starting [] s))

/-! ## Writes to the tables -/

/-- A WRITE of a window's Travel, with its Open Limit and T_base: BUSY while the window waits or moves, judged before
RANGE and only where Travel changes (the model's choice, log entry 31), and RANGE outside the limits; an accepted
change puts P at the new travel, clears normalized, and lowers the Open Limit and the requested target to it (R44). -/
def Obligations.TravelWriteResetsThePosition : Prop :=
  ∀ (s : State) (dt : Nat) (w : WindowId) (v : Word), WriteReady 1 (windowCode w + 1) 0 s →
    let travel := bitsOf v.toNat 0 13
    let tBase := bitsOf v.toNat 26 6
    let x := window s w
    let old := windowCfg s w
    travel ≠ old.travel →
    (x.state = .waiting ∨ x.state = .movingManual ∨ x.state = .movingAuto ∨ x.state = .reversing →
      AnswersActive (.writeTravel dt v) s (replied dt 0x03 .busy [] s)) ∧
    (x.state = .idle ∨ x.state = .fault →
      AnswersActive (.writeTravel dt v) s
        (if 1000 ≤ travel ∧ travel ≤ 8000 ∧ 5 ≤ tBase ∧ tBase ≤ 60 then
          written dt ⟨1, windowCode w + 1, 1⟩
            { s with
              cfg := { s.cfg with
                windows := s.cfg.windows.set w
                  { old with travel := travel, openLimit := min (bitsOf v.toNat 13 13) travel, tBase := tBase } }
              windows := s.windows.set w
                { x with
                  position := travel, normalized := false, clearPending := false
                  requested := min x.requested travel } }
        else replied dt 0x03 .range [] s))

/-- A WRITE of a window's Open Limit is clamped to travel and answered OK. A window at rest stays where it is; an
opening motion that has the new effective target behind it ends there with REACHED, and its slot waits for the STOP
drive (R45, R46, R58). -/
def Obligations.OpenLimitWriteClampsAndEndsTheMotion : Prop :=
  ∀ (s : State) (dt : Nat) (w : WindowId) (v : Word), WriteReady 1 (windowCode w + 1) 0 s →
    let x := window s w
    let old := windowCfg s w
    let limit := min (bitsOf v.toNat 13 13) old.travel
    let changed : State :=
      { s with
        cfg := { s.cfg with
          windows := s.cfg.windows.set w { old with openLimit := limit, tBase := bitsOf v.toNat 26 6 } } }
    bitsOf v.toNat 0 13 = old.travel → 1000 ≤ old.travel → old.travel ≤ 8000 →
    5 ≤ bitsOf v.toNat 26 6 → bitsOf v.toNat 26 6 ≤ 60 →
    (x.state = .idle ∨ x.state = .fault ∨ x.state = .waiting ∨ x.state = .reversing →
      AnswersActive (.writeOpenLimit dt v) s (written dt ⟨1, windowCode w + 1, 1⟩ changed)) ∧
    (x.state = .movingManual ∨ x.state = .movingAuto → x.direction = .down → x.origin = some .body →
      x.clearPending = false → currentLimit changed w ≠ currentLimit s w →
      min x.requested (currentLimit changed w) ≤ x.position →
      s.cfg.modes.get (windowClosure w) ≠ .forcedOff →
      AnswersActive (.writeOpenLimit dt v) s
        (written dt ⟨1, windowCode w + 1, 1⟩ (endedRunning w .reached changed)))

/-- A WRITE of the anti-pinch parameters M, K, S and H, or of blanking, I_max and B, is judged against their ranges
and acts on the working parameters at once, and on nothing else. A WRITE of a rear window's Child Open Limit above
its travel is answered RANGE; any other takes effect, and leaves a window that is not moving where it is (R37, R46,
R92). -/
def Obligations.ParameterAndChildLimitWritesAct : Prop :=
  ∀ (s : State) (dt : Nat) (v : Word),
    (∀ w : WindowId,
  let n := v.toNat
      let old := windowCfg s w
      let withCfg (x : WindowSettings) : State := { s with cfg := { s.cfg with windows := s.cfg.windows.set w x } }
      (WriteReady 1 (windowCode w + 1) 1 s →
        AnswersActive (.writeParameters dt v) s
          (if bitsOf n 0 5 ≤ 30 ∧ 1 ≤ bitsOf n 5 4 ∧ bitsOf n 5 4 ≤ 8 ∧ 10 ≤ bitsOf n 9 8 ∧ bitsOf n 9 8 ≤ 200 ∧
              200 ≤ bitsOf n 17 13 ∧ bitsOf n 17 13 ≤ old.travel then
            written dt ⟨1, windowCode w + 1, 2⟩
              (withCfg { old with
                margin := bitsOf n 0 5, debounce := bitsOf n 5 4, topMargin := bitsOf n 9 8, span := bitsOf n 17 13 })
          else replied dt 0x03 .range [] s)) ∧
      (WriteReady 1 (windowCode w + 1) 2 s →
        AnswersActive (.writeParameters dt v) s
          (if 1 ≤ bitsOf n 0 4 ∧ bitsOf n 0 4 ≤ 10 ∧ 50 ≤ bitsOf n 4 8 ∧ 50 ≤ bitsOf n 12 13 ∧
              bitsOf n 12 13 ≤ old.travel then
            written dt ⟨1, windowCode w + 1, 3⟩
              (withCfg { old with blanking := bitsOf n 0 4, ceiling := bitsOf n 4 8, backOff := bitsOf n 12 13 })
          else replied dt 0x03 .range [] s))) ∧
    (∀ d : RearDoor, WriteReady 1 (windowCode (rearWindow d) + 1) 3 s →
      (window s (rearWindow d)).state ≠ .movingManual → (window s (rearWindow d)).state ≠ .movingAuto →
      AnswersActive (.writeChildOpenLimit dt v) s
        (if bitsOf v.toNat 0 13 ≤ (windowCfg s (rearWindow d)).travel then
          written dt ⟨1, windowCode (rearWindow d) + 2, 0⟩
            { s with
              cfg := { s.cfg with childOpenLimit := s.cfg.childOpenLimit.set d (bitsOf v.toNat 0 13) } }
        else replied dt 0x03 .range [] s))

/-- A WRITE of CLOSURE_SETTINGS entry 0 word 0 sets the window lockout flag and the settings beside it; with no
window motion of an own switch it touches no window. A WRITE of Park Delay and Deep Delay in AWAKE sets both within
their ranges; the idle deadline follows the new Park Delay at once. With the ignition OFF this is said of a Park Delay
that has not yet run. Values outside the ranges are answered RANGE (R35, R36, R187, R189, R191, R216). -/
def Obligations.CarSettingWritesTakeEffect : Prop :=
  ∀ (s : State) (dt : Nat) (v : Word),
    (WriteReady 1 0 0 s → (∀ w, (window s w).origin ≠ some .ownSwitch) →
      let n := v.toNat
      AnswersActive (.writeWindowLockout dt v) s
        (if 5 ≤ bitsOf n 1 6 ∧ bitsOf n 1 6 ≤ 50 ∧ bitsOf n 15 6 ≤ 60 then
          written dt ⟨1, 0, 1⟩
            { s with
              cfg := { s.cfg with
                car := { s.cfg.car with
                  driverSide := if bitOf n 0 then .fr else .fl
                  pulseSteps := bitsOf n 1 6, relockTime := bitsOf n 7 8, driveAwaySpeed := bitsOf n 15 6
                  lockout := bitOf n 21, inhibitLinked := bitOf n 22, retainedTime := bitsOf n 23 8 } } }
        else replied dt 0x03 .range [] s)) ∧
    (WriteReady 1 0 1 s →
      s.ctx.ignition = .run ∨
        s.now + dt < s.ctx.lastActivity + (if anyAjar s then 600000 else bitsOf v.toNat 0 8 * 1000) →
      ∀ i, i = Instr.writeParkDelay dt v ∨ i = Instr.writeDeepDelay dt v →
        AnswersActive i s
          (if 5 ≤ bitsOf v.toNat 0 8 ∧ 1 ≤ bitsOf v.toNat 8 8 then
            written dt ⟨1, 0, 2⟩
              { s with
                cfg := { s.cfg with
                  car := { s.cfg.car with parkDelay := bitsOf v.toNat 0 8, deepDelay := bitsOf v.toNat 8 8 } } }
          else replied dt 0x03 .range [] s))

/-- A Channel Power Mode written FORCED_OFF stops the channel, empties its Pass Queue, frees the motor slot of its
window and takes that window out of FAULT; with nothing in flight on the closure it changes nothing else, nor does it
end a held motion that its driver pack began on another window (the model's reading, log entry 86). AUTO and FORCED_ON
leave a running channel FAST in AWAKE, and a channel that FORCED_OFF had stopped starts FAST, its first drive sent at
once; what they give in PARKED and DEEP stands with the idle and deep deadlines. A code outside the modes is answered
RANGE (R58, R67, R166, R167, R176, R177). -/
def Obligations.ForcedOffStopsTheChannel : Prop :=
  ∀ (s : State) (dt : Nat) (c : Closure) (v : Word), WriteReady 1 (closureCode c + 5) 0 s →
    (bitsOf v.toNat 0 2 = 3 → AnswersActive (.writeChannelPowerMode dt v) s (replied dt 0x03 .range [] s)) ∧
    (bitsOf v.toNat 0 2 = 2 → s.cfg.modes.get c ≠ .forcedOff →
      (∀ w, windowClosure w = c → (window s w).state = .idle ∨ (window s w).state = .fault) →
      ((closure s c).phase = .idle ∨ (closure s c).phase = .fault) →
      (∀ d, rearClosure d = c → (child s d).phase = .idle ∨ (child s d).phase = .fault) →
      s.group.inFlight = none → s.group.slot = none →
      AnswersActive (.writeChannelPowerMode dt v) s
        (written dt ⟨1, closureCode c + 5, 1⟩
          { s with
            cfg := { s.cfg with modes := s.cfg.modes.set c .forcedOff }
            channels := s.channels.set c
              { channel s c with
                rate := .off, cycleEnd := none, missing := 0, comparable := false, reported := false
                answered := false, drive := none
                link := if (channel s c).link = .present then .unknown else (channel s c).link }
            pass := s.pass.set c []
            windows := s.windows.mapWith fun w x =>
              if windowClosure w = c ∧ x.state = .fault then { x with state := .idle } else x
            motion := { s.motion with slots := s.motion.slots.filter fun sl => windowClosure sl.window != c } })) ∧
    (∀ mode, bitsOf v.toNat 0 2 = 0 ∧ mode = .auto ∨ bitsOf v.toNat 0 2 = 1 ∧ mode = .forcedOn →
      let t : State := { s with cfg := { s.cfg with modes := s.cfg.modes.set c mode } }
      let answers (t : State) : Prop :=
        AnswersActive (.writeChannelPowerMode dt v) s (written dt ⟨1, closureCode c + 5, 1⟩ t)
      (s.cfg.modes.get c ≠ .forcedOff → answers t) ∧
      (s.cfg.modes.get c = .forcedOff → answers (driveSent (s.now + dt) { channel s c with rate := .fast } c t)))

/-- A WRITE to PROFILES sets the four zones of its word, each at most 200, in the working profile at once and in
nothing else. A WRITE to MANAGEMENT sets a fault class's report mask and route, and leaves its count, last closure
and attention flag. At the last word of either table the cursor stays and the END flag goes out (R88, R198, R205). -/
def Obligations.ProfileAndReportWritesTakeEffect : Prop :=
  ∀ (s : State) (dt : Nat) (v : Word),
    (∀ (w : WindowId) (k : Nat), k < 4 → WriteReady 3 (windowCode w) k s →
      let old := s.cfg.profiles.get w
      let zones := [bitsOf v.toNat 0 8, bitsOf v.toNat 8 8, bitsOf v.toNat 16 8, bitsOf v.toNat 24 8]
      let changed : State :=
        { s with
          cfg := { s.cfg with
            profiles := s.cfg.profiles.set w (old.take (k * 4) ++ zones ++ old.drop (k * 4 + 4)) } }
      AnswersActive (.writeProfiles dt v) s
        (if ¬∀ z ∈ zones, z ≤ 200 then replied dt 0x03 .range [] s
        else if k < 3 then written dt ⟨3, windowCode w, k + 1⟩ changed
        else if w = .rr then writtenLast dt changed
        else written dt ⟨3, windowCode w + 1, 0⟩ changed)) ∧
    (∀ i : Fin 14, WriteReady 14 (i + 1) 0 s →
      let changed : State :=
        { s with
          cfg := { s.cfg with
            report := s.cfg.report.set i
              ⟨bitOf v.toNat 12, if bitOf v.toNat 13 then .noticeAndFlag else .notice⟩ } }
      AnswersActive (.writeManagement dt v) s
        (if i.val < 13 then written dt ⟨14, i + 2, 0⟩ changed else writtenLast dt changed))

/-- A WRITE to a protected region is answered PROTECTED and one to a read table RANGE; both use the one-shot mask
up. A WRITE with a mask present keeps the bits set in the mask as the word holds them (R199, R200): shown on the
Stored Base word of MANAGEMENT. -/
def Obligations.WriteObeysProtectionAndMask : Prop :=
  ∀ (s : State) (dt : Nat) (v : Word), Alert s → s.tx.length < 16 →
    (regionFlag s.cfg.protection.writeFlags s.mgmt.cursor.table = true →
      AnswersActive (.write dt v) s (replied dt 0x03 .protected_ [] s)) ∧
    (regionFlag s.cfg.protection.writeFlags s.mgmt.cursor.table = false →
      s.mgmt.cursor.table ∈ [0, 2, 5, 6, 8, 10, 11, 13, 15] →
      AnswersActive (.write dt v) s (replied dt 0x03 .range [] s)) ∧
    (∀ m, s.mgmt.cursor = ⟨14, 0, 0⟩ → s.mgmt.mask = some m → s.cfg.protection.writeFlags.rules = false →
      let n := ((readWord s ⟨14, 0, 0⟩ &&& m) ||| (v &&& ~~~m)).toNat
      AnswersActive (.write dt v) s
        (if bitsOf n 0 2 = 0 then
          written dt ⟨14, 1, 0⟩
            { s with
              cfg := { s.cfg with
                ids :=
                  { storedBase := BitVec.ofNat 11 (bitsOf n 0 11)
                    bit3 := if bitOf n 11 then .strap else .stored
                    bit4 := if bitOf n 12 then .strap else .stored
                    bit5 := if bitOf n 13 then .strap else .stored } } }
        else replied dt 0x03 .range [] s))

/-- A change of a fob's serial is refused with DUPLICATE where another entry that is not EMPTY holds it; otherwise
it makes the accepted counter and the resync candidate absent, clears battery-low, and ends the fob's hold. A serial
goes into an EMPTY entry whatever the others hold, and the check is made when a state is given to it. A state of EMPTY or
BLOCKED, or remote allowed cleared, makes the candidate absent, keeps the counter and ends the hold; comfort allowed
cleared leaves the hold, which then starts no operation; every other change of state or permissions sets its fields alone.
A state outside the three is RANGE, and so is the accepted counter's own word (R94, R95, R199). -/
def Obligations.FobSerialWriteUnsynchronises : Prop :=
  ∀ (s : State) (dt : Nat) (i : Fin 8) (v : Word) (f : Fob), s.cfg.fobs[i.val]? = some f →
    let answers (t : State) : Prop := AnswersActive (.writeFobs dt v) s t
    let refused (cause : Result) : State := replied dt 0x03 cause [] s
    let held (n : Nat) : Prop := ∃ j g, j ≠ i.val ∧ s.cfg.fobs[j]? = some g ∧ g.state ≠ .empty ∧ g.serial = n
    let changed (g : Fob) : State := { s with cfg := { s.cfg with fobs := s.cfg.fobs.set i g } }
    let silenced (t : State) : State := { t with key := { t.key with hold := s.key.hold.filter fun h => h.fob ≠ i } }
    -- the serial
    (WriteReady 4 i 1 s → f.serial ≠ v.toNat →
      (f.state ≠ .empty → held v.toNat → answers (refused .duplicate)) ∧
      (f.state = .empty ∨ ¬held v.toNat →
        answers
          (written dt ⟨4, i, 2⟩
            { silenced (changed { f with serial := v.toNat, accepted := none }) with
              fobRun := s.fobRun.set i ⟨none, false⟩ }))) ∧
    (WriteReady 4 i 2 s → answers (refused .range)) ∧
    (∀ q, s.fobRun[i.val]? = some q →
      let dropped (t : State) : State :=
        { silenced t with fobRun := s.fobRun.set i { q with candidate := none } }
      -- the state
      (WriteReady 4 i 0 s →
        (bitsOf v.toNat 0 2 = 3 → answers (refused .range)) ∧
        (∀ state, (bitsOf v.toNat 0 2, state) ∈ [(0, FobState.empty), (1, .active), (2, .blocked)] →
          (f.state = .empty → state ≠ .empty → held f.serial → answers (refused .duplicate)) ∧
          (state = .empty ∨ ¬held f.serial →
            answers
              (written dt ⟨4, i, 1⟩
                (if state ≠ f.state ∧ state ≠ .active then dropped (changed { f with state := state })
                else changed { f with state := state }))))) ∧
      -- the permissions
      (WriteReady 4 i 3 s → f.state = .empty ∨ ¬held f.serial →
        let g : Fob := { f with
          remoteAllowed := bitOf v.toNat 21, passiveAllowed := bitOf v.toNat 22, comfortAllowed := bitOf v.toNat 23
          mode := if bitOf v.toNat 24 then .driverFirst else .all }
        answers
          (written dt ⟨4, i + 1, 0⟩
            (if f.remoteAllowed = true ∧ g.remoteAllowed = false then dropped (changed g)
            else if f.comfortAllowed = true ∧ g.comfortAllowed = false then
              { changed g with
                key := { s.key with
                  hold := s.key.hold.map fun h => if h.fob = i.val then { h with comfortCleared := true } else h } }
            else changed g))))

/-- A WRITE of W and the passive-entry settings sets them within their ranges; with no search slot open it changes
nothing else, and switching Passive Entry off leaves no slot open (R94, R114). -/
def Obligations.PassiveWriteSetsAndClosesSlots : Prop :=
  ∀ (s : State) (dt : Nat) (v : Word), WriteReady 4 8 0 s →
    let n := v.toNat
    let k : KeySettings :=
      { forwardWindow := bitsOf n 0 8, passive := bitOf n 8
        touch := ⟨bitOf n 9, bitOf n 10, bitOf n 11, bitOf n 12, bitOf n 13⟩
        searchSteps := bitsOf n 14 6, searchId := BitVec.ofNat 11 (bitsOf n 20 11) }
    (¬(1 ≤ k.forwardWindow ∧ 5 ≤ k.searchSteps ∧ k.searchSteps ≤ 50) →
      AnswersActive (.writePassiveSettings dt v) s (replied dt 0x03 .range [] s)) ∧
    (1 ≤ k.forwardWindow → 5 ≤ k.searchSteps → k.searchSteps ≤ 50 →
      (s.search.slots = [none, none, none, none] →
        AnswersActive (.writePassiveSettings dt v) s
          (written dt ⟨4, 8, 1⟩ { s with cfg := { s.cfg with key := k } })) ∧
      (s.cfg.key.passive = true → k.passive = false → s.search.slots.length = 4 →
        ∃ u, exec (.writePassiveSettings dt v) s = .next u ∧ u.cfg.key = k ∧
          u.search.slots = [none, none, none, none] ∧ u.group = s.group))

/-- A WRITE to OPERATIONS replaces the working descriptor where the entry would then hold one, and is answered
RANGE otherwise; the Active Operation keeps its own copy (R128). -/
def Obligations.OperationsWriteReplacesTheDescriptor : Prop :=
  ∀ (s : State) (dt : Nat) (i : Fin 4) (k : Nat) (v : Word), k < 3 → WriteReady 7 i k s →
    let words := (entryWords s 7 i).set k v.toNat
    AnswersActive (.writeOperations dt v) s
      (match readDescriptor (words.getD 0 0) (words.getD 1 0) (words.getD 2 0) with
      | some d =>
        written dt ⟨7, i, k + 1⟩
          { s with cfg := { s.cfg with descriptors := s.cfg.descriptors.set i d } }
      | none => replied dt 0x03 .range [] s)

/-- A WRITE of a rule's word 0 is answered RANGE for an action outside the seven, a min length above 8, or an action
REQUEST over an argument that names no kind a rule may carry, since the check judges the entry as it would stand;
otherwise it replaces those fields at once, and a change of base, mask, min length or action sets the hit count to 0.
Word 1 replaces the argument, RANGE likewise where the action is REQUEST; that it is judged under no other action is
the model's choice (log entry 14). Word 2 replaces the extraction, RANGE outside its ranges or beyond 64 bits. The
hit-count word is answered RANGE. Entry 32 takes the Default Disposition, as a PASS bit below its mask (its place: the
model's choice, log entry 78), the Status Identifier, RANGE with either of its low 2 bits set, and the five Uplink
Identifiers (R144, R199, R216). -/
def Obligations.RuleWriteReplacesTheEntry : Prop :=
  ∀ (s : State) (dt : Nat) (v : Word),
   (let f := s.cfg.frame
    let n := v.toNat
    let uplink (low : Nat) : Option CanId :=
      if bitOf n (low + 11) then some (BitVec.ofNat 11 (bitsOf n low 11)) else none
    let settings (k : Nat) (new : FrameSettings) : State :=
      written dt ⟨9, 32, k⟩ { s with cfg := { s.cfg with frame := new } }
    (WriteReady 9 32 0 s →
      (bitsOf n 6 2 ≠ 0 → AnswersActive (.writeRules dt v) s (replied dt 0x03 .range [] s)) ∧
      (bitsOf n 6 2 = 0 →
        AnswersActive (.writeRules dt v) s
          (settings 1
            { passDefault := bitOf n 0, defaultMask := BitVec.ofNat 5 (bitsOf n 1 5)
              statusId := BitVec.ofNat 11 (bitsOf n 6 11), uplinkIds := { f.uplinkIds with fl := uplink 17 } }))) ∧
    (WriteReady 9 32 1 s →
      AnswersActive (.writeRules dt v) s
        (settings 2 { f with uplinkIds := { f.uplinkIds with fr := uplink 0, rl := uplink 12 } })) ∧
    (WriteReady 9 32 2 s →
      AnswersActive (.writeRules dt v) s
        (settings 3 { f with uplinkIds := { f.uplinkIds with rr := uplink 0, tg := uplink 12 } }))) ∧
   ∀ (i : Fin 32) (r : Rule), s.cfg.rules[i.val]? = some r →
    let n := v.toNat
    let carried (code : Nat) : Prop := code ∈ [1, 2, 3, 4, 5, 6, 7, 11, 12, 13, 14]
    let range : State := replied dt 0x03 .range [] s
    let replaced (k : Nat) (new : Rule) : State :=
      written dt ⟨9, i, k⟩ { s with cfg := { s.cfg with rules := s.cfg.rules.set i new } }
    (WriteReady 9 i 0 s →
      (actionOfCode (bitsOf n 27 3) = none → AnswersActive (.writeRules dt v) s range) ∧
      (∀ action, actionOfCode (bitsOf n 27 3) = some action →
        (8 < bitsOf n 23 4 ∨ action = .request ∧ ¬carried (bitsOf r.argument.toNat 0 4) →
          AnswersActive (.writeRules dt v) s range) ∧
        (bitsOf n 23 4 ≤ 8 → (action = .request → carried (bitsOf r.argument.toNat 0 4)) →
          let base : CanId := BitVec.ofNat 11 (bitsOf n 1 11)
          let mask : CanId := BitVec.ofNat 11 (bitsOf n 12 11)
          let same := r.base = base ∧ r.mask = mask ∧ r.minLength = bitsOf n 23 4 ∧ r.action = action
          AnswersActive (.writeRules dt v) s
            { replaced 1
                { r with
                  valid := bitOf n 0, base := base, mask := mask, minLength := bitsOf n 23 4, action := action
                  wake := bitOf n 30, keepAwake := bitOf n 31 } with
              counts := if same then s.counts else { s.counts with hits := s.counts.hits.set i 0 } }))) ∧
    (WriteReady 9 i 1 s →
      (r.action = .request ∧ ¬carried (bitsOf n 0 4) → AnswersActive (.writeRules dt v) s range) ∧
      ((r.action = .request → carried (bitsOf n 0 4)) →
        AnswersActive (.writeRules dt v) s (replaced 2 { r with argument := BitVec.ofNat 12 (bitsOf n 0 12) }))) ∧
    (WriteReady 9 i 2 s →
      AnswersActive (.writeRules dt v) s
        (if 1 ≤ bitsOf n 6 5 ∧ bitsOf n 6 5 ≤ 16 ∧ 1 ≤ bitsOf n 11 8 ∧ 1 ≤ bitsOf n 19 8 ∧
            bitsOf n 0 3 * 8 + bitsOf n 3 3 + bitsOf n 6 5 ≤ 64 then
          replaced 3
            { r with
              byteIndex := bitsOf n 0 3, lowBit := bitsOf n 3 3, width := bitsOf n 6 5, num := bitsOf n 11 8
              den := bitsOf n 19 8 }
        else range)) ∧
    (WriteReady 9 i 3 s → AnswersActive (.writeRules dt v) s range)

/-- A WRITE to WAKE_LINES sets a line's enable and mode at once. In an edge mode, and in a level mode whose level the
line has not or whose pending is set, it gives no detection; otherwise pending becomes set, and on an enabled closure
line the touch opens a search: UNLOCK at a side door, TAILGATE at TG. CLEAR_WAKE clears pending on the lines it names,
but a line in a level mode that stands at its active level is detected again at once, so its pending is set, with the
touch of an enabled closure line (R116, R117, R183, R184, R185). -/
def Obligations.WakeLineWritesAndClearsAreJudged : Prop :=
  ∀ (s : State) (dt : Nat) (l : WakeLine),
    let index : Nat :=
      match l with
      | .ign => 0
      | .door .fl => 1
      | .door .fr => 2
      | .door .rl => 3
      | .door .rr => 4
      | .door .tg => 5
    let active (mode : LineMode) (level : Level) : Bool :=
      mode == .high && level == .high || mode == .low && level == .low
    let opened (c : Closure) : SearchSlot :=
      ⟨c, if c = .tg then .tailgate else .unlock, s.search.tagCounter, s.now + dt + s.cfg.key.searchSteps * 10,
        .wakeLine⟩
    let searching (c : Closure) (t : State) : State :=
      { t with
        search := { s.search with
          slots := [some (opened c), none, none, none], tagCounter := (s.search.tagCounter + 1) % 16 }
        tx := s.tx ++ [⟨.other, s.cfg.key.searchId, searchRequestData (opened c), false⟩] }
    let free (c : Closure) : Prop :=
      s.cfg.key.passive = true ∧ s.search.slots = [none, none, none, none] ∧ s.search.tagCounter < 16 ∧
        s.tx.length + 1 < 16 ∧ (c = .tg → (closure s .tg).target ≠ .unlocked)
    (∀ v : Word, WriteReady 12 index 0 s →
      let mode : LineMode := [.rising, .falling, .high, .low].getD (bitsOf v.toNat 1 2) .rising
      let enable := bitOf v.toNat 0
      let x := s.lines.get l
      let set : State := { s with cfg := { s.cfg with lines := s.cfg.lines.set l ⟨enable, mode⟩ } }
      let seen : State := { set with lines := s.lines.set l { x with pending := true } }
      let ok (t : State) : State :=
        if l = .door .tg then replied dt 0x03 .ok [1] t else written dt ⟨12, index + 1, 0⟩ t
      (active mode x.level = false ∨ x.pending = true → AnswersActive (.writeWakeLines dt v) s (ok set)) ∧
      (active mode x.level = true → x.pending = false →
        (enable = false ∨ l = .ign → AnswersActive (.writeWakeLines dt v) s (ok seen)) ∧
        (∀ c, enable = true → l = .door c → free c →
          AnswersActive (.writeWakeLines dt v) s (ok (searching c seen))))) ∧
    (∀ lines : Byte, Alert s → s.tx.length < 16 →
      let again (k : WakeLine) : Bool := active (s.cfg.lines.get k).mode (s.lines.get k).level
      let cleared : State :=
        { s with
          lines := s.lines.mapWith fun k x =>
            if lines.getLsbD (lineCode k) then { x with pending := x.pending && again k } else x }
      ((∀ k, lines.getLsbD (lineCode k) = true → (s.lines.get k).pending = true → again k = true →
          (s.cfg.lines.get k).enable = false ∨ k = .ign) →
        AnswersActive (.clearWake dt lines) s (replied dt 0x08 .ok [] cleared)) ∧
      (∀ c, l = .door c → lines = BitVec.ofNat 8 (2 ^ index) → (s.lines.get l).pending = true → again l = true →
        (s.cfg.lines.get l).enable = true → free c →
        AnswersActive (.clearWake dt lines) s (replied dt 0x08 .ok [] (searching c s))))

/-! ## Requests handed on -/

/-- DISCARD of a held ticket drops the frame with no notice; RELEASE of one whose frame no later entry matches
counts it, drops it under a Default Disposition of DROP, and under PASS copies it to each queue of the mask whose node is
not LOST and whose channel is not FORCED_OFF; either is answered NO_TICKET for a ticket that no held frame has (R146, R155,
R156, R158). -/
def Obligations.ReleaseAndDiscardFreeThePlace : Prop :=
  ∀ (s : State) (dt : Nat) (ticket : Byte), Alert s → s.tx.length < 16 →
    let freed : TrapBuffer := { s.trap with held := s.trap.held.filter fun f => f.ticket ≠ ticket.toNat }
    ((∀ f ∈ s.trap.held, f.ticket ≠ ticket.toNat) →
      AnswersActive (.release dt ticket) s (replied dt 0x05 .noTicket [] s) ∧
      AnswersActive (.discard dt ticket) s (replied dt 0x06 .noTicket [] s)) ∧
    ((∃ f ∈ s.trap.held, f.ticket = ticket.toNat) →
      AnswersActive (.discard dt ticket) s (replied dt 0x06 .ok [] { s with trap := freed }) ∧
      ((∀ f ∈ s.trap.held, f.ticket = ticket.toNat →
          ∀ i r, f.rule < i → s.cfg.rules[i]? = some r → ruleMatches r f.id f.data = false) →
        s.cfg.frame.passDefault = false →
        AnswersActive (.release dt ticket) s
          (replied dt 0x05 .ok []
            { s with
              trap := freed, counts := { s.counts with noMatch := min 65535 (s.counts.noMatch + 1) } })) ∧
      (∀ f, (∀ g ∈ s.trap.held, g.ticket = ticket.toNat → g = f) →
        (∀ j r, f.rule < j → s.cfg.rules[j]? = some r → ruleMatches r f.id f.data = false) →
        s.cfg.frame.passDefault = true →
        let mask := s.cfg.frame.defaultMask.toNat
        (∀ c, TakesCopy mask c s → (s.pass.get c).length < 2) →
        AnswersActive (.release dt ticket) s
          (replied dt 0x05 .ok []
            { s with
              trap := freed, counts := { s.counts with noMatch := min 65535 (s.counts.noMatch + 1) }
              pass := passedTo mask ⟨f.id, f.data⟩ s })))

/-- A lock or unlock request of management that finds the group idle and ready, and some named closure away from
its target, is actuated on the closures its kind names and on no other. Where all of them are sensed at their targets it
completes at once: a lock lights STEADY for 5 s, and an unlock arms drive-away locking again (R5, R7, R8, R17, R23,
R39). -/
def Obligations.LockRequestsActuateTheNamedClosures : Prop :=
  ∀ (s : State) (dt : Nat), LockReady s →
    let all := [Closure.fl, .fr, .rl, .rr, .tg]
    let deadlock (c : Closure) : LockTarget := if c = .tg then .locked else .deadlocked
    let unlocked (kind : LockKind) (names : List Closure) : State :=
      { lockedBy dt ⟨kind, .management, false⟩ names (fun _ => .unlocked) s with timed := lessSteady s.timed }
    (SomeToDrive all (fun _ => .locked) s →
      AnswersActive (.lockAll dt) s
        (replied dt 0x07 .ok [] (lockedBy dt ⟨.lockAll, .management, false⟩ all (fun _ => .locked) s))) ∧
    (SomeToDrive all deadlock s →
      AnswersActive (.deadlockAll dt) s
        (replied dt 0x07 .ok [] (lockedBy dt ⟨.deadlockAll, .management, false⟩ all deadlock s))) ∧
    (SomeToDrive all (fun _ => .unlocked) s →
      AnswersActive (.unlockAll dt) s (replied dt 0x07 .ok [] (unlocked .unlockAll all))) ∧
    (SomeToDrive [driverClosure s] (fun _ => .unlocked) s →
      AnswersActive (.unlockDriver dt) s (replied dt 0x07 .ok [] (unlocked .unlockDriver [driverClosure s]))) ∧
    (SomeToDrive [.tg] (fun _ => .unlocked) s →
      AnswersActive (.unlockTailgate dt) s (replied dt 0x07 .ok [] (unlocked .unlockTailgate [.tg]))) ∧
    (∀ i kind, (i, kind) ∈ lockRows dt → ¬Drives kind s →
      AnswersActive i s (replied dt 0x07 .ok [] (lockCompleted dt ⟨kind, .management, false⟩ s)))

/-- A lock-type request is refused with CRASH_HOLD while crash hold is set, and any request with BUDGET while no
token is left; a refusal writes last refusal and nothing else. A request that finds the group busy waits in the
pending slot, unless one of its kind is in flight, with which it merges. One that arrives in PARKED or DEEP wakes the
part with cause REQUEST and waits for the first reports; a CRASH_UNLOCK does not wait, and a channel that was OFF under
AUTO carries its pulse on its first drive (R5, R6, R7, R9, R10, R19 D, R192). -/
def Obligations.LockRequestsAreRefusedOrWait : Prop :=
  ∀ (s : State) (dt : Nat), s.tx.length < 16 →
    let idle : Prop := ∀ c, (closure s c).phase = .idle ∨ (closure s c).phase = .fault
    (∀ i kind, (i, kind) ∈ lockRows dt → Alert s →
      let locking : Prop := kind = .lockAll ∨ kind = .deadlockAll
      let refused (cause : LockRefusal) : State :=
        replied dt 0x07 .ok [] { s with group := { s.group with lastRefusal := some cause } }
      (idle → s.group.inFlight = none → s.group.slot = none → (∀ c, (channel s c).reported = true) →
        (s.group.crashHold.isSome → locking → AnswersActive i s (refused .crashHold)) ∧
        (s.group.tokens = 0 → (locking → s.group.crashHold = none) → AnswersActive i s (refused .budget))) ∧
      (∀ f c, (closure s c).phase = .driving ∨ (closure s c).phase = .settling ∨ (closure s c).phase = .retrying →
        s.group.inFlight = some f →
        (f.request.kind = kind → AnswersActive i s (replied dt 0x07 .ok [] s)) ∧
        (f.request.kind ≠ kind →
          AnswersActive i s
            (replied dt 0x07 .ok [] { s with group := { s.group with slot := some ⟨kind, .management, false⟩ } })))) ∧
    (∀ i kind, (i, kind) ∈ lockRows dt → Asleep s → idle → s.group.inFlight = none →
      (∃ c ∈ requestNames (driverClosure s) kind, (channel s c).link ≠ .lost ∧ s.cfg.modes.get c ≠ .forcedOff) →
      ∃ u, exec i s = .next u ∧ u.ctx.state = .awake ∧ u.ctx.lastWake = some .request ∧
        u.group = { s.group with slot := some ⟨kind, .management, false⟩ } ∧
        ∀ c, (closure u c).target = (closure s c).target ∧ (closure u c).phase = (closure s c).phase ∧
          (channel u c).reported = false ∧ (s.cfg.modes.get c ≠ .forcedOff → (channel u c).rate = .fast)) ∧
    (Asleep s → ∀ c, (channel s c).rate = .off → (channel s c).link ≠ .lost → s.cfg.modes.get c = .auto →
      ∃ u bytes, exec (.crashUnlock dt) s = .next u ∧ u.ctx.state = .awake ∧ (closure u c).target = .unlocked ∧
        (closure u c).phase = .driving ∧ (closure u c).command = .idle ∧
        (closure u c).driveDeadline = some (s.now + dt + 10 * s.cfg.car.pulseSteps + 100) ∧
        (channel u c).drive = some bytes ∧ byteNat bytes 0 % 8 = 2 ∧ u.group.crashHold = some (s.now + dt))

/-- A RELEASE_TAILGATE is refused with LOCKED unless TG's target is UNLOCKED, then with MOVING unless the speed is
a fresh 0; it merges into a running release, and is otherwise prepared for TG's next drive. It takes no token and
changes no Closure Lock record. While TG's node is LOST nothing is prepared (the model's reading, log entry 60). One taken
in PARKED or DEEP goes out on the first drive of a TG channel that was OFF (R24, R167). -/
def Obligations.TailgateReleaseIsCheckedInOrder : Prop :=
  ∀ (s : State) (dt : Nat), s.tx.length < 16 →
    let refused (cause : LockRefusal) : State :=
      replied dt 0x07 .ok [] { s with group := { s.group with lastRefusal := some cause } }
    let fresh := s.ctx.speed = 0 ∧ ∃ d, s.ctx.speedFresh = some d ∧ s.now + dt ≤ d
    (Alert s →
      ((closure s .tg).target ≠ .unlocked → AnswersActive (.releaseTailgate dt) s (refused .locked)) ∧
      ((closure s .tg).target = .unlocked → ¬fresh → AnswersActive (.releaseTailgate dt) s (refused .moving)) ∧
      ((closure s .tg).target = .unlocked → fresh →
        AnswersActive (.releaseTailgate dt) s
          (replied dt 0x07 .ok []
            { s with
              group := { s.group with lastRefusal := none }
              release :=
                if s.release.deadline.isSome ∨ (channel s .tg).link = .lost then s.release
                else { s.release with prepared := true } }))) ∧
    (Asleep s → (closure s .tg).target = .unlocked → fresh → s.release.deadline = none → (channel s .tg).link ≠ .lost →
      (channel s .tg).rate = .off → s.cfg.modes.get .tg = .auto →
      ∃ u bytes, exec (.releaseTailgate dt) s = .next u ∧ u.ctx.state = .awake ∧
        u.release = ⟨some (s.now + dt + 300), false⟩ ∧ (channel u .tg).drive = some bytes ∧
        byteNat bytes 0 / 32 % 2 = 1)

/-- A CRASH_UNLOCK is taken at once, whatever the group does: with every channel sending, no operation active and
no closing window, all five closures drive toward UNLOCKED, the pending slot, the relock timer and both key windows
become absent, crash hold takes its time, and no token is consumed; last refusal becomes NONE (the model's choice, log
entry 42). CRASH_CLEAR ends crash hold at once and changes nothing else (R19, R20, R39). -/
def Obligations.CrashUnlockAndClearActAtOnce : Prop :=
  ∀ (s : State) (dt : Nat), Alert s → s.tx.length < 16 →
    ((∀ c, (channel s c).link ≠ .lost) →
      (∀ c, s.cfg.modes.get c ≠ .forcedOff) → s.op.active = none →
      (∀ w, (window s w).state = .idle ∨ (window s w).state = .fault ∨ (window s w).direction = .down) →
      AnswersActive (.crashUnlock dt) s
        (replied dt 0x07 .ok []
          { s with
            closures := s.closures.mapWith fun _ k =>
              { k with
                target := .unlocked, lastSource := .crash, openedSinceUnlock := false, phase := .driving
                command := .unlockPulse, pulseSteps := s.cfg.car.pulseSteps, driveDeadline := none
                settleDeadline := none }
            group := { s.group with
              inFlight := some ⟨⟨.crashUnlock, .crash, false⟩, driverClosure s⟩, slot := none, relockTimer := none
              driverFirst := none, doubleLock := none, lastRefusal := none, crashHold := some (s.now + dt) }
            timed := lessSteady s.timed })) ∧
    (AnswersActive (.crashClear dt) s
        (replied dt 0x07 .ok [] { s with group := { s.group with crashHold := none } }))

/-- CHILD_SET sets one rear door's target and actuates it: FAULT where the channel does not report, IDLE where the
lock is sensed at the target, DRIVING with its command otherwise. With that door's window at rest it changes
nothing else. Codes that name no rear door or no state are answered RANGE. In PARKED or DEEP the command goes out on
the first drive of a channel that was OFF (R30, R31). -/
def Obligations.ChildSetActuatesOneDoor : Prop :=
  ∀ (s : State) (dt : Nat) (d : RearDoor) (code st : Byte), s.tx.length < 16 →
    (Asleep s → code.toNat = (match d with | .rl => 2 | .rr => 3) → st.toNat ≤ 1 →
      (child s d).phase = .idle ∨ (child s d).phase = .fault →
      (child s d).sensed ≠ (if st.toNat = 1 then .engaged else .disengaged) →
      (channel s (rearClosure d)).rate = .off → (channel s (rearClosure d)).link ≠ .lost →
      s.cfg.modes.get (rearClosure d) = .auto →
      ∃ u bytes, exec (.childSet dt code st) s = .next u ∧ u.ctx.state = .awake ∧ (child u d).phase = .driving ∧
        (child u d).command = none ∧ (channel u (rearClosure d)).drive = some bytes ∧
        byteNat bytes 0 / 8 % 4 = (if st.toNat = 1 then 1 else 2)) ∧
    (Alert s → (code.toNat ≠ 2 ∧ code.toNat ≠ 3 ∨ 1 < st.toNat) →
      AnswersActive (.childSet dt code st) s (replied dt 0x07 .range [] s)) ∧
    (Alert s → code.toNat = (match d with | .rl => 2 | .rr => 3) → st.toNat ≤ 1 →
      (window s (rearWindow d)).state = .idle ∨ (window s (rearWindow d)).state = .fault →
      (child s d).phase = .idle ∨ (child s d).phase = .fault →
      let target : ChildTarget := if st.toNat = 1 then .engaged else .disengaged
      let k : ChildLock := { child s d with target := target, retried := false, settleDeadline := none }
      let there := (child s d).sensed = (if st.toNat = 1 then .engaged else .disengaged)
      AnswersActive (.childSet dt code st) s
        (replied dt 0x07 .ok []
          { s with
            children := s.children.set d
              (if (channel s (rearClosure d)).link = .lost ∨ s.cfg.modes.get (rearClosure d) = .forcedOff then
                { k with phase := .fault, command := none }
              else if there then { k with phase := .idle, command := none }
              else
                { k with
                  phase := .driving, command := some (if st.toNat = 1 then .engage else .disengage) }) }))

/-- CLEAR_NORMALIZED puts P at travel and clears normalized on a window at rest, and only notes the clear on one
that is REVERSING; FFh names all four windows; any other code is answered RANGE (R57). -/
def Obligations.ClearNormalizedForgetsThePosition : Prop :=
  ∀ (s : State) (dt : Nat) (code : Byte), Alert s → s.tx.length < 16 →
    let cleared (w : WindowId) (x : Window) : Window :=
      if x.state = .reversing then { x with clearPending := true }
      else { x with position := (windowCfg s w).travel, normalized := false, clearPending := false }
    (4 ≤ code.toNat → code.toNat ≠ 255 →
      AnswersActive (.clearNormalized dt code) s (replied dt 0x07 .range [] s)) ∧
    (∀ w, code.toNat = windowCode w →
      (window s w).state = .idle ∨ (window s w).state = .fault ∨ (window s w).state = .reversing →
      AnswersActive (.clearNormalized dt code) s
        (replied dt 0x07 .ok [] { s with windows := s.windows.set w (cleared w (window s w)) })) ∧
    (code.toNat = 255 →
      (∀ w, (window s w).state = .idle ∨ (window s w).state = .fault ∨ (window s w).state = .reversing) →
      AnswersActive (.clearNormalized dt code) s
        (replied dt 0x07 .ok [] { s with windows := s.windows.mapWith cleared }))

/-- WINDOW_MOVE on a free window either completes at once with REACHED, when nothing is left to move, or waits for
its grant at the tail of the Motion Queue; a window in FAULT refuses it with FAULT, one in REVERSING with BUSY; a
window or count outside its set is answered RANGE. In PARKED or DEEP the entry waits in a part that its request woke
(R45, R47, R48, R49, R58, R59). -/
def Obligations.WindowMoveWaitsForItsGrant : Prop :=
  ∀ (s : State) (dt : Nat) (code : Byte) (count : BitVec 16), s.tx.length < 16 →
    (∀ w, Asleep s → code.toNat = windowCode w → count.toNat ≤ 8000 → WindowFree w s →
      (window s w).position < min count.toNat (min (windowCfg s w).travel (currentLimit s w)) →
      ∃ u, exec (.windowMove dt code count) s = .next u ∧ u.ctx.state = .awake ∧ u.ctx.lastWake = some .request ∧
        (window u w).state = .waiting ∧ (window u w).requested = min count.toNat (windowCfg s w).travel ∧
        u.motion.otherQueue = s.motion.otherQueue ++ [w] ∧ u.group = s.group) ∧
    (Alert s → 4 ≤ code.toNat ∨ 8000 < count.toNat →
      AnswersActive (.windowMove dt code count) s (replied dt 0x07 .range [] s)) ∧
    (∀ w, Alert s → code.toNat = windowCode w → count.toNat ≤ 8000 →
      let x := window s w
      let refused (cause : WindowRefusal) : State :=
        replied dt 0x07 .ok [] { s with windows := s.windows.set w { x with lastRefusal := some cause } }
      let requested := min count.toNat (windowCfg s w).travel
      let target := min requested (currentLimit s w)
      (x.state = .fault → AnswersActive (.windowMove dt code count) s (refused .fault)) ∧
      (x.state = .reversing → s.cfg.modes.get (windowClosure w) ≠ .forcedOff →
        AnswersActive (.windowMove dt code count) s (refused .busy)) ∧
      (WindowFree w s →
        (x.position < target →
          AnswersActive (.windowMove dt code count) s
            (replied dt 0x07 .ok [] (waitingFor (s.now + dt) w requested .down .management s))) ∧
        (requested = 0 ∨ requested < x.position →
          AnswersActive (.windowMove dt code count) s
            (replied dt 0x07 .ok [] (waitingFor (s.now + dt) w requested .up .management s))) ∧
        (requested ≠ 0 → target ≤ x.position → x.position ≤ requested →
          AnswersActive (.windowMove dt code count) s
            (replied dt 0x07 .ok []
              { s with
                windows := s.windows.set w
                  { heatRest (s.now + dt) x with
                    requested := requested, lastRefusal := none, lastOutcome := some .reached } }))))

/-- WINDOW_STOP removes a waiting entry that is not a switch's, or stops such a motion where it is, and ends it
STOPPED; one for a switch's motion or for a window in REVERSING is refused with BUSY; one for a window in IDLE or
FAULT changes nothing. The step of an operation whose motion or entry it ends is CANCELLED, and the operation runs on or
ends COMPLETE (R50, R58, R63, R132, R133). -/
def Obligations.WindowStopEndsTheMotion : Prop :=
  ∀ (s : State) (dt : Nat) (code : Byte) (w : WindowId), Alert s → s.tx.length < 16 →
    (4 ≤ code.toNat → AnswersActive (.windowStop dt code) s (replied dt 0x07 .range [] s)) ∧
    (code.toNat = windowCode w →
      let x := window s w
      let busy : State :=
        replied dt 0x07 .ok [] { s with windows := s.windows.set w { x with lastRefusal := some .busy } }
      (x.state = .idle ∨ x.state = .fault → AnswersActive (.windowStop dt code) s (replied dt 0x07 .ok [] s)) ∧
      (x.state = .reversing → AnswersActive (.windowStop dt code) s busy) ∧
      (x.state = .waiting ∨ x.state = .movingManual ∨ x.state = .movingAuto →
        x.origin = some .ownSwitch ∨ x.origin = some .driverPack →
        AnswersActive (.windowStop dt code) s busy) ∧
      (x.state = .movingManual ∨ x.state = .movingAuto → x.origin = some .body ∨ x.origin = some .management →
        x.clearPending = false → s.cfg.modes.get (windowClosure w) ≠ .forcedOff →
        AnswersActive (.windowStop dt code) s
          (replied dt 0x07 .ok [] (endedRunning w .stopped s))) ∧
      (x.state = .waiting → x.origin = some .body ∨ x.origin = some .management →
        AnswersActive (.windowStop dt code) s
          (replied dt 0x07 .ok []
            { s with
              windows := s.windows.set w
                { x with state := .idle, lastOutcome := some .stopped, origin := none, held := false }
              motion := { s.motion with
                switchQueue := s.motion.switchQueue.filter (· ≠ w)
                otherQueue := s.motion.otherQueue.filter (· ≠ w) } })) ∧
      (∀ op, StepOut w op s → s.tx.length < 15 → x.clearPending = false →
        s.cfg.modes.get (windowClosure w) ≠ .forcedOff →
        AnswersActive (.windowStop dt code) s
          (replied dt 0x07 .ok [] (stepEndedAs w .cancelled op (endMotionRecord w .stopped s)))))

/-- OPERATION_START is refused with CRASH_HOLD, DISABLED or HOLD_REQUIRED in that order, each writing the last
start result alone. One that is taken first ends a present operation SUPERSEDED, with every open step CANCELLED. Its start
pass then gives each of its steps, one to four, the status that its window's condition comes to: an ISSUED one waits for
its grant in list order, the others are DONE or SKIPPED, and a start with none ISSUED ends COMPLETE with its notice. From
then on each step takes the status of its motion's outcome: DONE for REACHED, OVERRIDDEN for OVERRIDDEN and REPLACED,
CANCELLED for STOPPED, CANCELLED, RUNTIME and LOST; the operation runs on while a step is open and then ends COMPLETE with
its notice (R129, R130, R131, R132, R133, R134). -/
def Obligations.OperationStartIsCheckedAndIssued : Prop :=
  ∀ (s : State) (dt : Nat) (code : Byte) (d : Descriptor), Alert s → s.tx.length < 16 →
    s.cfg.descriptors.length = 4 →
    (4 ≤ code.toNat → AnswersActive (.operationStart dt code) s (replied dt 0x07 .range [] s)) ∧
    (s.cfg.descriptors[code.toNat]? = some d →
      let result (r : StartResult) : OpEngine := { s.op with lastStart := some ⟨r, code.toNat, .management⟩ }
      (s.group.crashHold.isSome → s.op.active = none →
        AnswersActive (.operationStart dt code) s (replied dt 0x07 .ok [] { s with op := result .crashHold })) ∧
      (s.group.crashHold = none → d.enabled = false →
        AnswersActive (.operationStart dt code) s (replied dt 0x07 .ok [] { s with op := result .disabled })) ∧
      (s.group.crashHold = none → d.enabled = true → d.holdToRun = true →
        AnswersActive (.operationStart dt code) s (replied dt 0x07 .ok [] { s with op := result .holdRequired })) ∧
      (∀ w, s.group.crashHold = none → d.enabled = true → d.holdToRun = false → d.steps = [⟨w, .opened⟩] →
        s.op.active = none →
        WindowFree w s → (window s w).position < currentLimit s w → currentLimit s w ≤ (windowCfg s w).travel →
        AnswersActive (.operationStart dt code) s
          (replied dt 0x07 .ok []
            { waitingFor (s.now + dt) w (windowCfg s w).travel .down .operation s with
              op :=
                { result .started with
                  active := some
                    { descriptor := code.toNat, kind := d.kind, holdToRun := false, source := .management
                      lease := none, steps := [⟨w, .opened, .issued⟩], remaining := 1, abortCause := none } } })) ∧
      (∀ status : WindowId → StepStatus, s.group.crashHold = none → d.enabled = true → d.holdToRun = false →
        d.steps ≠ [] → (d.steps.map (·.window)).Nodup → s.tx.length < 14 →
        (∀ old ∈ s.op.active, old.abortCause = none) →
        (∀ st ∈ d.steps, StepComesTo (s.now + dt) s st (status st.window)) →
        let steps := d.steps.map fun st => (⟨st.window, st.target, status st.window⟩ : OpStep)
        let issued := d.steps.filter fun st => status st.window = .issued
        let taken : ActiveOp :=
          { descriptor := code.toNat, kind := d.kind, holdToRun := false, source := .management, lease := none
            steps := steps, remaining := issued.length, abortCause := none }
        let superseded := s.op.active.map fun old => endedOp old (some .superseded) (stepsCancelled old.steps)
        let complete := endedOp taken none steps
        ∃ u, exec (.operationStart dt code) s = .next u ∧ u.op.lastStart = (result .started).lastStart ∧
          (issued ≠ [] → u.op.active = some taken ∧ u.op.lastOp = (superseded <|> s.op.lastOp)) ∧
          (issued = [] → u.op.active = none ∧ u.op.lastOp = some complete) ∧
          u.tx =
            s.tx ++ (superseded.toList.map (operationNotice s)) ++
              (if issued = [] then [operationNotice s complete] else []) ++ [responseFrame s 0x07 .ok []] ∧
          (∀ st ∈ issued,
            let x := window u st.window
            x.state = .waiting ∧ x.direction = stepDirection st s ∧ x.requested = stepTarget st s ∧
              x.origin = some .operation ∧ x.held = false ∧ x.position = (window s st.window).position) ∧
          (s.op.active = none →
            u.motion = { s.motion with otherQueue := s.motion.otherQueue ++ issued.map (·.window) } ∧
              ∀ w, (∀ st ∈ d.steps, st.window ≠ w) → window u w = window s w) ∧
          (∀ old ∈ s.op.active, ∀ x ∈ old.steps, openStep x = true →
            (window s x.window).origin = some .operation ∨ (window s x.window).origin = some .fobOperation →
            (window s x.window).state = .waiting ∨ (window s x.window).state = .movingAuto →
            (∀ st ∈ d.steps, st.window ≠ x.window) →
            (window u x.window).state = .idle ∧ (window u x.window).lastOutcome = some .cancelled) ∧
          u.group = s.group ∧ u.closures = s.closures ∧ u.cfg = s.cfg)) ∧
    (∀ w op outcome status, StepOut w op s →
      (outcome, status) ∈
        [(MotionOutcome.reached, StepStatus.done), (.overridden, .overridden), (.replaced, .overridden),
         (.stopped, .cancelled), (.cancelled, .cancelled), (.runtime, .cancelled), (.lost, .cancelled)] →
      endMotion w outcome s = stepEndedAs w status op (endMotionRecord w outcome s))

/-- OPERATION_CANCEL with no operation present changes nothing; otherwise it ends the operation: every step not yet
ended is CANCELLED, and the record is copied into the last operation with outcome CANCELLED (R133, R134, R138). -/
def Obligations.OperationCancelEndsTheOperation : Prop :=
  ∀ (s : State) (dt : Nat), Alert s → s.tx.length < 16 →
    (s.op.active = none → AnswersActive (.operationCancel dt) s (replied dt 0x07 .ok [] s)) ∧
    (∀ op, s.op.active = some op → op.abortCause = none → s.group.crashHold = none →
      ∃ u, exec (.operationCancel dt) s = .next u ∧ u.op.active = none ∧ u.op.lastStart = s.op.lastStart ∧
        u.op.lastOp = some
          { descriptor := op.descriptor, kind := op.kind, source := op.source, outcome := some .cancelled
            steps := op.steps.map fun x =>
              if x.status = .pending ∨ x.status = .issued then { x with status := .cancelled } else x } ∧
        (∀ w, (∀ x ∈ op.steps, x.window ≠ w) → window u w = window s w) ∧ u.closures = s.closures ∧
        u.group = s.group ∧ u.cfg = s.cfg)

/-! ## Start-up, restart and the settings store -/

/-- POWER_ON from any state, with the supply on too (the model's choice, log entry 39): every record starts from its
power-on value, LOAD begins, the tables come from a good image or are the factory defaults, B is formed from them and the
straps, and a bad image raises STORE_BLANK; the lock cell gives the protection record when it is set (R196, R204, R207,
R211). What the manual sets only later (targets,
activity times) stands at the values of log entry 4. -/
def Obligations.PowerOnBeginsLoad : Prop :=
  ∀ (s : State) (dt : Nat) (a b c : Bool),
    let started (tables : Tables) (blank : Bool) : State :=
      { State.reset with
        pending := s.pending, now := s.now + dt, draws := s.draws, pins := s.pins, strapPins := ⟨a, b, c⟩
        stage := .load, cfg := tables, lines := s.pins.mapWith fun _ level => ⟨false, level⟩
        windows := tables.windows.mapWith fun _ p => Window.reset p.travel (s.now + dt)
        ctx := { Context.reset with ignition := if s.pins.ign = .high then .run else .off }
        mgmt := ⟨⟨0, 0, 0⟩, none, formBase tables.ids ⟨a, b, c⟩, ⟨a, b, c⟩, .powerOn⟩
        faults :=
          if blank then List.replicate 7 ⟨0, none, false⟩ ++ [⟨1, none, false⟩] ++ List.replicate 6 ⟨0, none, false⟩
          else List.replicate 14 ⟨0, none, false⟩
        store := ⟨s.store.image, s.store.lockCell, none, false, none, blank⟩ }
    (∀ t, s.store.image = .good t →
      exec (.powerOn dt a b c) s = .next (started (loadTables s.store.lockCell t) false)) ∧
    (s.store.image = .bad →
      exec (.powerOn dt a b c) s = .next (started (loadTables s.store.lockCell .factory) true))

/-- LOAD_COMPLETE begins LISTEN for 100 ms and has the lines and IGN followed, an edge mode giving no detection;
LISTEN_END begins POLL, in which every channel goes FAST and sends a first drive with no command, STOP and dark
lamps (R182, R183, R211, R212). -/
def Obligations.ListenAndPollBegin : Prop :=
  ∀ (s : State) (dt : Nat),
    (s.stage = .load → (∀ l, (s.cfg.lines.get l).mode = .rising ∨ (s.cfg.lines.get l).mode = .falling) →
      exec (.loadComplete dt) s = .next
        { s with
          now := s.now + dt, stage := .listen, listenEnd := some (s.now + dt + 100)
          lines := s.pins.mapWith fun l level => { s.lines.get l with level := level }
          ctx := { s.ctx with ignition := if s.pins.ign = .high then .run else .off } }) ∧
    (∀ d, s.stage = .listen → s.listenEnd = some d → (∀ c, (channel s c).rate = .off) →
      (∀ w, (window s w).lastDrive = .stop ∧ (window s w).coast = none ∧ (window s w).stopDue = false) →
      s.motion.slots = [] →
      exec (.listenEnd dt) s = .next
        { s with
          now := max (s.now + dt) d, stage := .poll, listenEnd := none
          channels := s.channels.mapWith fun _ ch =>
            { ch with
              rate := .fast, answered := false, cycleEnd := some (max (s.now + dt) d + 10)
              drive := some [0, 0, 0, 0, 0] } })

/-- The good report that leaves every channel reported or LOST ends POLL: SENSE takes every lock target from its
channel's first report, LOCKED where that shows no known state, and RUN is entered in AWAKE with nothing in flight
(R28, R212, R213). -/
def Obligations.LastReportEntersRun : Prop :=
  ∀ (s : State) (dt : Nat) (c : Closure) (record : List Byte) (rep : Report), s.stage = .poll →
    cycleOpen { s with now := s.now + dt } c = true → readReport record = some rep →
    (∀ d, d ≠ c → (channel s d).firstSense.isSome ∨ (channel s d).link = .lost) → s.group.crashKept = false →
    s.group.inFlight = none → s.group.slot = none → s.pins.ign = .high →
    ∃ u, exec (.nodeReport dt c record) s = .next u ∧ u.stage = .run ∧ u.ctx.state = .awake ∧ u.ctx.ignition = .run ∧
      u.group.inFlight = none ∧
      ∀ d, (closure u d).target =
        (match if d = c then some ((channel s c).firstSense.getD (rep.lockSensed, rep.childSensed))
          else (channel s d).firstSense with
        | some (.unlocked, _) => .unlocked
        | some (.deadlocked, _) => if d = .tg then .locked else .deadlocked
        | _ => .locked)

/-- A power loss ends the working records at once (the model's choice, log entry 30), shown of the snapshot, the
operation, the queued and held frames, the in-flight request and the references: the supply is off, and the image and
the lock cell remain, the image as far as a running save had written it, which is the row's own operand (the model's
choice, log entry 10; R209). -/
def Obligations.PowerLossLeavesTheImage : Prop :=
  ∀ (s : State) (dt : Nat) (extent : WriteExtent), s.stage ≠ .off →
    ∃ u, exec (.powerLoss dt extent) s = .next u ∧ u.stage = .off ∧ u.store.snapshot = none ∧
      u.store.lockCell = s.store.lockCell ∧ u.op.active = none ∧ u.tx = [] ∧ u.trap.held = [] ∧
      u.group.inFlight = none ∧ (∀ w, (window u w).normalized = false) ∧
      u.store.image =
        (match s.store.snapshot, extent with
        | none, _ => s.store.image
        | some _, .nothing => s.store.image
        | some _, .part => .bad
        | some t, .whole => .good t)

/-- RESTART is BUSY while a save runs or a park save is kept. Otherwise it begins LOAD again from the image, or from
the defaults where it is bad, with the OK response as the only queued frame, formed on the old B+1 (the model's
choice, log entry 43); it keeps the tokens, the crash hold, the Reference Profiles, the accepted counter of each fob
whose loaded serial equals its working one, the speed and the voltage, and each window's P, heat and hot flag, and drops
what was under way. That the loaded serial after a bad image is the default one is the model's reading (log entry 57;
R69, R110, R207, R210). -/
def Obligations.RestartKeepsWhatR210Keeps : Prop :=
  ∀ (s : State) (dt : Nat), Alert s → s.tx.length < 16 →
    (s.store.snapshot.isSome ∨ s.store.parkKept = true →
      AnswersActive (.restart dt) s (replied dt 0x0D .busy [] s)) ∧
    (∀ t, s.store.snapshot = none → s.store.parkKept = false →
      s.store.image = .good t ∨ s.store.image = .bad ∧ t = .factory →
      ∃ u, exec (.restart dt) s = .next u ∧ u.stage = .load ∧ u.ctx.state = .starting ∧
        u.tx = [responseFrame s 0x0D .ok []] ∧ u.group.tokens = s.group.tokens ∧
        u.group.crashHold = s.group.crashHold ∧ u.group.inFlight = none ∧ u.group.slot = none ∧
        u.cfg.profiles = s.cfg.profiles ∧ u.cfg.rules = t.rules ∧ u.ctx.speed = s.ctx.speed ∧
        u.ctx.speedFresh = none ∧ u.ctx.voltage = s.ctx.voltage ∧ u.ctx.voltageFresh = none ∧ u.op.active = none ∧
        u.trap.held = [] ∧ u.store.image = s.store.image ∧ u.store.lockCell = s.store.lockCell ∧
        (∀ c, (channel u c).rate = .off) ∧
        (∀ (i : Nat) (working stored : Fob), s.cfg.fobs[i]? = some working → t.fobs[i]? = some stored →
          ∃ f, u.cfg.fobs[i]? = some f ∧ f.serial = stored.serial ∧
            f.accepted = if working.serial = stored.serial then working.accepted else stored.accepted) ∧
        ∀ w, (window u w).state = .idle ∧ (window u w).heat = (window s w).heat ∧
          (window u w).hot = (window s w).hot ∧
          ((window s w).clearPending = false → (t.windows.get w).travel = (windowCfg s w).travel →
            (window u w).position = (window s w).position ∧
            (window u w).normalized = (window s w).normalized))

/-- SAVE is BUSY while a save runs or a park save is kept, and otherwise begins a save with a snapshot of the
working tables, in which a set lock cell's record stands for the working one. PARK_SAVE begins one where none runs, and
is kept while one runs, in every operating state of RUN (that the row hands over a save of its own, and in every state:
the model's reading, log entry 17). A save that completes with a good verify makes its snapshot the image and sets an
empty lock cell if the snapshot was locked; a failed one raises STORE_FAIL and leaves the lock cell; a kept park save then
begins at once. Neither changes the operating state (R190, R204, R208, R209). -/
def Obligations.SavesBeginAndComplete : Prop :=
  ∀ (s : State) (dt : Nat),
    let snapshot (cell : Option Protection) : Option Tables :=
      some { s.cfg with protection := match cell with | some p => p | none => s.cfg.protection }
    (Alert s → s.tx.length < 16 → s.store.snapshot.isSome ∨ s.store.parkKept = true →
      AnswersActive (.save dt) s (replied dt 0x0B .busy [] s)) ∧
    (Alert s → s.tx.length < 16 → s.store.snapshot = none → s.store.parkKept = false →
      AnswersActive (.save dt) s
        (replied dt 0x0B .ok [] { s with store := { s.store with snapshot := snapshot s.store.lockCell } })) ∧
    (Settled dt s → s.store.snapshot = none →
      Answers (.parkSave dt) s
        { s with
          now := s.now + dt
          store := { s.store with snapshot := snapshot s.store.lockCell, parkKept := false } }) ∧
    (Settled dt s → s.store.snapshot.isSome →
      Answers (.parkSave dt) s { s with now := s.now + dt, store := { s.store with parkKept := true } }) ∧
    (∀ image, Settled dt s → s.store.snapshot = some image →
      let cell :=
        match s.store.lockCell with
        | some p => some p
        | none => if image.protection.lock then some image.protection else none
      Answers (.saveComplete dt true) s
        { s with
          now := s.now + dt
          store := { s.store with
            image := .good image, parkKept := false, lastResult := some true, lockCell := cell
            snapshot := if s.store.parkKept then snapshot cell else none } } ∧
      (s.faults.length = 14 →
        ∃ u, exec (.saveComplete dt false) s = .next u ∧ u.store.lastResult = some false ∧
          u.store.snapshot = (if s.store.parkKept then snapshot s.store.lockCell else none) ∧
          u.store.lockCell = s.store.lockCell ∧
          (faultRecord u .storeFail).count = min 255 ((faultRecord s .storeFail).count + 1) ∧ u.cfg = s.cfg ∧
          u.ctx.state = s.ctx.state))

/-! ## Timers -/

/-- At the refill deadline the token count rises by 1, and a new deadline is set 5 s ahead while it is still below
12 (R5). -/
def Obligations.RefillRaisesTheTokens : Prop :=
  ∀ (s : State) (dt d : Nat), Calm s → s.group.refillDeadline = some d → s.group.tokens < 12 →
    Answers (.refillDeadline dt) s
      { s with
        now := max (s.now + dt) d
        group := { s.group with
          tokens := s.group.tokens + 1
          refillDeadline := if s.group.tokens + 1 < 12 then some (max (s.now + dt) d + 5000) else none } }

/-- Each of these deadlines takes away its own record and nothing else: the release deadline, the two key windows,
the timed pattern, a resync candidate, the hold, and the freshness of the speed and the voltage, whose values stay
(R24, R27, R39, R98, R106, R180). -/
def Obligations.DeadlinesTakeTheirOwnRecord : Prop :=
  ∀ (s : State) (dt d : Nat), Calm s →
    let at_ : State := { s with now := max (s.now + dt) d }
    (s.release.deadline = some d →
      Answers (.releaseDeadline dt) s { at_ with release := { s.release with deadline := none } }) ∧
    (s.group.driverFirst = some d →
      Answers (.driverFirstWindowExpiry dt) s { at_ with group := { s.group with driverFirst := none } }) ∧
    (∀ i, s.group.doubleLock = some ⟨i, d⟩ →
      Answers (.doubleLockWindowExpiry dt) s { at_ with group := { s.group with doubleLock := none } }) ∧
    (∀ p, s.timed = some ⟨p, d⟩ → Answers (.timedPatternDeadline dt) s { at_ with timed := none }) ∧
    (∀ (i : Fin 8) n r, s.fobRun[i.val]? = some r → r.candidate = some ⟨n, d⟩ →
      Answers (.candidateDeadline dt i) s { at_ with fobRun := s.fobRun.set i { r with candidate := none } }) ∧
    (∀ h, s.key.hold = some h → h.deadline = d →
      Answers (.holdDeadline dt) s { at_ with key := { s.key with hold := none } }) ∧
    (s.ctx.speedFresh = some d →
      Answers (.speedFreshnessDeadline dt) s { at_ with ctx := { s.ctx with speedFresh := none } }) ∧
    (s.ctx.voltageFresh = some d →
      Answers (.voltageFreshnessDeadline dt) s { at_ with ctx := { s.ctx with voltageFresh := none } })

/-- A drive deadline sends ABANDON and starts the 300 ms settle timer; a settle deadline away from the target gives
one retry with a new pulse, and the second puts the closure in FAULT with LOCK_FAULT and a FAST lamp for 10 s: the
request in flight goes on while another closure is busy, and completes where this was the last, an unlock arming
drive-away locking. A child lock likewise has its command once more and then goes to FAULT with CHILD_FAULT (R12, R13,
R14, R17, R32, R39). -/
def Obligations.LockDeadlinesRetryOnce : Prop :=
  ∀ (s : State) (dt d : Nat) (c : Closure), Calm s →
    let k := closure s c
    let now := max (s.now + dt) d
    let busy (e : Closure) : Prop :=
      (closure s e).phase = .driving ∨ (closure s e).phase = .settling ∨ (closure s e).phase = .retrying
    (k.driveDeadline = some d → k.phase = .driving →
      Answers (.driveDeadline dt c) s
        { s with
          now := now
          closures := s.closures.set c
            { k with
              phase := .settling, driveDeadline := none, settleDeadline := some (now + 300), command := .abandon
              pulseSteps := 0 } }) ∧
    (k.settleDeadline = some d → k.phase = .settling → atTarget k.sensed k.target = false →
      Answers (.settleDeadline dt c) s
        { s with
          now := now
          closures := s.closures.set c
            { k with
              phase := .retrying, driveDeadline := none, settleDeadline := none, command := pulseFor k.target
              pulseSteps := s.cfg.car.pulseSteps } }) ∧
    (∀ f, k.settleDeadline = some d → k.phase = .retrying → atTarget k.sensed k.target = false →
      s.group.inFlight = some f → f.request.releaseAfter = false → s.faults.length = 14 →
      (∃ e, e ≠ c ∧ busy e) ∨ s.group.slot = none →
      ∃ u, exec (.settleDeadline dt c) s = .next u ∧ (closure u c).phase = .fault ∧ (closure u c).target = k.target ∧
        u.timed = some ⟨.fast, now + 10000⟩ ∧
        (faultRecord u .lockFault).count = min 255 ((faultRecord s .lockFault).count + 1) ∧
        (faultRecord u .lockFault).last = some c ∧
        ((∃ e, e ≠ c ∧ busy e) → u.group = s.group) ∧
        ((∀ e, e ≠ c → ¬busy e) → u.group.inFlight = none ∧ u.group.tokens = s.group.tokens ∧
          (f.request.kind = .lockAll ∨ f.request.kind = .deadlockAll →
            u.group = { s.group with inFlight := none }) ∧
          (f.request.kind ≠ .lockAll → f.request.kind ≠ .deadlockAll → u.group.driveAwayArmed = true))) ∧
    (∀ r, (child s r).settleDeadline = some d → childThere (child s r) = false →
      ((child s r).retried = false →
        Answers (.childSettleDeadline dt r) s
          { s with
            now := now
            children := s.children.set r
              { child s r with
                phase := .driving, command := some (childCommandFor (child s r).target), settleDeadline := none
                retried := true } }) ∧
      ((child s r).retried = true → s.faults.length = 14 →
        ∃ u, exec (.childSettleDeadline dt r) s = .next u ∧ (child u r).phase = .fault ∧
          (faultRecord u .childFault).count = min 255 ((faultRecord s .childFault).count + 1)))

/-- The relock timer's expiry locks all closures with source AUTO_RELOCK, and the pending request, of whatever kind and
from whatever source, is actuated like one that arrives, once it can be taken, with its own source and release-after
flag (R8, R11, R22). That the row PENDING_REQUEST_TAKEN takes one which the step before left is the model's choice (log
entry 6). -/
def Obligations.RelockAndPendingAreActuated : Prop :=
  ∀ (s : State) (dt d : Nat),
    let all := [Closure.fl, .fr, .rl, .rr, .tg]
    let emptied : State := { s with group := { s.group with slot := none } }
    (LockReady s → s.group.relockTimer = some ⟨d, .locked⟩ → SomeToDrive all (fun _ => .locked) s →
      AnswersActive (.relockDeadline dt) s
        { lockedBy (max (s.now + dt) d - s.now) ⟨.lockAll, .autoRelock, false⟩ all (fun _ => .locked) s with
          now := max (s.now + dt) d }) ∧
    (∀ r, LockReady emptied → s.group.slot = some r → r.kind ≠ .crashUnlock →
      r.source ≠ .autoRelock ∨ s.group.relockTimer = none → Drives r.kind s →
      Answers (.pendingRequestTaken dt) s { lockTaken dt r emptied with now := s.now + dt })

/-- The retained deadline becomes absent when it passes, and with the ignition OFF every held switch motion and
entry then ends RELEASED; the normalization hold takes the reference at the top; the run-time limit stops the motor
with RUNTIME and raises that class (R51, R56 C, R62). -/
def Obligations.WindowDeadlinesEndTheMotion : Prop :=
  ∀ (s : State) (dt d : Nat),
    (Calm s → s.motion.retained = some d → s.stage = .run →
      Answers (.retainedDeadline dt) s
        { s with now := max (s.now + dt) d, motion := { s.motion with retained := none } }) ∧
    (s.stage = .run → s.ctx.ignition = .off → s.motion.retained = some d →
      ∃ u, exec (.retainedDeadline dt) s = .next u ∧ u.motion.retained = none ∧
        ∀ w, let x := window s w
          x.held = true → x.origin = some .ownSwitch ∨ x.origin = some .driverPack →
          x.state = .waiting ∨ x.state = .movingManual ∨ x.state = .movingAuto →
          (window u w).state = .idle ∧ (window u w).lastOutcome = some .released) ∧
    (∀ w, let x := window s w
      Calm s → x.normHold = some d → x.state = .movingManual → x.origin = some .ownSwitch →
      ∃ u, exec (.normalizationHoldDeadline dt w) s = .next u ∧ (window u w).position = 0 ∧
        (window u w).normalized = true ∧ (window u w).requested = 0 ∧ (window u w).state = .idle ∧
        (window u w).lastOutcome = some .reached ∧ (window u w).normHold = none) ∧
    (∀ w, let x := window s w
      Calm s → x.runStart = some d → x.state = .movingManual ∨ x.state = .movingAuto ∨ x.state = .reversing →
      s.faults.length = 14 →
      ∃ u, exec (.runTimeLimit dt w) s = .next u ∧ u.now = max (s.now + dt) (d + 8000) ∧
        (window u w).state = .idle ∧ (window u w).lastOutcome = some .runtime ∧
        (faultRecord u .runtime).count = min 255 ((faultRecord s .runtime).count + 1))

/-- A lease deadline aborts the operation with LEASE_LOST; a search deadline closes its slot with NO_KEY, issues
nothing and sends no notice; a trap expiry drops the frame with an EXPIRED notice (R125, R136, R156). -/
def Obligations.LeaseSearchAndTrapExpire : Prop :=
  ∀ (s : State) (dt d : Nat), Steady s →
    (∀ op, s.op.active = some op → op.lease = some d → op.abortCause = none → s.group.crashHold = none →
      ∃ u, exec (.leaseDeadline dt) s = .next u ∧ u.op.active = none ∧
        u.op.lastOp = some
          { descriptor := op.descriptor, kind := op.kind, source := op.source, outcome := some .leaseLost
            steps := op.steps.map fun x =>
              if x.status = .pending ∨ x.status = .issued then { x with status := .cancelled } else x } ∧
        u.group = s.group) ∧
    (∀ (n : Fin 4) x, s.search.slots[n.val]? = some (some x) → x.deadline = d →
      Answers (.searchDeadline dt n) s
        { s with
          now := max (s.now + dt) d
          search := { s.search with
            slots := s.search.slots.set n none, last := some ⟨x.closure, x.purpose, x.tag, .noKey, none⟩ } }) ∧
    (∀ (ticket : Byte) f rest, s.trap.held = f :: rest → f.ticket = ticket.toNat → f.expiry = d →
      (∀ g ∈ rest, g.ticket ≠ f.ticket) → s.tx.length < 16 →
      Answers (.trapExpiry dt ticket) s
        { s with
          now := max (s.now + dt) d, trap := { s.trap with held := rest }
          tx := s.tx ++ [⟨.other, s.mgmt.base + 2#11, trapNoticeData true f, false⟩] })

/-- The status period offers the four pages of one snapshot on S to S+3 in page order and moves 100 ms on; the idle
deadline parks the part, with the deep deadline and a park save, when the ignition is OFF and no awake hold is
present, and each channel then has the rate of its mode, its touch sense and its lamps; the deep deadline of a parked part
puts it in DEEP, where AUTO is OFF and FORCED_ON FAST (R38, R39, R162, R163, R176, R189, R190, R191). -/
def Obligations.StatusIdleAndDeepDeadlines : Prop :=
  ∀ (s : State) (dt d : Nat), s.stage = .run →
    (Steady s → s.nextStatus = some d → s.tx = [] →
      let page (k : Nat) (data : List Byte) : TxFrame :=
        ⟨.statusPage, s.cfg.frame.statusId + BitVec.ofNat 11 k, data, false⟩
      Answers (.statusPeriod dt) s
        { s with
          now := max (s.now + dt) d, nextStatus := some (d + 100)
          tx :=
            [page 0 (page0 s), page 1 (page1 s), page 2 (windowBytes s .fl ++ windowBytes s .fr),
             page 3 (windowBytes s .rl ++ windowBytes s .rr)] }) ∧
    (s.ctx.state = .awake → s.ctx.ignition = .off → awakeHold s = false → s.ctx.idleDeadline = d →
      0 < s.cfg.car.deepDelay →
      ∃ u, exec (.idleDeadline dt) s = .next u ∧ u.ctx.state = .parked ∧ u.ctx.parkedAt = some (max (s.now + dt) d) ∧
        u.ctx.deepDeadline = some (max (s.now + dt) d + s.cfg.car.deepDelay * 3600000) ∧ u.nextStatus = none ∧
        (∀ c, (channel u c).rate = chosenRate u c) ∧
        (∀ c,
          let lamps := nextDrive c s
          (s.cfg.modes.get c = .forcedOn → (channel u c).rate = .fast) ∧
          (s.cfg.modes.get c = .forcedOff → (channel u c).rate = .off) ∧
          (s.cfg.modes.get c = .auto →
            (channel u c).rate =
              if s.cfg.key.touch.get c = true ∨ lamps.lockLamp ≠ .off ∨ lamps.childLamp ≠ .off ∨
                  lamps.lockoutLamp ≠ .off then .slow
              else .off)) ∧
        u.group = s.group ∧ u.cfg = s.cfg ∧
        (s.store.snapshot = none → s.store.lockCell = none → u.store.snapshot = some s.cfg) ∧
        (s.store.snapshot.isSome → u.store.parkKept = true)) ∧
    (s.ctx.state = .parked → s.ctx.deepDeadline = some d → awakeHold s = false →
      ∃ u, exec (.deepDeadline dt) s = .next u ∧ u.ctx.state = .deep ∧ u.ctx.deepDeadline = none ∧ u.timed = none ∧
        (∀ c, s.cfg.modes.get c = .auto → (channel u c).rate = .off) ∧
        (∀ c, s.cfg.modes.get c = .forcedOn → (channel u c).rate = .fast) ∧ u.group = s.group ∧ u.cfg = s.cfg)

/-! ## The door links, the arbiter and the anti-pinch computation -/

/-- A report that cannot be read, that comes after its cycle's end or that is the second of its cycle changes nothing. A
good report is counted, kept as the last report and sets reported since AWAKE. Each change it shows is acted on at once,
and nothing else changes with it: a manual change of a lock, the end of a pulse and a lock that has come to its target,
with the completion of its request once the group is idle; a child lock's command, settling and drift; a press on an own
switch or the driver pack, under the inhibit as activity alone, and the release of a held entry; the central lock
switch, the key cylinder, the child and the lockout button; the handle events; an uplink payload; and the ripple of a
running motor, which takes an opening to its target, a reversal to its end and a closing motion into a pinch. The step
of an operation whose opening reaches its target is DONE, and a pinched one aborts its operation with PINCH_ABORT, every
other step CANCELLED and its motion stopped. The first report of a LOST node recovers it: its link is PRESENT, a window
in FAULT is IDLE, and no level gives an edge. A node fault flag that the last report had clear, or any in an edge-free
report, raises NODE_FAULT, and overtemperature stops the window's motion or entry. The whole of what a motor report does
to its window is that of `windowReport`, of which the statements on pinch and adaptation speak. The report that ends a
pulse begins the settle wait even where it shows the target already, and so does the one that ends a child lock's
DRIVING (the model's readings, log entries 48 and 61); the first known state after SENSE found none is a manual change,
whatever POLL had shown (the model's reading, log entry 58) (R4, R12 to R18, R21, R23, R30 to R33, R35, R36, R49, R52,
R62, R67, R68, R70, R80, R85, R86, R115, R117, R132, R133, R135, R159, R165, R168 to R172, R174, R175). -/
def Obligations.NodeReportIsTaken : Prop :=
  ∀ (s : State) (dt : Nat) (c : Closure) (record : List Byte),
    (Calm s →
      (readReport record = none ∨ (channel s c).answered = true ∨ (channel s c).cycleEnd = none ∨
        ∃ d, (channel s c).cycleEnd = some d ∧ d < s.now + dt) →
      Answers (.nodeReport dt c record) s { s with now := s.now + dt }) ∧
    -- the recovery of a LOST node
    (∀ rep, ReportDue dt c record rep s → (channel s c).link = .lost → (channel s c).comparable = false →
      (∀ w, windowClosure w = c → (window s w).state = .fault) → MotorRests c s →
      ∃ u, exec (.nodeReport dt c record) s = .next u ∧ (channel u c).link = .present ∧ (channel u c).missing = 0 ∧
        (channel u c).lastReport = some rep ∧ (channel u c).comparable = true ∧ (channel u c).reported = true ∧
        (channel u c).goodCount = min 65535 ((channel s c).goodCount + 1) ∧ (closure u c).sensed = seenLock c rep ∧
        (closure u c).latch = (if rep.ajar then .ajar else .shut) ∧
        (∀ w, window u w =
          if windowClosure w = c then
            { heatDecay (s.now + dt) (window s w) with
              state := .idle, overtemp := rep.overtemp
              suppressed := if rep.ownSwitch = .none then false else (window s w).suppressed }
          else window s w) ∧
        u.cfg = s.cfg ∧ (∀ d, (child u d).target = (child s d).target) ∧
        faultRecord u .linkLost = faultRecord s .linkLost) ∧
    -- the node faults
    (∀ rep, ReportDue dt c record rep s → s.faults.length = 14 →
      let old := if (channel s c).comparable then (channel s c).lastReport else none
      ∃ u, exec (.nodeReport dt c record) s = .next u ∧
        (ShowsFault rep old →
          (faultRecord u .nodeFault).count = min 255 ((faultRecord s .nodeFault).count + 1) ∧
            (faultRecord u .nodeFault).last = some c) ∧
        (¬ShowsFault rep old → faultRecord u .nodeFault = faultRecord s .nodeFault) ∧
        (∀ w, windowClosure w = c → rep.overtemp = true →
          (window u w).overtemp = true ∧ ((window u w).state = .idle ∨ (window u w).state = .fault) ∧
            (let reported := window (windowReport w rep { s with now := s.now + dt }) w
             reported.state = .waiting ∨ reported.state = .movingManual ∨ reported.state = .movingAuto ∨
                reported.state = .reversing →
              (window u w).state = .idle ∧ (window u w).lastOutcome = some .stopped))) ∧
    (∀ rep old, ReportComes dt c record rep old s →
      let k := closure s c
      let seen := seenLock c rep
      let now := s.now + dt
      let taken := reportTaken dt c rep s
      let answers (t : State) : Prop := Answers (.nodeReport dt c record) s t
      let acts (t : State) : Prop := AnswersActive (.nodeReport dt c record) s t
      let withLock (x : ClosureLock) : State := { taken with closures := s.closures.set c x }
      let busy (e : Closure) : Prop :=
        (closure s e).phase = .driving ∨ (closure s e).phase = .settling ∨ (closure s e).phase = .retrying
      let resting : Prop := s.group.inFlight = none ∧ s.group.slot = none
      let unpressed : Prop := c = .tg ∨ levels rep = levels old
      let rearRest : Prop := ∀ d, (window s (rearWindow d)).state = .idle ∨ (window s (rearWindow d)).state = .fault
      -- the lock
      (ChildUnmoved c rep s → MotorRests c s → unpressed → Untouched rep →
        (LockUnmoved c rep s → (resting ∨ ∃ e, e ≠ c ∧ busy e) → answers taken) ∧
        (∀ target, k.phase = .idle → resting → k.sensed ≠ seen ∨ k.senseWaits = true →
          (seen = .unlocked ∧ target = .unlocked ∨ seen = .locked ∧ target = .locked ∨
            seen = .deadlocked ∧ target = .deadlocked) →
          answers
            (withLock { k with sensed := seen, target := target, lastSource := .manual, senseWaits := false })) ∧
        (k.driveDeadline.isSome → rep.pulseActive = false → k.phase = .driving ∨ k.phase = .retrying →
          answers
            (withLock
              { k with
                sensed := seen, senseWaits := k.senseWaits && (seen == .between || seen == .unknown)
                phase := if k.phase = .driving then .settling else .retrying
                driveDeadline := none, settleDeadline := some (now + 300) })) ∧
        (k.phase = .settling ∨ k.phase = .retrying ∧ k.driveDeadline = none ∧ k.settleDeadline.isSome →
          atTarget seen k.target = true → k.command = .idle ∨ k.command = .abandon →
          let there : State :=
            withLock
              { k with
                sensed := seen, senseWaits := false, phase := .idle, driveDeadline := none, settleDeadline := none }
          ((∃ e, e ≠ c ∧ busy e) → answers there) ∧
          (∀ f, (∀ e, e ≠ c → ¬busy e) → s.group.inFlight = some f → s.group.slot = none →
            f.request.releaseAfter = false → f.request.kind ≠ .crashUnlock →
            let names := requestNames f.driver f.request.kind
            let rests : Prop := ∀ e ∈ names, e = c ∨ (closure s e).phase = .idle
            let outside : Prop :=
              f.request.source = .fob ∨ f.request.source = .passive ∨ f.request.source = .remote
            (f.request.kind = .lockAll ∨ f.request.kind = .deadlockAll →
              answers
                { there with
                  group := { s.group with inFlight := none }
                  timed := if rests then some ⟨.steady, now + 5000⟩ else s.timed }) ∧
            (f.request.kind ≠ .lockAll → f.request.kind ≠ .deadlockAll →
              answers
                { there with
                  group := { s.group with
                    inFlight := none, driveAwayArmed := true
                    relockTimer :=
                      if outside ∧ s.cfg.car.relockTime ≠ 0 ∧ anyAjar s = false ∧
                          (names.all fun e => !(closure s e).openedSinceUnlock) then
                        some ⟨now + s.cfg.car.relockTime * 1000, .locked⟩
                      else s.group.relockTimer } })))) ∧
      -- the child lock
      (∀ d, rearClosure d = c → LockUnmoved c rep s → resting → MotorRests c s → levels rep = levels old → Untouched rep →
        let x := child s d
        let y : ChildLock := { x with sensed := rep.childSensed }
        let withChild (x : ChildLock) : State := { taken with children := s.children.set d x }
        let there : Prop :=
          rep.childSensed = .engaged ∧ x.target = .engaged ∨ rep.childSensed = .disengaged ∧ x.target = .disengaged
        (x.phase = .driving → x.command = none →
          answers (withChild { y with phase := .settling, settleDeadline := some (now + 800) })) ∧
        (x.phase = .settling ∨ x.phase = .fault → there →
          answers (withChild { y with phase := .idle, command := none, settleDeadline := none })) ∧
        (x.phase = .idle → rep.childSensed ≠ .unknown → ¬there →
          answers
            (withChild
              { y with
                phase := .driving, retried := false, settleDeadline := none
                command := some (if x.target = .engaged then .engage else .disengage) }))) ∧
      (LocksRest dt c record rep old s →
        -- the switches and buttons
        (MotorRests c s → Untouched rep →
          (∀ w, windowClosure w = c → old.ownSwitch = .none →
            levels rep = levels { old with ownSwitch := rep.ownSwitch } → rep.ownSwitch ≠ .none →
            packLevel s c rep w = .none → PressFree w s →
            rep.ownSwitch = .up ∨ rep.ownSwitch = .upAuto ∨
              (window s w).position < min (windowCfg s w).travel (currentLimit s w) →
            acts (pressWaits w .ownSwitch rep.ownSwitch taken)) ∧
          (∀ w, windowClosure w = c → old.ownSwitch = .none →
            levels rep = levels { old with ownSwitch := rep.ownSwitch } → rep.ownSwitch ≠ .none → ¬Uninhibited w s →
            acts taken) ∧
          (∀ w level, c = driverClosure s → old.pack.get w = .none → level ≠ .none →
            levels rep = levels { old with pack := old.pack.set w level } → ownLevel s c rep w = .none →
            WindowFree w s →
            level = .up ∨ level = .upAuto ∨
              (window s w).position < min (windowCfg s w).travel (currentLimit s w) →
            acts (pressWaits w .driverPack level taken)) ∧
          (∀ w, windowClosure w = c → old.ownSwitch ≠ .none → rep.ownSwitch = .none →
            levels rep = levels { old with ownSwitch := .none } → (window s w).suppressed = false → Uninhibited w s →
            (window s w).state = .waiting → (window s w).origin = some .ownSwitch → (window s w).held = true →
            acts
              { taken with
                windows := taken.windows.set w
                  { window taken w with
                    state := .idle, lastOutcome := some .released, origin := none, held := false }
                motion := { s.motion with
                  switchQueue := s.motion.switchQueue.filter (· ≠ w)
                  otherQueue := s.motion.otherQueue.filter (· ≠ w) } }) ∧
          (c = driverClosure s → LockReady s →
            (∀ edge kind, edge = .lock ∧ kind = .lockAll ∨ edge = .unlock ∧ kind = .unlockAll → Drives kind s →
              (old.central = .none → levels rep = levels { old with central := edge } →
                acts (lockTaken 0 ⟨kind, .insideSwitch, false⟩ taken)) ∧
              (old.keyCylinder = .none → levels rep = levels { old with keyCylinder := edge } →
                acts (lockTaken 0 ⟨kind, .keyCylinder, false⟩ taken)))) ∧
          (c = driverClosure s → rearRest →
            (old.childButton = false → levels rep = levels { old with childButton := true } →
              (∀ d, (child s d).phase = .idle ∨ (child s d).phase = .fault) →
              (∀ d, (channel s (rearClosure d)).link ≠ .lost ∧ s.cfg.modes.get (rearClosure d) ≠ .forcedOff) →
              acts
                { taken with
                  children := s.children.mapWith fun _ x =>
                    childAimed
                      (if (child s .rl).target = .engaged ∧ (child s .rr).target = .engaged then .disengaged
                        else .engaged) x }) ∧
            (old.lockoutButton = false → levels rep = levels { old with lockoutButton := true } →
              acts
                { taken with
                  cfg := { s.cfg with car := { s.cfg.car with lockout := !s.cfg.car.lockout } } }))) ∧
        -- the handle events and the uplink
        (MotorRests c s → unpressed → rep.uplink = none → s.cfg.key.passive = true →
          s.search.slots = [none, none, none, none] → s.search.tagCounter < 16 → s.tx.length < 16 →
          ∀ purpose,
            (c = .tg ∧ rep.releaseButton = true ∧ k.target ≠ .unlocked ∧ purpose = .tailgate ∨
              s.cfg.key.touch.get c = true ∧
                (c ≠ .tg ∧ rep.touchUnlock = true ∧ purpose = .unlock ∨
                  (c = .tg → rep.releaseButton = false) ∧ rep.touchUnlock = false ∧ rep.touchLock = true ∧
                    purpose = .lock)) →
            let x : SearchSlot :=
              ⟨c, purpose, s.search.tagCounter, now + s.cfg.key.searchSteps * 10, .handle⟩
            acts
              { taken with
                search := { s.search with
                  slots := [some x, none, none, none], tagCounter := (s.search.tagCounter + 1) % 16 }
                tx := s.tx ++ [⟨.other, s.cfg.key.searchId, searchRequestData x, false⟩] }) ∧
        (∀ data id, MotorRests c s → unpressed →
          (rep.touchUnlock = false ∧ rep.touchLock = false ∧ rep.releaseButton = false) → rep.uplink = some data →
          s.cfg.frame.uplinkIds.get c = some id → s.tx.length < 16 →
          answers { taken with tx := s.tx ++ [⟨.other, id, data, false⟩] }) ∧
        -- the running motor
        (∀ w, windowClosure w = c → levels rep = levels old → Untouched rep →
          let x := window s w
          let p := windowCfg s w
          let opened := min p.travel (x.position + rep.ripple)
          let u := windowReport w rep { s with now := now }
          answers
            { u with
              channels := taken.channels
              windows := u.windows.set w
                { window u w with
                  overtemp := false, suppressed := if rep.ownSwitch = .none then false else (window u w).suppressed } } ∧
          (x.state = .movingManual ∨ x.state = .movingAuto → x.direction = .down → x.lastDrive = .down →
            x.stopDue = false → x.clearPending = false → s.cfg.modes.get c ≠ .forcedOff →
            ∃ u, exec (.nodeReport dt c record) s = .next u ∧ (window u w).position = opened ∧
              (min x.requested (currentLimit s w) ≤ opened →
                (window u w).state = .idle ∧ (window u w).lastOutcome = some .reached ∧ (window u w).stopDue = true ∧
                  ∀ op, StepOut w op s → s.tx.length < 16 →
                    u.op = (stepEndedAs w .done op s).op ∧ u.tx = (stepEndedAs w .done op s).tx) ∧
              (opened < min x.requested (currentLimit s w) → rep.ripple ≠ 0 →
                (window u w).state = x.state ∧ (window u w).lastOutcome = x.lastOutcome ∧ u.motion = s.motion)) ∧
          (∀ target, x.state = .reversing → x.direction = .down → x.lastDrive = .down → x.stopDue = false →
            x.clearPending = false → x.reversalTarget = some target → target ≤ opened →
            ∃ u, exec (.nodeReport dt c record) s = .next u ∧ (window u w).state = .idle ∧
              (window u w).position = opened ∧ (window u w).lastOutcome = x.lastOutcome ∧
              (window u w).stopDue = true) ∧
          (x.state = .movingManual ∨ x.state = .movingAuto → x.direction = .up → x.lastDrive = .up →
            x.stopDue = false →
            p.blanking ≤ x.runCounter → p.blanking < 255 → s.ctx.voltageFresh = none → p.ceiling ≤ rep.current →
            ∃ u, exec (.nodeReport dt c record) s = .next u ∧ (window u w).state = .reversing ∧
              (window u w).direction = .down ∧ (window u w).lastOutcome = some .pinched ∧
              (window u w).lastPinchCause = some .current ∧ (window u w).position = x.position - rep.ripple ∧
              ∀ op, StepOut w op s →
                let last := endedOp op (some .pinchAbort) (stepsCancelled (stepsMarked w .pinched op.steps))
                u.op.active = none ∧ u.op.lastOp = some last ∧
                  (s.tx.length < 16 → operationNotice s last ∈ u.tx) ∧
                  ∀ y ∈ op.steps, y.window ≠ w → openStep y = true →
                    (window s y.window).origin = x.origin →
                    (window s y.window).state = .waiting ∨ (window s y.window).state = .movingAuto →
                    (window u y.window).state = .idle ∧ (window u y.window).lastOutcome = some .cancelled))))

/-- At a cycle end the next drive goes out, a missing report counted before it. The drive alone carries the prepared lock,
child and release commands and the head of the Pass Queue; a pulse starts its drive deadline and a release its 300 ms.
It carries the window's motor command, STOP at an end or a change of direction, with the motor start that a first UP or
DOWN makes and the slot that a STOP frees, and the lamp patterns. The third missing report in a row declares a node LOST:
its lock and latch become UNKNOWN, its window goes to FAULT, its Pass Queue is emptied, nothing stays prepared for it (a
release and an ABANDON too: the model's reading, log entry 60), its motor is stopped and LINK_LOST is raised (R12, R24,
R32, R38, R43, R58, R67, R71, R158, R165, R167, R173). -/
def Obligations.CycleEndSendsTheNextDrive : Prop :=
  ∀ (s : State) (dt d : Nat) (c : Closure), Steady s → (channel s c).cycleEnd = some d →
    (s.cfg.modes.get c ≠ .forcedOff →
      let now := max (s.now + dt) d
      let ch := channel s c
      let sent (ch' : Channel) : State := driveSent now ch' c { s with now := now }
      (ch.answered = true → Answers (.linkCycleEnd dt c) s (sent ch)) ∧
      (ch.answered = false → ch.link ≠ .lost → ch.missing < 2 →
        Answers (.linkCycleEnd dt c) s
          (sent { ch with missing := ch.missing + 1, missingCount := min 65535 (ch.missingCount + 1) })) ∧
      (ch.answered = false → ch.link = .lost →
        Answers (.linkCycleEnd dt c) s
          (sent { ch with missingCount := min 65535 (ch.missingCount + 1) }))) ∧
    ((channel s c).answered = false → (channel s c).link ≠ .lost → (channel s c).missing = 2 →
      s.group.inFlight = none → s.group.slot = none → s.op.active = none → s.faults.length = 14 →
      ∃ u, exec (.linkCycleEnd dt c) s = .next u ∧ (channel u c).link = .lost ∧ (channel u c).missing = 3 ∧
        (channel u c).lastReport = none ∧ (channel u c).reported = false ∧
        (channel u c).lossCount = min 65535 ((channel s c).lossCount + 1) ∧ (closure u c).sensed = .unknown ∧
        (closure u c).latch = .unknown ∧ (closure u c).target = (closure s c).target ∧ u.pass.get c = [] ∧
        (closure u c).command = .idle ∧ (c = .tg → u.release.prepared = false) ∧
        (∀ e, rearClosure e = c → (child u e).command = none ∧ (child u e).sensed = .unknown) ∧
        (∀ w, windowClosure w = c →
          (window u w).state = .fault ∧ (s.cfg.modes.get c ≠ .forcedOff → (window u w).lastDrive = .stop)) ∧
        (faultRecord u .linkLost).count = min 255 ((faultRecord s .linkLost).count + 1) ∧
        (faultRecord u .linkLost).last = some c)

/-- While both slots are taken nothing is granted. Otherwise the head of the queue, in which every switch entry stands
before every other, is granted once its channel has reported: it takes a slot and becomes MOVING_MANUAL where it is held
and MOVING_AUTO otherwise, its run time not yet begun. While its window is hot, unless it is a held closing entry, or its
node shows overtemperature, it is refused with HOT, and at a fresh voltage below 90 with LOW_SUPPLY; where nothing is left
to move it ends REACHED; all of these without a slot. The step of an operation is then SKIPPED or DONE (R46, R58, R59, R61,
R65, R66, R68, R132). Two points are the model's choice: a grant that completes at once takes no slot and leaves the pinch
flag (log entry 55), and a closing entry whose effective target is 0, whatever was requested, is granted and runs to the
end stop (log entry 62). -/
def Obligations.MotionGrantTakesASlot : Prop :=
  ∀ (s : State) (dt : Nat), Calm s → s.stage = .run →
    (2 ≤ s.motion.slots.length → Answers (.motionGrant dt) s { s with now := s.now + dt }) ∧
    (∀ w rest, s.motion.slots.length < 2 → s.motion.switchQueue ++ s.motion.otherQueue = w :: rest →
      (channel s (windowClosure w)).reported = true → (window s w).state = .waiting →
      let x := heatRest (s.now + dt) (window s w)
      let effective := min x.requested (currentLimit s w)
      let unqueued : Motion :=
        { s.motion with
          switchQueue := s.motion.switchQueue.filter (· ≠ w), otherQueue := s.motion.otherQueue.filter (· ≠ w) }
      let hot : Prop := x.hot = true ∧ ¬(x.held = true ∧ x.direction = .up) ∨ x.overtemp = true
      let low : Prop := s.ctx.voltage < 90 ∧ ∃ d ∈ s.ctx.voltageFresh, s.now + dt ≤ d
      let idle (y : Window) : State :=
        { s with now := s.now + dt, motion := unqueued, windows := s.windows.set w { y with state := .idle } }
      let refused (cause : WindowRefusal) : State :=
        idle { x with lastRefusal := some cause, origin := none, held := false }
      let reached : State := idle { x with lastOutcome := some .reached, origin := none, held := false }
      let answers (t : State) : Prop := Answers (.motionGrant dt) s t
      let ends (status : StepStatus) (t : State) : Prop :=
        (x.origin ≠ some .operation → x.origin ≠ some .fobOperation → answers t) ∧
        (∀ op, StepOut w op s → s.tx.length < 16 → answers (stepEndedAs w status op t))
      (hot → ends .skipped (refused .hot)) ∧
      (¬hot → low → ends .skipped (refused .lowSupply)) ∧
      (¬hot → ¬low → LeftToMove x.direction effective x.position →
        answers
          { s with
            now := s.now + dt
            windows := s.windows.set w
              { x with
                state := if x.held then .movingManual else .movingAuto, runStart := none, pinchFlag := false }
            motion := { unqueued with slots := s.motion.slots ++ [⟨w, false⟩] } }) ∧
      (¬hot → ¬low → ¬LeftToMove x.direction effective x.position → ends .done reached))

/-- A report of a closing window whose run is past blanking pinches it with CURRENT when the compensated current is
at I_max or above, and, on a normalized window within S..H, with EXCESS after D reports above profile and threshold
or with BLOCK after two reports without ripple. The window then reverses toward P + B and PINCH is raised. EXCESS and BLOCK
outside S..H, and on an unnormalized window, do not pinch. That CURRENT pinches also where the same report completes a block
in the top margin, which alone is the end stop, is the model's reading (log entry 63; R72 to R83, R85). -/
def Obligations.PinchReversesTheWindow : Prop :=
  ∀ (s : State) (w : WindowId) (rep : Report),
    let p := windowCfg s w
    let x := window s w
    let fresh (deadline : Option Nat) : Prop := ∃ d, deadline = some d ∧ s.now ≤ d
    ∀ voltage margin : Nat,
      (fresh s.ctx.voltageFresh → voltage = max 60 (min 180 s.ctx.voltage)) →
      (¬fresh s.ctx.voltageFresh → voltage = 135) →
      (fresh s.ctx.speedFresh ∧ s.ctx.speed < 20 ∧ fresh s.ctx.voltageFresh → margin = 0) →
      (¬(fresh s.ctx.speedFresh ∧ s.ctx.speed < 20 ∧ fresh s.ctx.voltageFresh) → margin = p.margin) →
      let position := x.position - rep.ripple
      let current := min 255 ((rep.current * 135 + voltage / 2) / voltage)
      let profile := (s.cfg.profiles.get w).getD (min 15 (position * 16 / p.travel)) 0
      let above := if profile + (p.tBase + margin) < current then min 255 (x.debounce + 1) else 0
      let zeros := if rep.ripple = 0 then min 255 (x.zeroCount + 1) else 0
      let inSpan := x.normalized = true ∧ p.topMargin ≤ position ∧ position ≤ min p.span p.travel
      let u := windowReport w rep s
      (x.state = .movingManual ∨ x.state = .movingAuto) → x.direction = .up → x.lastDrive = .up → x.stopDue = false →
      p.blanking ≤ x.runCounter → p.blanking < 255 → s.faults.length = 14 →
      (p.ceiling ≤ current ∨ inSpan ∧ (p.debounce ≤ above ∨ 2 ≤ zeros) →
        (window u w).state = .reversing ∧ (window u w).direction = .down ∧
          (window u w).lastOutcome = some .pinched ∧ (window u w).pinchFlag = true ∧
          (window u w).position = position ∧ (window u w).lastPinchPosition = position ∧
          (window u w).pinchCount = min 255 (x.pinchCount + 1) ∧
          (window u w).lastPinchCause =
            some (if p.ceiling ≤ current then .current else if p.debounce ≤ above then .excess else .block) ∧
          (window u w).reversalTarget =
            (if x.normalized then some (min p.travel (position + min p.backOff p.travel)) else none) ∧
          (window u w).reversalRipple = 0 ∧ (window u w).normHold = none ∧
          (x.origin ≠ some .operation → x.origin ≠ some .fobOperation → u.motion = s.motion) ∧
          (faultRecord u .pinch).count = min 255 ((faultRecord s .pinch).count + 1) ∧
          (faultRecord u .pinch).last = some (windowClosure w)) ∧
      (¬(p.ceiling ≤ current ∨ inSpan ∧ (p.debounce ≤ above ∨ 2 ≤ zeros)) →
        (window u w).pinchCount = x.pinchCount ∧ (window u w).state ≠ .reversing)

/-- The end stop of a normalized run that started at P = 200 or above moves each zone that holds a sample by
floor((m - R + 4) / 8), clamped to -4..+4, toward its sample, the zone clamped to 0..200. Zones without a sample
are unchanged, the maxima become absent, and the next save carries the adapted profile. That every such end stop is
adapted, with no question whether a pinch was taken since the motor start or the window was normalized then (R90 B and
D), is the model's reading (log entry 28; R90, R91). -/
def Obligations.AdaptationMovesEachZone : Prop :=
  ∀ (s : State) (w : WindowId) (z : Nat) (r : Nat) (m : Option Nat), z < 16 → (window s w).normalized = true →
    (window s w).clearPending = false → 200 ≤ (window s w).startPosition →
    (s.cfg.profiles.get w)[z]? = some r → (window s w).maxima[z]? = some m →
    let moved : Int :=
      match m with
      | none => r
      | some m =>
        let step := ((m : Int) - r + 4) / 8
        max 0 (min 200 (r + (if step < -4 then -4 else if 4 < step then 4 else step)))
    let u := endStop w s
    ((u.cfg.profiles.get w)[z]?.map fun n => (n : Int)) = some moved ∧ (window u w).maxima[z]? = some none ∧
      (savedTables u).profiles = u.cfg.profiles ∧ (window u w).position = 0

/-! ## Remote keys -/

/-- A first press 1 to W ahead of the fob's accepted counter is ACCEPTED: the counter is taken, a candidate dropped
and the hold begun. The same frame at its second arrival gives REPLAY, and so does any press that lies 0 or more
than 32768 ahead and completes no pair: it changes no counter, candidate or hold, issues no request and raises
REPLAY (R97, R99, R100, R105). -/
def Obligations.ReplayedTelegramActsOnNothing : Prop :=
  ∀ (s : State) (t : Telegram) (i : Nat) (f : Fob) (r : FobRun) (a : Nat), s.stage = .run →
    s.cfg.fobs[i]? = some f → s.fobRun[i]? = some r → f.state = .active → f.remoteAllowed = true →
    f.serial = t.serial → f.accepted = some a →
    (∀ j g, j < i → s.cfg.fobs[j]? = some g → g.state ≠ .empty → g.serial ≠ t.serial) → t.repeatNumber = 0 →
    t.counter < 1048576 → a < 1048576 → s.faults.length = 14 →
    let ahead := (t.counter + 1048576 - a) % 1048576
    let u := takeTelegram t s
    (1 ≤ ahead → ahead ≤ s.cfg.key.forwardWindow →
      u.cfg = { s.cfg with fobs := s.cfg.fobs.set i { f with accepted := some t.counter } } ∧
      u.fobRun = s.fobRun.set i ⟨none, t.batteryLow⟩ ∧
      u.key.hold = some ⟨i, t.button, t.counter, 0, false, s.now + 300, false⟩ ∧
      u.key.lastTelegram = some ⟨t.serial, t.button, 0, some i, .accepted⟩ ∧
      (takeTelegram t u).key.lastTelegram = some ⟨t.serial, t.button, 0, some i, .replay⟩ ∧
      (takeTelegram t u).cfg = u.cfg ∧ (takeTelegram t u).group = u.group) ∧
    ((ahead = 0 ∨ 32768 < ahead) → s.cfg.key.forwardWindow ≤ 255 →
      (∀ n d, r.candidate = some ⟨n, d⟩ → d < s.now ∨ t.counter ≠ (n + 1) % 1048576) →
      u.cfg = s.cfg ∧ u.fobRun = s.fobRun ∧ u.key.hold = s.key.hold ∧ u.group = s.group ∧
        u.closures = s.closures ∧ u.windows = s.windows ∧ u.op = s.op ∧ u.ctx = s.ctx ∧
        u.key.lastTelegram = some ⟨t.serial, t.button, 0, some i, .replay⟩ ∧
        (faultRecord u .replay).count = min 255 ((faultRecord s .replay).count + 1))

/-! ## The body bus -/

/-- A body frame that no entry matches is dropped under a Default Disposition of DROP and counted. Otherwise the
first entry that matches decides it, and its hit count rises: DROP drops it; CONTEXT writes the extracted and
clamped speed or voltage with 1000 ms of freshness; TRAP holds it for 2000 ms with a ticket and a HELD notice, or
raises TRAP_OVERFLOW when four are held; PASS copies it to each queue of its mask whose node is not LOST and whose channel
is not FORCED_OFF, and raises PASS_OVERFLOW for a full one; a Default Disposition of PASS copies it likewise. An entry with the
wake flag wakes a part in PARKED or DEEP with cause FRAME, and one with the keep-awake flag is an activity event; an entry
with neither leaves a resting part as it is. REQUEST hands on the lock, release,
window or operation request of its argument, from BODY or REMOTE as its tag says, a crash unlock as CRASH. SEARCH closes
the slot of the response's tag: a fob outside unlocks, locks or releases, a fob inside refuses the lock with KEY_INSIDE,
none gives NO_KEY, an error MODULE_ERROR, and a tag that no slot has raises LATE. FOB takes the telegram: an accepted
press takes its counter, begins the hold and acts on its button, and a counted repeat moves the hold, starts the comfort
operation at the repeat 8 unless comfort allowed was cleared during the hold, and renews its lease. A CONTEXT speed that
rises from a fresh value below the Drive-Away Speed to it or above, with all latches SHUT and drive-away armed, disarms it
and is a LOCK_ALL with source DRIVE_AWAY (R23, R95, R97, R101 to R108, R113, R120 to R124, R126, R130, R136, R145 to R147,
R149 to R152, R154, R158, R180). -/
def Obligations.BodyFrameIsDecidedByTheFirstMatch : Prop :=
  ∀ (s : State) (dt : Nat) (id : CanId) (data : List Byte), id ≠ s.mgmt.base → data.length ≤ 8 →
    let frameMatches (r : Rule) : Prop :=
      r.valid = true ∧ id &&& r.mask = r.base &&& r.mask ∧ r.minLength ≤ data.length
    let decides (i : Nat) (r : Rule) : Prop :=
      s.cfg.rules[i]? = some r ∧ frameMatches r ∧ ∀ j g, j < i → s.cfg.rules[j]? = some g → ¬frameMatches g
    (Steady s → (∀ r ∈ s.cfg.rules, ¬frameMatches r) →
      let unmatched : State :=
        { s with now := s.now + dt, counts := { s.counts with noMatch := min 65535 (s.counts.noMatch + 1) } }
      let mask := s.cfg.frame.defaultMask.toNat
      (s.cfg.frame.passDefault = false → Answers (.bodyFrameReceived dt id data) s unmatched) ∧
      (s.cfg.frame.passDefault = true → (∀ c, TakesCopy mask c s → (s.pass.get c).length < 2) →
        Answers (.bodyFrameReceived dt id data) s { unmatched with pass := passedTo mask ⟨id, data⟩ s })) ∧
    -- the flags of the deciding entry
    (∀ (i : Nat) (r : Rule), decides i r →
      (Steady s → r.keepAwake = true →
        ∃ u, exec (.bodyFrameReceived dt id data) s = .next u ∧ u.ctx.lastActivity = u.now ∧
          u.ctx.idleDeadline = idleDeadlineOf u) ∧
      (Asleep s → r.wake = true →
        ∃ u, exec (.bodyFrameReceived dt id data) s = .next u ∧ u.ctx.state = .awake ∧
          u.ctx.lastWake = some .frame ∧ u.ctx.wakeCount = min 65535 (s.ctx.wakeCount + 1) ∧
          u.ctx.deepDeadline = none ∧ u.ctx.lastActivity = u.now ∧
          ∀ c, (channel u c).reported = false ∧ (s.cfg.modes.get c ≠ .forcedOff → (channel u c).rate = .fast)) ∧
      (∀ h, Asleep s → Settled dt s → r.wake = false → r.action = .drop → s.counts.hits[i]? = some h →
        let hit : State :=
          { s with now := s.now + dt, counts := { s.counts with hits := s.counts.hits.set i (min 65535 (h + 1)) } }
        (r.keepAwake = true → AnswersActive (.bodyFrameReceived dt id data) s hit) ∧
        (r.keepAwake = false → exec (.bodyFrameReceived dt id data) s = .next hit))) ∧
    -- its action
    (∀ (i h : Nat) (r : Rule), Steady s → decides i r → s.counts.hits[i]? = some h →
      let n := r.argument.toNat
      let counted : State :=
        { s with now := s.now + dt, counts := { s.counts with hits := s.counts.hits.set i (min 65535 (h + 1)) } }
      let hit : State := if r.keepAwake then activity counted else counted
      let value := leValue data / 2 ^ (r.byteIndex * 8 + r.lowBit) % 2 ^ r.width * r.num / r.den
      (r.action = .drop → Answers (.bodyFrameReceived dt id data) s hit) ∧
      (r.action = .context → n % 2 = 1 →
        Answers (.bodyFrameReceived dt id data) s
          { hit with
            ctx := { s.ctx with
              voltage := max 60 (min 180 value), voltageFresh := some (s.now + dt + 1000) } }) ∧
      (r.action = .context → n % 2 = 0 →
        let limit := s.cfg.car.driveAwaySpeed
        let told : State :=
          { hit with ctx := { s.ctx with speed := min 255 value, speedFresh := some (s.now + dt + 1000) } }
        let rises : Prop :=
          limit ≠ 0 ∧ s.ctx.speed < limit ∧ limit ≤ min 255 value ∧ (∃ d ∈ s.ctx.speedFresh, s.now + dt ≤ d) ∧
            (∀ c, (closure s c).latch = .shut) ∧ s.group.driveAwayArmed = true
        let disarmed : State := { told with group := { s.group with driveAwayArmed := false } }
        let acts (t : State) : Prop := AnswersActive (.bodyFrameReceived dt id data) s t
        (¬rises → Answers (.bodyFrameReceived dt id data) s told) ∧
        (rises → LockReady s →
          (Drives .lockAll s → acts (lockTaken 0 ⟨.lockAll, .driveAway, false⟩ disarmed)) ∧
          (¬Drives .lockAll s → acts (lockCompleted 0 ⟨.lockAll, .driveAway, false⟩ disarmed))) ∧
        (rises → (∀ c, (closure s c).phase = .idle ∨ (closure s c).phase = .fault) → s.group.inFlight = none →
          s.group.slot = none → (∀ c, (channel s c).reported = true) → s.group.crashHold.isSome →
          acts { disarmed with group := { disarmed.group with lastRefusal := some .crashHold } })) ∧
      (r.action = .trap → s.trap.held.length < 4 → s.tx.length < 16 →
        (∀ g ∈ s.trap.held, g.ticket ≠ s.trap.ticketCounter) →
        let f : HeldFrame := ⟨s.trap.ticketCounter, i, id, data, s.now + dt + 2000⟩
        Answers (.bodyFrameReceived dt id data) s
          { hit with
            trap := ⟨s.trap.held ++ [f], (s.trap.ticketCounter + 1) % 256⟩
            tx := s.tx ++ [⟨.other, s.mgmt.base + 2#11, trapNoticeData false f, false⟩] }) ∧
      (r.action = .trap → 4 ≤ s.trap.held.length → s.faults.length = 14 →
        ∃ u, exec (.bodyFrameReceived dt id data) s = .next u ∧ u.trap = s.trap ∧ u.counts = hit.counts ∧
          (faultRecord u .trapOverflow).count = min 255 ((faultRecord s .trapOverflow).count + 1)) ∧
      (r.action = .pass → (∀ c, TakesCopy n c s → (s.pass.get c).length < 2) →
        Answers (.bodyFrameReceived dt id data) s { hit with pass := passedTo n ⟨id, data⟩ s }) ∧
      (∀ c, r.action = .pass → TakesCopy n c s → 2 ≤ (s.pass.get c).length → (∀ d, d ≠ c → ¬TakesCopy n d s) →
        s.faults.length = 14 →
        ∃ u, exec (.bodyFrameReceived dt id data) s = .next u ∧ u.pass = s.pass ∧ u.counts = hit.counts ∧
          (faultRecord u .passOverflow).count = min 255 ((faultRecord s .passOverflow).count + 1) ∧
          (faultRecord u .passOverflow).last = some c) ∧
      (r.action = .request →
        let source : LockSource := if n / 512 % 2 = 1 then .body else .remote
        let acts (t : State) : Prop := AnswersActive (.bodyFrameReceived dt id data) s t
        (∀ kind, LockReady s → Drives kind s →
          (n % 16, kind) ∈
            [(1, LockKind.lockAll), (2, .unlockAll), (3, .unlockDriver), (4, .deadlockAll), (5, .unlockTailgate)] →
          acts (lockTaken 0 ⟨kind, source, false⟩ hit)) ∧
        (n % 16 = 6 → (closure s .tg).target ≠ .unlocked →
          acts { hit with group := { s.group with lastRefusal := some .locked } }) ∧
        (n % 16 = 7 →
          ∃ u, exec (.bodyFrameReceived dt id data) s = .next u ∧ u.group.crashHold = some (s.now + dt) ∧
            u.group.tokens = s.group.tokens ∧ u.op.active = none ∧
            ∀ c, (closure u c).target = .unlocked ∧ (closure u c).lastSource = .crash) ∧
        (∀ w, n % 16 = 11 → n / 16 % 16 = 2 ^ windowCode w → WindowFree w s →
          let requested := (min 100 value * (windowCfg s w).travel + 50) / 100
          ((window s w).position < min requested (currentLimit s w) → requested ≤ (windowCfg s w).travel →
            acts (waitingFor (s.now + dt) w requested .down .body hit)) ∧
          (requested = 0 ∨ requested < (window s w).position → requested ≤ (windowCfg s w).travel →
            acts (waitingFor (s.now + dt) w requested .up .body hit))) ∧
        (∀ w, n % 16 = 12 → n / 16 % 16 = 2 ^ windowCode w → (window s w).clearPending = false →
          (window s w).state = .movingManual ∨ (window s w).state = .movingAuto →
          (window s w).origin = some .body ∨ (window s w).origin = some .management →
          s.cfg.modes.get (windowClosure w) ≠ .forcedOff →
          acts (endedRunning w .stopped hit)) ∧
        (n % 16 = 13 → s.group.crashHold.isSome → s.op.active = none → s.cfg.descriptors.length = 4 →
          acts { hit with op := { s.op with lastStart := some ⟨.crashHold, n / 1024 % 4, .body⟩ } }) ∧
        (n % 16 = 14 → s.op.active = none → acts hit)) ∧
      (∀ x, r.action = .search → readSearchResponse data = some x →
        let answers (t : State) : Prop := Answers (.bodyFrameReceived dt id data) s t
        let key (bits : Nat) (k : Nat) : Prop :=
          bits / 2 ^ k % 2 = 1 ∧ ∃ f, s.cfg.fobs[k]? = some f ∧ f.state = .active ∧ f.passiveAllowed = true
        (∀ m y, OnlySlot m y s → y.tag = x.tag →
          let closed (outcome : SearchOutcome) (who : Option Nat) : State :=
            { hit with
              search := { s.search with
                slots := s.search.slots.set m none, last := some ⟨y.closure, y.purpose, y.tag, outcome, who⟩ } }
          let notice (outcome : SearchOutcome) (who : Option Nat) : TxFrame :=
            ⟨.other, s.mgmt.base + 2#11, searchNoticeData ⟨y.closure, y.purpose, y.tag, outcome, who⟩, false⟩
          (x.error = true → s.tx.length < 16 →
            answers { closed .moduleError none with tx := s.tx ++ [notice .moduleError none] }) ∧
          (x.error = false →
            ((∀ k, ¬key x.outside k) → (y.purpose = .lock → ∀ k, ¬key x.inside k) → answers (closed .noKey none)) ∧
            (∀ k f kind, key x.outside k → (∀ j, j < k → ¬key x.outside j) → s.cfg.fobs[k]? = some f →
              (y.purpose = .lock → ∀ j, ¬key x.inside j) → LockReady s → Drives kind s →
              (y.purpose = .unlock ∧ y.closure = driverClosure s ∧ f.mode = .driverFirst ∧ kind = .unlockDriver ∨
                y.purpose = .unlock ∧ (y.closure ≠ driverClosure s ∨ f.mode = .all) ∧ kind = .unlockAll ∨
                y.purpose = .tailgate ∧ kind = .unlockTailgate ∨ y.purpose = .lock ∧ kind = .lockAll) →
              AnswersActive (.bodyFrameReceived dt id data) s
                (lockTaken 0 ⟨kind, .passive, y.purpose == .tailgate⟩ (closed .keyOutside (some k)))) ∧
            (∀ k, y.purpose = .lock → key x.inside k → (∀ j, j < k → ¬key x.inside j) → s.tx.length < 16 →
              answers
                { closed .keyInside (some k) with
                  tx := s.tx ++ [notice .keyInside (some k)]
                  group := { s.group with lastRefusal := some .keyInside }
                  timed := some ⟨.fast, s.now + dt + 3000⟩ }))) ∧
        ((∀ y ∈ s.search.slots, ∀ z, y = some z → z.tag ≠ x.tag) → s.faults.length = 14 →
          ∃ u, exec (.bodyFrameReceived dt id data) s = .next u ∧ u.search = s.search ∧ u.group = s.group ∧
            (faultRecord u .late).count = min 255 ((faultRecord s .late).count + 1))) ∧
      (∀ t, r.action = .fob → readTelegram data = some t →
        Answers (.bodyFrameReceived dt id data) s (takeTelegram t hit) ∧
        (∀ (k : Nat) (f : Fob) (q : FobRun) (a : Nat), s.cfg.fobs[k]? = some f → s.fobRun[k]? = some q →
          f.state = .active → f.remoteAllowed = true → f.serial = t.serial → f.accepted = some a →
          (∀ j g, j < k → s.cfg.fobs[j]? = some g → g.state ≠ .empty → g.serial ≠ t.serial) →
          t.counter < 1048576 → a < 1048576 →
          let ahead := (t.counter + 1048576 - a) % 1048576
          let noted (result : TelegramResult) (hold : Hold) : KeyRun :=
            { s.key with hold := some hold, lastTelegram := some ⟨t.serial, t.button, t.repeatNumber, some k, result⟩ }
          let late (d : Option Nat) : Prop := ∀ e, d = some e → e < s.now + dt
          (t.repeatNumber = 0 → 1 ≤ ahead → ahead ≤ s.cfg.key.forwardWindow → LockReady s →
            let pressed : State :=
              { hit with
                cfg := { s.cfg with fobs := s.cfg.fobs.set k { f with accepted := some t.counter } }
                fobRun := s.fobRun.set k ⟨none, t.batteryLow⟩
                key := noted .accepted ⟨k, t.button, t.counter, 0, false, s.now + dt + 300, false⟩ }
            ∀ kind, Drives kind s →
              let taken (release : Bool) : State := lockTaken 0 ⟨kind, .fob, release⟩ pressed
              (t.button = .lock →
                (kind = .lockAll ∧ (∀ w, s.group.doubleLock = some w → w.fob ≠ k ∨ w.deadline < s.now + dt) ∨
                  kind = .deadlockAll ∧ ∃ w, s.group.doubleLock = some w ∧ w.fob = k ∧ s.now + dt ≤ w.deadline) →
                AnswersActive (.bodyFrameReceived dt id data) s
                  { taken false with
                    group := { (taken false).group with doubleLock := some ⟨k, s.now + dt + 1500⟩ } }) ∧
              (t.button = .unlock → f.mode = .all → kind = .unlockAll →
                AnswersActive (.bodyFrameReceived dt id data) s (taken false)) ∧
              (t.button = .unlock → f.mode = .driverFirst →
                (kind = .unlockDriver ∧ late s.group.driverFirst ∨
                  kind = .unlockAll ∧ ∃ e, s.group.driverFirst = some e ∧ s.now + dt ≤ e) →
                AnswersActive (.bodyFrameReceived dt id data) s
                  { taken false with
                    group := { (taken false).group with driverFirst := some (s.now + dt + 3000) } }) ∧
              (t.button = .tailgate → kind = .unlockTailgate →
                AnswersActive (.bodyFrameReceived dt id data) s (taken true))) ∧
          (∀ h, 0 < t.repeatNumber → t.counter = a → s.key.hold = some h → h.fob = k → h.button = t.button →
            h.counter = a → s.now + dt ≤ h.deadline → h.lastCounted < t.repeatNumber ∨ t.repeatNumber = 255 →
            let moved (started : Bool) : State :=
              { hit with
                fobRun := s.fobRun.set k { q with batteryLow := t.batteryLow }
                key := noted .repeatCounted
                  { h with lastCounted := t.repeatNumber, deadline := s.now + dt + 300, operationStarted := started } }
            let starts : Prop := h.lastCounted < 8 ∧ 8 ≤ t.repeatNumber
            (t.button = .tailgate ∨ h.operationStarted = false ∧ (f.comfortAllowed = false ∨ h.comfortCleared = true ∨ ¬starts) →
              Answers (.bodyFrameReceived dt id data) s (moved h.operationStarted)) ∧
            (∀ i d, starts → h.operationStarted = false → h.comfortCleared = false → f.comfortAllowed = true →
              t.button = .lock ∧ i = 0 ∨ t.button = .unlock ∧ i = 1 → s.cfg.descriptors[i]? = some d →
              d.enabled = false → s.group.crashHold = none → s.op.active = none →
              AnswersActive (.bodyFrameReceived dt id data) s
                { moved true with op := { s.op with lastStart := some ⟨.disabled, i, .fob k⟩ } }) ∧
            (∀ i op e, h.operationStarted = true → t.button = .lock ∧ i = 0 ∨ t.button = .unlock ∧ i = 1 →
              s.group.crashHold = none → s.op.active = some op → op.source = .fob k → op.descriptor = i →
              op.lease = some e → s.now + dt ≤ e →
              Answers (.bodyFrameReceived dt id data) s
                { moved true with
                  op := { s.op with active := some { op with lease := some (s.now + dt + 300) } } })))))

/-- BUS_OFF makes the port SILENT, raises its class and takes no frame from the queue; the port is ACTIVE again 250
ms later. While it is ACTIVE and nothing is sent, the first of the frames with the lowest identifier begins; an
acknowledged frame leaves the queue, and one whose attempt failed stays in its place (R141, R161). -/
def Obligations.TransmissionAndBusOff : Prop :=
  ∀ (s : State) (dt : Nat), Calm s →
    (s.stage = .run → s.port = .active → s.faults.length = 14 →
      ∃ u, exec (.busOff dt) s = .next u ∧ u.port = .silent (s.now + dt) ∧ (∀ f ∈ u.tx, f.started = false) ∧
        s.tx.length ≤ u.tx.length ∧
        (faultRecord u .busOff).count = min 255 ((faultRecord s .busOff).count + 1) ∧ u.cfg = s.cfg ∧
        u.group = s.group) ∧
    (∀ since, s.port = .silent since →
      Answers (.busOff dt) s { s with now := s.now + dt } ∧
      Answers (.beginTransmission dt) s { s with now := s.now + dt } ∧
      Answers (.portActiveReturn dt) s { s with now := max (s.now + dt) (since + 250), port := .active }) ∧
    (∀ before f after, s.stage = .run → s.port = .active → s.tx = before ++ f :: after →
      (∀ g ∈ s.tx, g.started = false) → (∀ g ∈ before, f.id < g.id) → (∀ g ∈ after, f.id ≤ g.id) →
      Answers (.beginTransmission dt) s
        { s with now := s.now + dt, tx := before ++ { f with started := true } :: after }) ∧
    Answers (.frameAcknowledged dt) s { s with now := s.now + dt, tx := s.tx.filter fun f => !f.started } ∧
    Answers (.transmissionFailed dt) s
      { s with now := s.now + dt, tx := s.tx.map fun f => { f with started := false } }

/-! ## The ignition and the wake lines -/

/-- RUN→OFF is activity and sets the retained deadline. OFF→RUN in AWAKE is activity, removes the retained deadline and
the relock timer, arms drive-away locking, ends a crash hold of 10 s or more, and changes nothing else; in PARKED or DEEP
it does the same and is a wake with cause IGNITION, which enters AWAKE with the channels FAST and none reported. A level
the ignition has already changes nothing (R20, R22, R23, R51, R182, R187, R192, R193). -/
def Obligations.IgnitionTransitionsAct : Prop :=
  ∀ (s : State) (dt : Nat),
    (Steady s → Answers (.ignitionTransition dt .run) s { s with now := s.now + dt, pins := s.pins.set .ign .high }) ∧
    (Steady s → s.cfg.car.retainedTime ≠ 0 →
      AnswersActive (.ignitionTransition dt .off) s
        { s with
          now := s.now + dt, pins := s.pins.set .ign .low, ctx := { s.ctx with ignition := .off }
          motion := { s.motion with retained := some (s.now + dt + s.cfg.car.retainedTime * 1000) } }) ∧
    (s.stage = .run → s.ctx.state = .awake → s.ctx.ignition = .off →
      (∀ c, (channel s c).rate = chosenRate s c) →
      AnswersActive (.ignitionTransition dt .run) s
        { s with
          now := s.now + dt, pins := s.pins.set .ign .high, ctx := { s.ctx with ignition := .run }
          motion := { s.motion with retained := none }
          group := { s.group with
            relockTimer := none, driveAwayArmed := true
            crashHold := s.group.crashHold.filter fun t => s.now + dt < t + 10000 } }) ∧
    (s.stage = .run → s.ctx.ignition = .off → s.ctx.state = .parked ∨ s.ctx.state = .deep →
      ∃ u, exec (.ignitionTransition dt .run) s = .next u ∧ u.ctx.ignition = .run ∧ u.ctx.state = .awake ∧
        u.ctx.lastWake = some .ignition ∧ u.ctx.wakeCount = min 65535 (s.ctx.wakeCount + 1) ∧
        u.ctx.deepDeadline = none ∧ u.ctx.lastActivity = s.now + dt ∧ u.nextStatus = some (s.now + dt + 100) ∧
        u.motion.retained = none ∧ u.group.relockTimer = none ∧ u.group.driveAwayArmed = true ∧
        u.group.tokens = s.group.tokens ∧ u.cfg = s.cfg ∧
        u.group.crashHold = s.group.crashHold.filter (fun t => s.now + dt < t + 10000) ∧
        ∀ c, (channel u c).reported = false ∧ (s.cfg.modes.get c ≠ .forcedOff → (channel u c).rate = .fast))

/-- A detection sets the line and its pin to the level at which its mode detects, and sets pending whether or not the line
is enabled and whatever the level was; in a level mode there is none while pending is set (the row's level is the model's
choice, log entry 18). On an enabled line it is activity, in PARKED a wake that names the line, and on a side door's line
it opens an UNLOCK search. A change of level that is no detection under the line's mode changes the level alone (R113,
R116, R183, R185, R192). -/
def Obligations.WakeLinesDetect : Prop :=
  ∀ (s : State) (dt : Nat) (l : WakeLine) (mode : LineMode), (s.cfg.lines.get l).mode = mode →
    let level : Level := if mode = .rising ∨ mode = .high then .high else .low
    let detects : Prop := mode = .rising ∨ mode = .falling ∨ (s.lines.get l).pending = false
    (Steady s →
      let seen : State :=
        { s with now := s.now + dt, pins := s.pins.set l level, lines := s.lines.set l ⟨true, level⟩ }
      (detects → (s.cfg.lines.get l).enable = false → Answers (.wakeLineDetection dt l) s seen) ∧
      (detects → (s.cfg.lines.get l).enable = true → l = .ign → AnswersActive (.wakeLineDetection dt l) s seen) ∧
      (¬detects → Answers (.wakeLineDetection dt l) s seen) ∧
      (∀ c, detects → (s.cfg.lines.get l).enable = true → l = .door c → c ≠ .tg → s.cfg.key.passive = true →
        s.search.slots = [none, none, none, none] → s.search.tagCounter < 16 → s.tx.length < 16 →
        let x : SearchSlot :=
          ⟨c, .unlock, s.search.tagCounter, s.now + dt + s.cfg.key.searchSteps * 10, .wakeLine⟩
        AnswersActive (.wakeLineDetection dt l) s
          { seen with
            search := { s.search with
              slots := [some x, none, none, none], tagCounter := (s.search.tagCounter + 1) % 16 }
            tx := s.tx ++ [⟨.other, s.cfg.key.searchId, searchRequestData x, false⟩] })) ∧
    (s.stage = .run → s.ctx.state = .parked → l = .ign → (s.cfg.lines.get l).enable = true → detects →
      0 < s.cfg.car.parkDelay →
      ∃ u, exec (.wakeLineDetection dt l) s = .next u ∧ u.ctx.state = .awake ∧
        u.ctx.lastWake = some (.wakeLine .ign) ∧ u.ctx.lastActivity = s.now + dt ∧ (u.lines.get l).pending = true ∧
        u.group = s.group ∧ u.cfg = s.cfg) ∧
    (∀ level : Level, Steady s →
      mode = .rising ∧ level = .low ∨ mode = .falling ∧ level = .high ∨ mode = .high ∧ level = .low ∨
        mode = .low ∧ level = .high →
      Answers (.wakeLineLevelChange dt l level) s
        { s with
          now := s.now + dt, pins := s.pins.set l level
          lines := s.lines.set l { s.lines.get l with level := level } })
end

