-- ==== Sys2Proof/Laws/Indexed.lean ====
section
/-!
SUPPORT. Reading after writing, for the records kept once per closure, window, rear door or wake line.
-/

namespace Sys2Proof.Machine

variable {α β : Type}

@[simp] theorem Five.get_set_same (v : Five α) (c : Closure) (a : α) : (v.set c a).get c = a := by cases c <;> rfl

theorem Five.get_set_other {c d : Closure} (h : d ≠ c) (v : Five α) (a : α) : (v.set c a).get d = v.get d := by
  cases c <;> cases d <;> first | rfl | exact absurd rfl h

@[simp] theorem Five.set_get (v : Five α) (c : Closure) : v.set c (v.get c) = v := by cases c <;> rfl

@[simp] theorem Five.set_set (v : Five α) (c : Closure) (a b : α) : (v.set c a).set c b = v.set c b := by
  cases c <;> rfl

@[simp] theorem Five.get_const (a : α) (c : Closure) : (Five.const a).get c = a := by cases c <;> rfl

@[simp] theorem Five.get_mapWith (f : Closure → α → β) (v : Five α) (c : Closure) :
    (v.mapWith f).get c = f c (v.get c) := by cases c <;> rfl

@[ext] theorem Five.ext_get {v w : Five α} (h : ∀ c, v.get c = w.get c) : v = w := by
  cases v; cases w
  have h1 := h .fl; have h2 := h .fr; have h3 := h .rl; have h4 := h .rr; have h5 := h .tg
  simp only [Five.get] at h1 h2 h3 h4 h5
  subst h1 h2 h3 h4 h5; rfl

@[simp] theorem Four.get_set_same (v : Four α) (w : WindowId) (a : α) : (v.set w a).get w = a := by cases w <;> rfl

theorem Four.get_set_other {w x : WindowId} (h : x ≠ w) (v : Four α) (a : α) : (v.set w a).get x = v.get x := by
  cases w <;> cases x <;> first | rfl | exact absurd rfl h

@[simp] theorem Four.set_get (v : Four α) (w : WindowId) : v.set w (v.get w) = v := by cases w <;> rfl

@[simp] theorem Four.set_set (v : Four α) (w : WindowId) (a b : α) : (v.set w a).set w b = v.set w b := by
  cases w <;> rfl

@[simp] theorem Four.get_const (a : α) (w : WindowId) : (Four.const a).get w = a := by cases w <;> rfl

@[simp] theorem Four.get_mapWith (f : WindowId → α → β) (v : Four α) (w : WindowId) :
    (v.mapWith f).get w = f w (v.get w) := by cases w <;> rfl

@[simp] theorem Two.get_set_same (v : Two α) (d : RearDoor) (a : α) : (v.set d a).get d = a := by cases d <;> rfl

theorem Two.get_set_other {d e : RearDoor} (h : e ≠ d) (v : Two α) (a : α) : (v.set d a).get e = v.get e := by
  cases d <;> cases e <;> first | rfl | exact absurd rfl h

@[simp] theorem Two.set_get (v : Two α) (d : RearDoor) : v.set d (v.get d) = v := by cases d <;> rfl

@[simp] theorem Two.set_set (v : Two α) (d : RearDoor) (a b : α) : (v.set d a).set d b = v.set d b := by
  cases d <;> rfl

@[simp] theorem Two.get_mapWith (f : RearDoor → α → β) (v : Two α) (d : RearDoor) :
    (v.mapWith f).get d = f d (v.get d) := by cases d <;> rfl

@[simp] theorem Six.get_set_same (v : Six α) (l : WakeLine) (a : α) : (v.set l a).get l = a := by
  cases l <;> simp [Six.get, Six.set]

theorem Six.get_set_other {l m : WakeLine} (h : m ≠ l) (v : Six α) (a : α) : (v.set l a).get m = v.get m := by
  cases l <;> cases m <;> simp_all [Six.get, Six.set, Five.get_set_other]

@[simp] theorem Six.get_mapWith (f : WakeLine → α → β) (v : Six α) (l : WakeLine) :
    (v.mapWith f).get l = f l (v.get l) := by cases l <;> simp [Six.get, Six.mapWith]

end Sys2Proof.Machine
end

