-- ==== Sys2Proof/Laws/State.lean ====
section
/-!
SUPPORT. The plain updates of the state, field by field: what each writes, and that it leaves every other field as it
was. Every lemma holds by `rfl`.
-/

namespace Sys2Proof.Machine

/-! ## elapse -/

@[simp] theorem elapse_pending (dt : Nat) (s : State) : (elapse dt s).pending = s.pending := rfl
@[simp] theorem elapse_now (dt : Nat) (s : State) : (elapse dt s).now = s.now + dt := rfl
@[simp] theorem elapse_draws (dt : Nat) (s : State) : (elapse dt s).draws = s.draws := rfl
@[simp] theorem elapse_pins (dt : Nat) (s : State) : (elapse dt s).pins = s.pins := rfl
@[simp] theorem elapse_strapPins (dt : Nat) (s : State) : (elapse dt s).strapPins = s.strapPins := rfl
@[simp] theorem elapse_stage (dt : Nat) (s : State) : (elapse dt s).stage = s.stage := rfl
@[simp] theorem elapse_listenEnd (dt : Nat) (s : State) : (elapse dt s).listenEnd = s.listenEnd := rfl
@[simp] theorem elapse_cfg (dt : Nat) (s : State) : (elapse dt s).cfg = s.cfg := rfl
@[simp] theorem elapse_closures (dt : Nat) (s : State) : (elapse dt s).closures = s.closures := rfl
@[simp] theorem elapse_children (dt : Nat) (s : State) : (elapse dt s).children = s.children := rfl
@[simp] theorem elapse_group (dt : Nat) (s : State) : (elapse dt s).group = s.group := rfl
@[simp] theorem elapse_release (dt : Nat) (s : State) : (elapse dt s).release = s.release := rfl
@[simp] theorem elapse_timed (dt : Nat) (s : State) : (elapse dt s).timed = s.timed := rfl
@[simp] theorem elapse_windows (dt : Nat) (s : State) : (elapse dt s).windows = s.windows := rfl
@[simp] theorem elapse_motion (dt : Nat) (s : State) : (elapse dt s).motion = s.motion := rfl
@[simp] theorem elapse_fobRun (dt : Nat) (s : State) : (elapse dt s).fobRun = s.fobRun := rfl
@[simp] theorem elapse_key (dt : Nat) (s : State) : (elapse dt s).key = s.key := rfl
@[simp] theorem elapse_search (dt : Nat) (s : State) : (elapse dt s).search = s.search := rfl
@[simp] theorem elapse_op (dt : Nat) (s : State) : (elapse dt s).op = s.op := rfl
@[simp] theorem elapse_counts (dt : Nat) (s : State) : (elapse dt s).counts = s.counts := rfl
@[simp] theorem elapse_trap (dt : Nat) (s : State) : (elapse dt s).trap = s.trap := rfl
@[simp] theorem elapse_pass (dt : Nat) (s : State) : (elapse dt s).pass = s.pass := rfl
@[simp] theorem elapse_tx (dt : Nat) (s : State) : (elapse dt s).tx = s.tx := rfl
@[simp] theorem elapse_port (dt : Nat) (s : State) : (elapse dt s).port = s.port := rfl
@[simp] theorem elapse_nextStatus (dt : Nat) (s : State) : (elapse dt s).nextStatus = s.nextStatus := rfl
@[simp] theorem elapse_channels (dt : Nat) (s : State) : (elapse dt s).channels = s.channels := rfl
@[simp] theorem elapse_ctx (dt : Nat) (s : State) : (elapse dt s).ctx = s.ctx := rfl
@[simp] theorem elapse_lines (dt : Nat) (s : State) : (elapse dt s).lines = s.lines := rfl
@[simp] theorem elapse_mgmt (dt : Nat) (s : State) : (elapse dt s).mgmt = s.mgmt := rfl
@[simp] theorem elapse_faults (dt : Nat) (s : State) : (elapse dt s).faults = s.faults := rfl
@[simp] theorem elapse_store (dt : Nat) (s : State) : (elapse dt s).store = s.store := rfl

/-! ## reach -/

@[simp] theorem reach_pending (d : Nat) (s : State) : (reach d s).pending = s.pending := rfl
@[simp] theorem reach_now (d : Nat) (s : State) : (reach d s).now = max s.now d := rfl
@[simp] theorem reach_draws (d : Nat) (s : State) : (reach d s).draws = s.draws := rfl
@[simp] theorem reach_pins (d : Nat) (s : State) : (reach d s).pins = s.pins := rfl
@[simp] theorem reach_strapPins (d : Nat) (s : State) : (reach d s).strapPins = s.strapPins := rfl
@[simp] theorem reach_stage (d : Nat) (s : State) : (reach d s).stage = s.stage := rfl
@[simp] theorem reach_listenEnd (d : Nat) (s : State) : (reach d s).listenEnd = s.listenEnd := rfl
@[simp] theorem reach_cfg (d : Nat) (s : State) : (reach d s).cfg = s.cfg := rfl
@[simp] theorem reach_closures (d : Nat) (s : State) : (reach d s).closures = s.closures := rfl
@[simp] theorem reach_children (d : Nat) (s : State) : (reach d s).children = s.children := rfl
@[simp] theorem reach_group (d : Nat) (s : State) : (reach d s).group = s.group := rfl
@[simp] theorem reach_release (d : Nat) (s : State) : (reach d s).release = s.release := rfl
@[simp] theorem reach_timed (d : Nat) (s : State) : (reach d s).timed = s.timed := rfl
@[simp] theorem reach_windows (d : Nat) (s : State) : (reach d s).windows = s.windows := rfl
@[simp] theorem reach_motion (d : Nat) (s : State) : (reach d s).motion = s.motion := rfl
@[simp] theorem reach_fobRun (d : Nat) (s : State) : (reach d s).fobRun = s.fobRun := rfl
@[simp] theorem reach_key (d : Nat) (s : State) : (reach d s).key = s.key := rfl
@[simp] theorem reach_search (d : Nat) (s : State) : (reach d s).search = s.search := rfl
@[simp] theorem reach_op (d : Nat) (s : State) : (reach d s).op = s.op := rfl
@[simp] theorem reach_counts (d : Nat) (s : State) : (reach d s).counts = s.counts := rfl
@[simp] theorem reach_trap (d : Nat) (s : State) : (reach d s).trap = s.trap := rfl
@[simp] theorem reach_pass (d : Nat) (s : State) : (reach d s).pass = s.pass := rfl
@[simp] theorem reach_tx (d : Nat) (s : State) : (reach d s).tx = s.tx := rfl
@[simp] theorem reach_port (d : Nat) (s : State) : (reach d s).port = s.port := rfl
@[simp] theorem reach_nextStatus (d : Nat) (s : State) : (reach d s).nextStatus = s.nextStatus := rfl
@[simp] theorem reach_channels (d : Nat) (s : State) : (reach d s).channels = s.channels := rfl
@[simp] theorem reach_ctx (d : Nat) (s : State) : (reach d s).ctx = s.ctx := rfl
@[simp] theorem reach_lines (d : Nat) (s : State) : (reach d s).lines = s.lines := rfl
@[simp] theorem reach_mgmt (d : Nat) (s : State) : (reach d s).mgmt = s.mgmt := rfl
@[simp] theorem reach_faults (d : Nat) (s : State) : (reach d s).faults = s.faults := rfl
@[simp] theorem reach_store (d : Nat) (s : State) : (reach d s).store = s.store := rfl

/-! ## setChannel -/

@[simp] theorem setChannel_pending (c : Closure) (ch : Channel) (s : State) :
    (setChannel c ch s).pending = s.pending := rfl
@[simp] theorem setChannel_now (c : Closure) (ch : Channel) (s : State) : (setChannel c ch s).now = s.now := rfl
@[simp] theorem setChannel_draws (c : Closure) (ch : Channel) (s : State) : (setChannel c ch s).draws = s.draws := rfl
@[simp] theorem setChannel_pins (c : Closure) (ch : Channel) (s : State) : (setChannel c ch s).pins = s.pins := rfl
@[simp] theorem setChannel_strapPins (c : Closure) (ch : Channel) (s : State) :
    (setChannel c ch s).strapPins = s.strapPins := rfl
@[simp] theorem setChannel_stage (c : Closure) (ch : Channel) (s : State) : (setChannel c ch s).stage = s.stage := rfl
@[simp] theorem setChannel_listenEnd (c : Closure) (ch : Channel) (s : State) :
    (setChannel c ch s).listenEnd = s.listenEnd := rfl
@[simp] theorem setChannel_cfg (c : Closure) (ch : Channel) (s : State) : (setChannel c ch s).cfg = s.cfg := rfl
@[simp] theorem setChannel_closures (c : Closure) (ch : Channel) (s : State) :
    (setChannel c ch s).closures = s.closures := rfl
@[simp] theorem setChannel_children (c : Closure) (ch : Channel) (s : State) :
    (setChannel c ch s).children = s.children := rfl
@[simp] theorem setChannel_group (c : Closure) (ch : Channel) (s : State) : (setChannel c ch s).group = s.group := rfl
@[simp] theorem setChannel_release (c : Closure) (ch : Channel) (s : State) :
    (setChannel c ch s).release = s.release := rfl
@[simp] theorem setChannel_timed (c : Closure) (ch : Channel) (s : State) : (setChannel c ch s).timed = s.timed := rfl
@[simp] theorem setChannel_windows (c : Closure) (ch : Channel) (s : State) :
    (setChannel c ch s).windows = s.windows := rfl
@[simp] theorem setChannel_motion (c : Closure) (ch : Channel) (s : State) :
    (setChannel c ch s).motion = s.motion := rfl
@[simp] theorem setChannel_fobRun (c : Closure) (ch : Channel) (s : State) :
    (setChannel c ch s).fobRun = s.fobRun := rfl
@[simp] theorem setChannel_key (c : Closure) (ch : Channel) (s : State) : (setChannel c ch s).key = s.key := rfl
@[simp] theorem setChannel_search (c : Closure) (ch : Channel) (s : State) :
    (setChannel c ch s).search = s.search := rfl
@[simp] theorem setChannel_op (c : Closure) (ch : Channel) (s : State) : (setChannel c ch s).op = s.op := rfl
@[simp] theorem setChannel_counts (c : Closure) (ch : Channel) (s : State) :
    (setChannel c ch s).counts = s.counts := rfl
@[simp] theorem setChannel_trap (c : Closure) (ch : Channel) (s : State) : (setChannel c ch s).trap = s.trap := rfl
@[simp] theorem setChannel_pass (c : Closure) (ch : Channel) (s : State) : (setChannel c ch s).pass = s.pass := rfl
@[simp] theorem setChannel_tx (c : Closure) (ch : Channel) (s : State) : (setChannel c ch s).tx = s.tx := rfl
@[simp] theorem setChannel_port (c : Closure) (ch : Channel) (s : State) : (setChannel c ch s).port = s.port := rfl
@[simp] theorem setChannel_nextStatus (c : Closure) (ch : Channel) (s : State) :
    (setChannel c ch s).nextStatus = s.nextStatus := rfl
@[simp] theorem setChannel_channels (c : Closure) (ch : Channel) (s : State) :
    (setChannel c ch s).channels = s.channels.set c ch := rfl
@[simp] theorem setChannel_ctx (c : Closure) (ch : Channel) (s : State) : (setChannel c ch s).ctx = s.ctx := rfl
@[simp] theorem setChannel_lines (c : Closure) (ch : Channel) (s : State) : (setChannel c ch s).lines = s.lines := rfl
@[simp] theorem setChannel_mgmt (c : Closure) (ch : Channel) (s : State) : (setChannel c ch s).mgmt = s.mgmt := rfl
@[simp] theorem setChannel_faults (c : Closure) (ch : Channel) (s : State) :
    (setChannel c ch s).faults = s.faults := rfl
@[simp] theorem setChannel_store (c : Closure) (ch : Channel) (s : State) : (setChannel c ch s).store = s.store := rfl

/-! ## setClosure -/

@[simp] theorem setClosure_pending (c : Closure) (k : ClosureLock) (s : State) :
    (setClosure c k s).pending = s.pending := rfl
@[simp] theorem setClosure_now (c : Closure) (k : ClosureLock) (s : State) : (setClosure c k s).now = s.now := rfl
@[simp] theorem setClosure_draws (c : Closure) (k : ClosureLock) (s : State) : (setClosure c k s).draws = s.draws := rfl
@[simp] theorem setClosure_pins (c : Closure) (k : ClosureLock) (s : State) : (setClosure c k s).pins = s.pins := rfl
@[simp] theorem setClosure_strapPins (c : Closure) (k : ClosureLock) (s : State) :
    (setClosure c k s).strapPins = s.strapPins := rfl
@[simp] theorem setClosure_stage (c : Closure) (k : ClosureLock) (s : State) : (setClosure c k s).stage = s.stage := rfl
@[simp] theorem setClosure_listenEnd (c : Closure) (k : ClosureLock) (s : State) :
    (setClosure c k s).listenEnd = s.listenEnd := rfl
@[simp] theorem setClosure_cfg (c : Closure) (k : ClosureLock) (s : State) : (setClosure c k s).cfg = s.cfg := rfl
@[simp] theorem setClosure_closures (c : Closure) (k : ClosureLock) (s : State) :
    (setClosure c k s).closures = s.closures.set c k := rfl
@[simp] theorem setClosure_children (c : Closure) (k : ClosureLock) (s : State) :
    (setClosure c k s).children = s.children := rfl
@[simp] theorem setClosure_group (c : Closure) (k : ClosureLock) (s : State) : (setClosure c k s).group = s.group := rfl
@[simp] theorem setClosure_release (c : Closure) (k : ClosureLock) (s : State) :
    (setClosure c k s).release = s.release := rfl
@[simp] theorem setClosure_timed (c : Closure) (k : ClosureLock) (s : State) : (setClosure c k s).timed = s.timed := rfl
@[simp] theorem setClosure_windows (c : Closure) (k : ClosureLock) (s : State) :
    (setClosure c k s).windows = s.windows := rfl
@[simp] theorem setClosure_motion (c : Closure) (k : ClosureLock) (s : State) :
    (setClosure c k s).motion = s.motion := rfl
@[simp] theorem setClosure_fobRun (c : Closure) (k : ClosureLock) (s : State) :
    (setClosure c k s).fobRun = s.fobRun := rfl
@[simp] theorem setClosure_key (c : Closure) (k : ClosureLock) (s : State) : (setClosure c k s).key = s.key := rfl
@[simp] theorem setClosure_search (c : Closure) (k : ClosureLock) (s : State) :
    (setClosure c k s).search = s.search := rfl
@[simp] theorem setClosure_op (c : Closure) (k : ClosureLock) (s : State) : (setClosure c k s).op = s.op := rfl
@[simp] theorem setClosure_counts (c : Closure) (k : ClosureLock) (s : State) :
    (setClosure c k s).counts = s.counts := rfl
@[simp] theorem setClosure_trap (c : Closure) (k : ClosureLock) (s : State) : (setClosure c k s).trap = s.trap := rfl
@[simp] theorem setClosure_pass (c : Closure) (k : ClosureLock) (s : State) : (setClosure c k s).pass = s.pass := rfl
@[simp] theorem setClosure_tx (c : Closure) (k : ClosureLock) (s : State) : (setClosure c k s).tx = s.tx := rfl
@[simp] theorem setClosure_port (c : Closure) (k : ClosureLock) (s : State) : (setClosure c k s).port = s.port := rfl
@[simp] theorem setClosure_nextStatus (c : Closure) (k : ClosureLock) (s : State) :
    (setClosure c k s).nextStatus = s.nextStatus := rfl
@[simp] theorem setClosure_channels (c : Closure) (k : ClosureLock) (s : State) :
    (setClosure c k s).channels = s.channels := rfl
@[simp] theorem setClosure_ctx (c : Closure) (k : ClosureLock) (s : State) : (setClosure c k s).ctx = s.ctx := rfl
@[simp] theorem setClosure_lines (c : Closure) (k : ClosureLock) (s : State) : (setClosure c k s).lines = s.lines := rfl
@[simp] theorem setClosure_mgmt (c : Closure) (k : ClosureLock) (s : State) : (setClosure c k s).mgmt = s.mgmt := rfl
@[simp] theorem setClosure_faults (c : Closure) (k : ClosureLock) (s : State) :
    (setClosure c k s).faults = s.faults := rfl
@[simp] theorem setClosure_store (c : Closure) (k : ClosureLock) (s : State) : (setClosure c k s).store = s.store := rfl

/-! ## setChild -/

@[simp] theorem setChild_pending (d : RearDoor) (k : ChildLock) (s : State) :
    (setChild d k s).pending = s.pending := rfl
@[simp] theorem setChild_now (d : RearDoor) (k : ChildLock) (s : State) : (setChild d k s).now = s.now := rfl
@[simp] theorem setChild_draws (d : RearDoor) (k : ChildLock) (s : State) : (setChild d k s).draws = s.draws := rfl
@[simp] theorem setChild_pins (d : RearDoor) (k : ChildLock) (s : State) : (setChild d k s).pins = s.pins := rfl
@[simp] theorem setChild_strapPins (d : RearDoor) (k : ChildLock) (s : State) :
    (setChild d k s).strapPins = s.strapPins := rfl
@[simp] theorem setChild_stage (d : RearDoor) (k : ChildLock) (s : State) : (setChild d k s).stage = s.stage := rfl
@[simp] theorem setChild_listenEnd (d : RearDoor) (k : ChildLock) (s : State) :
    (setChild d k s).listenEnd = s.listenEnd := rfl
@[simp] theorem setChild_cfg (d : RearDoor) (k : ChildLock) (s : State) : (setChild d k s).cfg = s.cfg := rfl
@[simp] theorem setChild_closures (d : RearDoor) (k : ChildLock) (s : State) :
    (setChild d k s).closures = s.closures := rfl
@[simp] theorem setChild_children (d : RearDoor) (k : ChildLock) (s : State) :
    (setChild d k s).children = s.children.set d k := rfl
@[simp] theorem setChild_group (d : RearDoor) (k : ChildLock) (s : State) : (setChild d k s).group = s.group := rfl
@[simp] theorem setChild_release (d : RearDoor) (k : ChildLock) (s : State) :
    (setChild d k s).release = s.release := rfl
@[simp] theorem setChild_timed (d : RearDoor) (k : ChildLock) (s : State) : (setChild d k s).timed = s.timed := rfl
@[simp] theorem setChild_windows (d : RearDoor) (k : ChildLock) (s : State) :
    (setChild d k s).windows = s.windows := rfl
@[simp] theorem setChild_motion (d : RearDoor) (k : ChildLock) (s : State) : (setChild d k s).motion = s.motion := rfl
@[simp] theorem setChild_fobRun (d : RearDoor) (k : ChildLock) (s : State) : (setChild d k s).fobRun = s.fobRun := rfl
@[simp] theorem setChild_key (d : RearDoor) (k : ChildLock) (s : State) : (setChild d k s).key = s.key := rfl
@[simp] theorem setChild_search (d : RearDoor) (k : ChildLock) (s : State) : (setChild d k s).search = s.search := rfl
@[simp] theorem setChild_op (d : RearDoor) (k : ChildLock) (s : State) : (setChild d k s).op = s.op := rfl
@[simp] theorem setChild_counts (d : RearDoor) (k : ChildLock) (s : State) : (setChild d k s).counts = s.counts := rfl
@[simp] theorem setChild_trap (d : RearDoor) (k : ChildLock) (s : State) : (setChild d k s).trap = s.trap := rfl
@[simp] theorem setChild_pass (d : RearDoor) (k : ChildLock) (s : State) : (setChild d k s).pass = s.pass := rfl
@[simp] theorem setChild_tx (d : RearDoor) (k : ChildLock) (s : State) : (setChild d k s).tx = s.tx := rfl
@[simp] theorem setChild_port (d : RearDoor) (k : ChildLock) (s : State) : (setChild d k s).port = s.port := rfl
@[simp] theorem setChild_nextStatus (d : RearDoor) (k : ChildLock) (s : State) :
    (setChild d k s).nextStatus = s.nextStatus := rfl
@[simp] theorem setChild_channels (d : RearDoor) (k : ChildLock) (s : State) :
    (setChild d k s).channels = s.channels := rfl
@[simp] theorem setChild_ctx (d : RearDoor) (k : ChildLock) (s : State) : (setChild d k s).ctx = s.ctx := rfl
@[simp] theorem setChild_lines (d : RearDoor) (k : ChildLock) (s : State) : (setChild d k s).lines = s.lines := rfl
@[simp] theorem setChild_mgmt (d : RearDoor) (k : ChildLock) (s : State) : (setChild d k s).mgmt = s.mgmt := rfl
@[simp] theorem setChild_faults (d : RearDoor) (k : ChildLock) (s : State) : (setChild d k s).faults = s.faults := rfl
@[simp] theorem setChild_store (d : RearDoor) (k : ChildLock) (s : State) : (setChild d k s).store = s.store := rfl

/-! ## setWindow -/

@[simp] theorem setWindow_pending (w : WindowId) (x : Window) (s : State) : (setWindow w x s).pending = s.pending := rfl
@[simp] theorem setWindow_now (w : WindowId) (x : Window) (s : State) : (setWindow w x s).now = s.now := rfl
@[simp] theorem setWindow_draws (w : WindowId) (x : Window) (s : State) : (setWindow w x s).draws = s.draws := rfl
@[simp] theorem setWindow_pins (w : WindowId) (x : Window) (s : State) : (setWindow w x s).pins = s.pins := rfl
@[simp] theorem setWindow_strapPins (w : WindowId) (x : Window) (s : State) :
    (setWindow w x s).strapPins = s.strapPins := rfl
@[simp] theorem setWindow_stage (w : WindowId) (x : Window) (s : State) : (setWindow w x s).stage = s.stage := rfl
@[simp] theorem setWindow_listenEnd (w : WindowId) (x : Window) (s : State) :
    (setWindow w x s).listenEnd = s.listenEnd := rfl
@[simp] theorem setWindow_cfg (w : WindowId) (x : Window) (s : State) : (setWindow w x s).cfg = s.cfg := rfl
@[simp] theorem setWindow_closures (w : WindowId) (x : Window) (s : State) :
    (setWindow w x s).closures = s.closures := rfl
@[simp] theorem setWindow_children (w : WindowId) (x : Window) (s : State) :
    (setWindow w x s).children = s.children := rfl
@[simp] theorem setWindow_group (w : WindowId) (x : Window) (s : State) : (setWindow w x s).group = s.group := rfl
@[simp] theorem setWindow_release (w : WindowId) (x : Window) (s : State) : (setWindow w x s).release = s.release := rfl
@[simp] theorem setWindow_timed (w : WindowId) (x : Window) (s : State) : (setWindow w x s).timed = s.timed := rfl
@[simp] theorem setWindow_windows (w : WindowId) (x : Window) (s : State) :
    (setWindow w x s).windows = s.windows.set w x := rfl
@[simp] theorem setWindow_motion (w : WindowId) (x : Window) (s : State) : (setWindow w x s).motion = s.motion := rfl
@[simp] theorem setWindow_fobRun (w : WindowId) (x : Window) (s : State) : (setWindow w x s).fobRun = s.fobRun := rfl
@[simp] theorem setWindow_key (w : WindowId) (x : Window) (s : State) : (setWindow w x s).key = s.key := rfl
@[simp] theorem setWindow_search (w : WindowId) (x : Window) (s : State) : (setWindow w x s).search = s.search := rfl
@[simp] theorem setWindow_op (w : WindowId) (x : Window) (s : State) : (setWindow w x s).op = s.op := rfl
@[simp] theorem setWindow_counts (w : WindowId) (x : Window) (s : State) : (setWindow w x s).counts = s.counts := rfl
@[simp] theorem setWindow_trap (w : WindowId) (x : Window) (s : State) : (setWindow w x s).trap = s.trap := rfl
@[simp] theorem setWindow_pass (w : WindowId) (x : Window) (s : State) : (setWindow w x s).pass = s.pass := rfl
@[simp] theorem setWindow_tx (w : WindowId) (x : Window) (s : State) : (setWindow w x s).tx = s.tx := rfl
@[simp] theorem setWindow_port (w : WindowId) (x : Window) (s : State) : (setWindow w x s).port = s.port := rfl
@[simp] theorem setWindow_nextStatus (w : WindowId) (x : Window) (s : State) :
    (setWindow w x s).nextStatus = s.nextStatus := rfl
@[simp] theorem setWindow_channels (w : WindowId) (x : Window) (s : State) :
    (setWindow w x s).channels = s.channels := rfl
@[simp] theorem setWindow_ctx (w : WindowId) (x : Window) (s : State) : (setWindow w x s).ctx = s.ctx := rfl
@[simp] theorem setWindow_lines (w : WindowId) (x : Window) (s : State) : (setWindow w x s).lines = s.lines := rfl
@[simp] theorem setWindow_mgmt (w : WindowId) (x : Window) (s : State) : (setWindow w x s).mgmt = s.mgmt := rfl
@[simp] theorem setWindow_faults (w : WindowId) (x : Window) (s : State) : (setWindow w x s).faults = s.faults := rfl
@[simp] theorem setWindow_store (w : WindowId) (x : Window) (s : State) : (setWindow w x s).store = s.store := rfl

/-! ## setFob -/

@[simp] theorem setFob_pending (i : Nat) (f : Fob) (s : State) : (setFob i f s).pending = s.pending := rfl
@[simp] theorem setFob_now (i : Nat) (f : Fob) (s : State) : (setFob i f s).now = s.now := rfl
@[simp] theorem setFob_draws (i : Nat) (f : Fob) (s : State) : (setFob i f s).draws = s.draws := rfl
@[simp] theorem setFob_pins (i : Nat) (f : Fob) (s : State) : (setFob i f s).pins = s.pins := rfl
@[simp] theorem setFob_strapPins (i : Nat) (f : Fob) (s : State) : (setFob i f s).strapPins = s.strapPins := rfl
@[simp] theorem setFob_stage (i : Nat) (f : Fob) (s : State) : (setFob i f s).stage = s.stage := rfl
@[simp] theorem setFob_listenEnd (i : Nat) (f : Fob) (s : State) : (setFob i f s).listenEnd = s.listenEnd := rfl
@[simp] theorem setFob_cfg (i : Nat) (f : Fob) (s : State) :
    (setFob i f s).cfg = { s.cfg with fobs := s.cfg.fobs.set i f } := rfl
@[simp] theorem setFob_closures (i : Nat) (f : Fob) (s : State) : (setFob i f s).closures = s.closures := rfl
@[simp] theorem setFob_children (i : Nat) (f : Fob) (s : State) : (setFob i f s).children = s.children := rfl
@[simp] theorem setFob_group (i : Nat) (f : Fob) (s : State) : (setFob i f s).group = s.group := rfl
@[simp] theorem setFob_release (i : Nat) (f : Fob) (s : State) : (setFob i f s).release = s.release := rfl
@[simp] theorem setFob_timed (i : Nat) (f : Fob) (s : State) : (setFob i f s).timed = s.timed := rfl
@[simp] theorem setFob_windows (i : Nat) (f : Fob) (s : State) : (setFob i f s).windows = s.windows := rfl
@[simp] theorem setFob_motion (i : Nat) (f : Fob) (s : State) : (setFob i f s).motion = s.motion := rfl
@[simp] theorem setFob_fobRun (i : Nat) (f : Fob) (s : State) : (setFob i f s).fobRun = s.fobRun := rfl
@[simp] theorem setFob_key (i : Nat) (f : Fob) (s : State) : (setFob i f s).key = s.key := rfl
@[simp] theorem setFob_search (i : Nat) (f : Fob) (s : State) : (setFob i f s).search = s.search := rfl
@[simp] theorem setFob_op (i : Nat) (f : Fob) (s : State) : (setFob i f s).op = s.op := rfl
@[simp] theorem setFob_counts (i : Nat) (f : Fob) (s : State) : (setFob i f s).counts = s.counts := rfl
@[simp] theorem setFob_trap (i : Nat) (f : Fob) (s : State) : (setFob i f s).trap = s.trap := rfl
@[simp] theorem setFob_pass (i : Nat) (f : Fob) (s : State) : (setFob i f s).pass = s.pass := rfl
@[simp] theorem setFob_tx (i : Nat) (f : Fob) (s : State) : (setFob i f s).tx = s.tx := rfl
@[simp] theorem setFob_port (i : Nat) (f : Fob) (s : State) : (setFob i f s).port = s.port := rfl
@[simp] theorem setFob_nextStatus (i : Nat) (f : Fob) (s : State) : (setFob i f s).nextStatus = s.nextStatus := rfl
@[simp] theorem setFob_channels (i : Nat) (f : Fob) (s : State) : (setFob i f s).channels = s.channels := rfl
@[simp] theorem setFob_ctx (i : Nat) (f : Fob) (s : State) : (setFob i f s).ctx = s.ctx := rfl
@[simp] theorem setFob_lines (i : Nat) (f : Fob) (s : State) : (setFob i f s).lines = s.lines := rfl
@[simp] theorem setFob_mgmt (i : Nat) (f : Fob) (s : State) : (setFob i f s).mgmt = s.mgmt := rfl
@[simp] theorem setFob_faults (i : Nat) (f : Fob) (s : State) : (setFob i f s).faults = s.faults := rfl
@[simp] theorem setFob_store (i : Nat) (f : Fob) (s : State) : (setFob i f s).store = s.store := rfl

/-! ## setFobRun -/

@[simp] theorem setFobRun_pending (i : Nat) (r : FobRun) (s : State) : (setFobRun i r s).pending = s.pending := rfl
@[simp] theorem setFobRun_now (i : Nat) (r : FobRun) (s : State) : (setFobRun i r s).now = s.now := rfl
@[simp] theorem setFobRun_draws (i : Nat) (r : FobRun) (s : State) : (setFobRun i r s).draws = s.draws := rfl
@[simp] theorem setFobRun_pins (i : Nat) (r : FobRun) (s : State) : (setFobRun i r s).pins = s.pins := rfl
@[simp] theorem setFobRun_strapPins (i : Nat) (r : FobRun) (s : State) :
    (setFobRun i r s).strapPins = s.strapPins := rfl
@[simp] theorem setFobRun_stage (i : Nat) (r : FobRun) (s : State) : (setFobRun i r s).stage = s.stage := rfl
@[simp] theorem setFobRun_listenEnd (i : Nat) (r : FobRun) (s : State) :
    (setFobRun i r s).listenEnd = s.listenEnd := rfl
@[simp] theorem setFobRun_cfg (i : Nat) (r : FobRun) (s : State) : (setFobRun i r s).cfg = s.cfg := rfl
@[simp] theorem setFobRun_closures (i : Nat) (r : FobRun) (s : State) : (setFobRun i r s).closures = s.closures := rfl
@[simp] theorem setFobRun_children (i : Nat) (r : FobRun) (s : State) : (setFobRun i r s).children = s.children := rfl
@[simp] theorem setFobRun_group (i : Nat) (r : FobRun) (s : State) : (setFobRun i r s).group = s.group := rfl
@[simp] theorem setFobRun_release (i : Nat) (r : FobRun) (s : State) : (setFobRun i r s).release = s.release := rfl
@[simp] theorem setFobRun_timed (i : Nat) (r : FobRun) (s : State) : (setFobRun i r s).timed = s.timed := rfl
@[simp] theorem setFobRun_windows (i : Nat) (r : FobRun) (s : State) : (setFobRun i r s).windows = s.windows := rfl
@[simp] theorem setFobRun_motion (i : Nat) (r : FobRun) (s : State) : (setFobRun i r s).motion = s.motion := rfl
@[simp] theorem setFobRun_fobRun (i : Nat) (r : FobRun) (s : State) : (setFobRun i r s).fobRun = s.fobRun.set i r := rfl
@[simp] theorem setFobRun_key (i : Nat) (r : FobRun) (s : State) : (setFobRun i r s).key = s.key := rfl
@[simp] theorem setFobRun_search (i : Nat) (r : FobRun) (s : State) : (setFobRun i r s).search = s.search := rfl
@[simp] theorem setFobRun_op (i : Nat) (r : FobRun) (s : State) : (setFobRun i r s).op = s.op := rfl
@[simp] theorem setFobRun_counts (i : Nat) (r : FobRun) (s : State) : (setFobRun i r s).counts = s.counts := rfl
@[simp] theorem setFobRun_trap (i : Nat) (r : FobRun) (s : State) : (setFobRun i r s).trap = s.trap := rfl
@[simp] theorem setFobRun_pass (i : Nat) (r : FobRun) (s : State) : (setFobRun i r s).pass = s.pass := rfl
@[simp] theorem setFobRun_tx (i : Nat) (r : FobRun) (s : State) : (setFobRun i r s).tx = s.tx := rfl
@[simp] theorem setFobRun_port (i : Nat) (r : FobRun) (s : State) : (setFobRun i r s).port = s.port := rfl
@[simp] theorem setFobRun_nextStatus (i : Nat) (r : FobRun) (s : State) :
    (setFobRun i r s).nextStatus = s.nextStatus := rfl
@[simp] theorem setFobRun_channels (i : Nat) (r : FobRun) (s : State) : (setFobRun i r s).channels = s.channels := rfl
@[simp] theorem setFobRun_ctx (i : Nat) (r : FobRun) (s : State) : (setFobRun i r s).ctx = s.ctx := rfl
@[simp] theorem setFobRun_lines (i : Nat) (r : FobRun) (s : State) : (setFobRun i r s).lines = s.lines := rfl
@[simp] theorem setFobRun_mgmt (i : Nat) (r : FobRun) (s : State) : (setFobRun i r s).mgmt = s.mgmt := rfl
@[simp] theorem setFobRun_faults (i : Nat) (r : FobRun) (s : State) : (setFobRun i r s).faults = s.faults := rfl
@[simp] theorem setFobRun_store (i : Nat) (r : FobRun) (s : State) : (setFobRun i r s).store = s.store := rfl

/-! ## setHold -/

@[simp] theorem setHold_pending (h : Option Hold) (s : State) : (setHold h s).pending = s.pending := rfl
@[simp] theorem setHold_now (h : Option Hold) (s : State) : (setHold h s).now = s.now := rfl
@[simp] theorem setHold_draws (h : Option Hold) (s : State) : (setHold h s).draws = s.draws := rfl
@[simp] theorem setHold_pins (h : Option Hold) (s : State) : (setHold h s).pins = s.pins := rfl
@[simp] theorem setHold_strapPins (h : Option Hold) (s : State) : (setHold h s).strapPins = s.strapPins := rfl
@[simp] theorem setHold_stage (h : Option Hold) (s : State) : (setHold h s).stage = s.stage := rfl
@[simp] theorem setHold_listenEnd (h : Option Hold) (s : State) : (setHold h s).listenEnd = s.listenEnd := rfl
@[simp] theorem setHold_cfg (h : Option Hold) (s : State) : (setHold h s).cfg = s.cfg := rfl
@[simp] theorem setHold_closures (h : Option Hold) (s : State) : (setHold h s).closures = s.closures := rfl
@[simp] theorem setHold_children (h : Option Hold) (s : State) : (setHold h s).children = s.children := rfl
@[simp] theorem setHold_group (h : Option Hold) (s : State) : (setHold h s).group = s.group := rfl
@[simp] theorem setHold_release (h : Option Hold) (s : State) : (setHold h s).release = s.release := rfl
@[simp] theorem setHold_timed (h : Option Hold) (s : State) : (setHold h s).timed = s.timed := rfl
@[simp] theorem setHold_windows (h : Option Hold) (s : State) : (setHold h s).windows = s.windows := rfl
@[simp] theorem setHold_motion (h : Option Hold) (s : State) : (setHold h s).motion = s.motion := rfl
@[simp] theorem setHold_fobRun (h : Option Hold) (s : State) : (setHold h s).fobRun = s.fobRun := rfl
@[simp] theorem setHold_key (h : Option Hold) (s : State) : (setHold h s).key = { s.key with hold := h } := rfl
@[simp] theorem setHold_search (h : Option Hold) (s : State) : (setHold h s).search = s.search := rfl
@[simp] theorem setHold_op (h : Option Hold) (s : State) : (setHold h s).op = s.op := rfl
@[simp] theorem setHold_counts (h : Option Hold) (s : State) : (setHold h s).counts = s.counts := rfl
@[simp] theorem setHold_trap (h : Option Hold) (s : State) : (setHold h s).trap = s.trap := rfl
@[simp] theorem setHold_pass (h : Option Hold) (s : State) : (setHold h s).pass = s.pass := rfl
@[simp] theorem setHold_tx (h : Option Hold) (s : State) : (setHold h s).tx = s.tx := rfl
@[simp] theorem setHold_port (h : Option Hold) (s : State) : (setHold h s).port = s.port := rfl
@[simp] theorem setHold_nextStatus (h : Option Hold) (s : State) : (setHold h s).nextStatus = s.nextStatus := rfl
@[simp] theorem setHold_channels (h : Option Hold) (s : State) : (setHold h s).channels = s.channels := rfl
@[simp] theorem setHold_ctx (h : Option Hold) (s : State) : (setHold h s).ctx = s.ctx := rfl
@[simp] theorem setHold_lines (h : Option Hold) (s : State) : (setHold h s).lines = s.lines := rfl
@[simp] theorem setHold_mgmt (h : Option Hold) (s : State) : (setHold h s).mgmt = s.mgmt := rfl
@[simp] theorem setHold_faults (h : Option Hold) (s : State) : (setHold h s).faults = s.faults := rfl
@[simp] theorem setHold_store (h : Option Hold) (s : State) : (setHold h s).store = s.store := rfl

/-! ## setSlot -/

@[simp] theorem setSlot_pending (n : Nat) (x : Option SearchSlot) (s : State) :
    (setSlot n x s).pending = s.pending := rfl
@[simp] theorem setSlot_now (n : Nat) (x : Option SearchSlot) (s : State) : (setSlot n x s).now = s.now := rfl
@[simp] theorem setSlot_draws (n : Nat) (x : Option SearchSlot) (s : State) : (setSlot n x s).draws = s.draws := rfl
@[simp] theorem setSlot_pins (n : Nat) (x : Option SearchSlot) (s : State) : (setSlot n x s).pins = s.pins := rfl
@[simp] theorem setSlot_strapPins (n : Nat) (x : Option SearchSlot) (s : State) :
    (setSlot n x s).strapPins = s.strapPins := rfl
@[simp] theorem setSlot_stage (n : Nat) (x : Option SearchSlot) (s : State) : (setSlot n x s).stage = s.stage := rfl
@[simp] theorem setSlot_listenEnd (n : Nat) (x : Option SearchSlot) (s : State) :
    (setSlot n x s).listenEnd = s.listenEnd := rfl
@[simp] theorem setSlot_cfg (n : Nat) (x : Option SearchSlot) (s : State) : (setSlot n x s).cfg = s.cfg := rfl
@[simp] theorem setSlot_closures (n : Nat) (x : Option SearchSlot) (s : State) :
    (setSlot n x s).closures = s.closures := rfl
@[simp] theorem setSlot_children (n : Nat) (x : Option SearchSlot) (s : State) :
    (setSlot n x s).children = s.children := rfl
@[simp] theorem setSlot_group (n : Nat) (x : Option SearchSlot) (s : State) : (setSlot n x s).group = s.group := rfl
@[simp] theorem setSlot_release (n : Nat) (x : Option SearchSlot) (s : State) :
    (setSlot n x s).release = s.release := rfl
@[simp] theorem setSlot_timed (n : Nat) (x : Option SearchSlot) (s : State) : (setSlot n x s).timed = s.timed := rfl
@[simp] theorem setSlot_windows (n : Nat) (x : Option SearchSlot) (s : State) :
    (setSlot n x s).windows = s.windows := rfl
@[simp] theorem setSlot_motion (n : Nat) (x : Option SearchSlot) (s : State) : (setSlot n x s).motion = s.motion := rfl
@[simp] theorem setSlot_fobRun (n : Nat) (x : Option SearchSlot) (s : State) : (setSlot n x s).fobRun = s.fobRun := rfl
@[simp] theorem setSlot_key (n : Nat) (x : Option SearchSlot) (s : State) : (setSlot n x s).key = s.key := rfl
@[simp] theorem setSlot_search (n : Nat) (x : Option SearchSlot) (s : State) :
    (setSlot n x s).search = { s.search with slots := s.search.slots.set n x } := rfl
@[simp] theorem setSlot_op (n : Nat) (x : Option SearchSlot) (s : State) : (setSlot n x s).op = s.op := rfl
@[simp] theorem setSlot_counts (n : Nat) (x : Option SearchSlot) (s : State) : (setSlot n x s).counts = s.counts := rfl
@[simp] theorem setSlot_trap (n : Nat) (x : Option SearchSlot) (s : State) : (setSlot n x s).trap = s.trap := rfl
@[simp] theorem setSlot_pass (n : Nat) (x : Option SearchSlot) (s : State) : (setSlot n x s).pass = s.pass := rfl
@[simp] theorem setSlot_tx (n : Nat) (x : Option SearchSlot) (s : State) : (setSlot n x s).tx = s.tx := rfl
@[simp] theorem setSlot_port (n : Nat) (x : Option SearchSlot) (s : State) : (setSlot n x s).port = s.port := rfl
@[simp] theorem setSlot_nextStatus (n : Nat) (x : Option SearchSlot) (s : State) :
    (setSlot n x s).nextStatus = s.nextStatus := rfl
@[simp] theorem setSlot_channels (n : Nat) (x : Option SearchSlot) (s : State) :
    (setSlot n x s).channels = s.channels := rfl
@[simp] theorem setSlot_ctx (n : Nat) (x : Option SearchSlot) (s : State) : (setSlot n x s).ctx = s.ctx := rfl
@[simp] theorem setSlot_lines (n : Nat) (x : Option SearchSlot) (s : State) : (setSlot n x s).lines = s.lines := rfl
@[simp] theorem setSlot_mgmt (n : Nat) (x : Option SearchSlot) (s : State) : (setSlot n x s).mgmt = s.mgmt := rfl
@[simp] theorem setSlot_faults (n : Nat) (x : Option SearchSlot) (s : State) : (setSlot n x s).faults = s.faults := rfl
@[simp] theorem setSlot_store (n : Nat) (x : Option SearchSlot) (s : State) : (setSlot n x s).store = s.store := rfl

/-! ## setTimed -/

@[simp] theorem setTimed_pending (p : Pattern) (t : Nat) (s : State) : (setTimed p t s).pending = s.pending := rfl
@[simp] theorem setTimed_now (p : Pattern) (t : Nat) (s : State) : (setTimed p t s).now = s.now := rfl
@[simp] theorem setTimed_draws (p : Pattern) (t : Nat) (s : State) : (setTimed p t s).draws = s.draws := rfl
@[simp] theorem setTimed_pins (p : Pattern) (t : Nat) (s : State) : (setTimed p t s).pins = s.pins := rfl
@[simp] theorem setTimed_strapPins (p : Pattern) (t : Nat) (s : State) : (setTimed p t s).strapPins = s.strapPins := rfl
@[simp] theorem setTimed_stage (p : Pattern) (t : Nat) (s : State) : (setTimed p t s).stage = s.stage := rfl
@[simp] theorem setTimed_listenEnd (p : Pattern) (t : Nat) (s : State) : (setTimed p t s).listenEnd = s.listenEnd := rfl
@[simp] theorem setTimed_cfg (p : Pattern) (t : Nat) (s : State) : (setTimed p t s).cfg = s.cfg := rfl
@[simp] theorem setTimed_closures (p : Pattern) (t : Nat) (s : State) : (setTimed p t s).closures = s.closures := rfl
@[simp] theorem setTimed_children (p : Pattern) (t : Nat) (s : State) : (setTimed p t s).children = s.children := rfl
@[simp] theorem setTimed_group (p : Pattern) (t : Nat) (s : State) : (setTimed p t s).group = s.group := rfl
@[simp] theorem setTimed_release (p : Pattern) (t : Nat) (s : State) : (setTimed p t s).release = s.release := rfl
@[simp] theorem setTimed_timed (p : Pattern) (t : Nat) (s : State) : (setTimed p t s).timed = some ⟨p, s.now + t⟩ := rfl
@[simp] theorem setTimed_windows (p : Pattern) (t : Nat) (s : State) : (setTimed p t s).windows = s.windows := rfl
@[simp] theorem setTimed_motion (p : Pattern) (t : Nat) (s : State) : (setTimed p t s).motion = s.motion := rfl
@[simp] theorem setTimed_fobRun (p : Pattern) (t : Nat) (s : State) : (setTimed p t s).fobRun = s.fobRun := rfl
@[simp] theorem setTimed_key (p : Pattern) (t : Nat) (s : State) : (setTimed p t s).key = s.key := rfl
@[simp] theorem setTimed_search (p : Pattern) (t : Nat) (s : State) : (setTimed p t s).search = s.search := rfl
@[simp] theorem setTimed_op (p : Pattern) (t : Nat) (s : State) : (setTimed p t s).op = s.op := rfl
@[simp] theorem setTimed_counts (p : Pattern) (t : Nat) (s : State) : (setTimed p t s).counts = s.counts := rfl
@[simp] theorem setTimed_trap (p : Pattern) (t : Nat) (s : State) : (setTimed p t s).trap = s.trap := rfl
@[simp] theorem setTimed_pass (p : Pattern) (t : Nat) (s : State) : (setTimed p t s).pass = s.pass := rfl
@[simp] theorem setTimed_tx (p : Pattern) (t : Nat) (s : State) : (setTimed p t s).tx = s.tx := rfl
@[simp] theorem setTimed_port (p : Pattern) (t : Nat) (s : State) : (setTimed p t s).port = s.port := rfl
@[simp] theorem setTimed_nextStatus (p : Pattern) (t : Nat) (s : State) :
    (setTimed p t s).nextStatus = s.nextStatus := rfl
@[simp] theorem setTimed_channels (p : Pattern) (t : Nat) (s : State) : (setTimed p t s).channels = s.channels := rfl
@[simp] theorem setTimed_ctx (p : Pattern) (t : Nat) (s : State) : (setTimed p t s).ctx = s.ctx := rfl
@[simp] theorem setTimed_lines (p : Pattern) (t : Nat) (s : State) : (setTimed p t s).lines = s.lines := rfl
@[simp] theorem setTimed_mgmt (p : Pattern) (t : Nat) (s : State) : (setTimed p t s).mgmt = s.mgmt := rfl
@[simp] theorem setTimed_faults (p : Pattern) (t : Nat) (s : State) : (setTimed p t s).faults = s.faults := rfl
@[simp] theorem setTimed_store (p : Pattern) (t : Nat) (s : State) : (setTimed p t s).store = s.store := rfl

/-! ## beginSave -/

@[simp] theorem beginSave_pending (s : State) : (beginSave s).pending = s.pending := rfl
@[simp] theorem beginSave_now (s : State) : (beginSave s).now = s.now := rfl
@[simp] theorem beginSave_draws (s : State) : (beginSave s).draws = s.draws := rfl
@[simp] theorem beginSave_pins (s : State) : (beginSave s).pins = s.pins := rfl
@[simp] theorem beginSave_strapPins (s : State) : (beginSave s).strapPins = s.strapPins := rfl
@[simp] theorem beginSave_stage (s : State) : (beginSave s).stage = s.stage := rfl
@[simp] theorem beginSave_listenEnd (s : State) : (beginSave s).listenEnd = s.listenEnd := rfl
@[simp] theorem beginSave_cfg (s : State) : (beginSave s).cfg = s.cfg := rfl
@[simp] theorem beginSave_closures (s : State) : (beginSave s).closures = s.closures := rfl
@[simp] theorem beginSave_children (s : State) : (beginSave s).children = s.children := rfl
@[simp] theorem beginSave_group (s : State) : (beginSave s).group = s.group := rfl
@[simp] theorem beginSave_release (s : State) : (beginSave s).release = s.release := rfl
@[simp] theorem beginSave_timed (s : State) : (beginSave s).timed = s.timed := rfl
@[simp] theorem beginSave_windows (s : State) : (beginSave s).windows = s.windows := rfl
@[simp] theorem beginSave_motion (s : State) : (beginSave s).motion = s.motion := rfl
@[simp] theorem beginSave_fobRun (s : State) : (beginSave s).fobRun = s.fobRun := rfl
@[simp] theorem beginSave_key (s : State) : (beginSave s).key = s.key := rfl
@[simp] theorem beginSave_search (s : State) : (beginSave s).search = s.search := rfl
@[simp] theorem beginSave_op (s : State) : (beginSave s).op = s.op := rfl
@[simp] theorem beginSave_counts (s : State) : (beginSave s).counts = s.counts := rfl
@[simp] theorem beginSave_trap (s : State) : (beginSave s).trap = s.trap := rfl
@[simp] theorem beginSave_pass (s : State) : (beginSave s).pass = s.pass := rfl
@[simp] theorem beginSave_tx (s : State) : (beginSave s).tx = s.tx := rfl
@[simp] theorem beginSave_port (s : State) : (beginSave s).port = s.port := rfl
@[simp] theorem beginSave_nextStatus (s : State) : (beginSave s).nextStatus = s.nextStatus := rfl
@[simp] theorem beginSave_channels (s : State) : (beginSave s).channels = s.channels := rfl
@[simp] theorem beginSave_ctx (s : State) : (beginSave s).ctx = s.ctx := rfl
@[simp] theorem beginSave_lines (s : State) : (beginSave s).lines = s.lines := rfl
@[simp] theorem beginSave_mgmt (s : State) : (beginSave s).mgmt = s.mgmt := rfl
@[simp] theorem beginSave_faults (s : State) : (beginSave s).faults = s.faults := rfl
@[simp] theorem beginSave_store (s : State) : (beginSave s).store = { s.store with snapshot := some (savedTables s) } := rfl

/-! ## setCursor -/

@[simp] theorem setCursor_pending (c : Cursor) (s : State) : (setCursor c s).pending = s.pending := rfl
@[simp] theorem setCursor_now (c : Cursor) (s : State) : (setCursor c s).now = s.now := rfl
@[simp] theorem setCursor_draws (c : Cursor) (s : State) : (setCursor c s).draws = s.draws := rfl
@[simp] theorem setCursor_pins (c : Cursor) (s : State) : (setCursor c s).pins = s.pins := rfl
@[simp] theorem setCursor_strapPins (c : Cursor) (s : State) : (setCursor c s).strapPins = s.strapPins := rfl
@[simp] theorem setCursor_stage (c : Cursor) (s : State) : (setCursor c s).stage = s.stage := rfl
@[simp] theorem setCursor_listenEnd (c : Cursor) (s : State) : (setCursor c s).listenEnd = s.listenEnd := rfl
@[simp] theorem setCursor_cfg (c : Cursor) (s : State) : (setCursor c s).cfg = s.cfg := rfl
@[simp] theorem setCursor_closures (c : Cursor) (s : State) : (setCursor c s).closures = s.closures := rfl
@[simp] theorem setCursor_children (c : Cursor) (s : State) : (setCursor c s).children = s.children := rfl
@[simp] theorem setCursor_group (c : Cursor) (s : State) : (setCursor c s).group = s.group := rfl
@[simp] theorem setCursor_release (c : Cursor) (s : State) : (setCursor c s).release = s.release := rfl
@[simp] theorem setCursor_timed (c : Cursor) (s : State) : (setCursor c s).timed = s.timed := rfl
@[simp] theorem setCursor_windows (c : Cursor) (s : State) : (setCursor c s).windows = s.windows := rfl
@[simp] theorem setCursor_motion (c : Cursor) (s : State) : (setCursor c s).motion = s.motion := rfl
@[simp] theorem setCursor_fobRun (c : Cursor) (s : State) : (setCursor c s).fobRun = s.fobRun := rfl
@[simp] theorem setCursor_key (c : Cursor) (s : State) : (setCursor c s).key = s.key := rfl
@[simp] theorem setCursor_search (c : Cursor) (s : State) : (setCursor c s).search = s.search := rfl
@[simp] theorem setCursor_op (c : Cursor) (s : State) : (setCursor c s).op = s.op := rfl
@[simp] theorem setCursor_counts (c : Cursor) (s : State) : (setCursor c s).counts = s.counts := rfl
@[simp] theorem setCursor_trap (c : Cursor) (s : State) : (setCursor c s).trap = s.trap := rfl
@[simp] theorem setCursor_pass (c : Cursor) (s : State) : (setCursor c s).pass = s.pass := rfl
@[simp] theorem setCursor_tx (c : Cursor) (s : State) : (setCursor c s).tx = s.tx := rfl
@[simp] theorem setCursor_port (c : Cursor) (s : State) : (setCursor c s).port = s.port := rfl
@[simp] theorem setCursor_nextStatus (c : Cursor) (s : State) : (setCursor c s).nextStatus = s.nextStatus := rfl
@[simp] theorem setCursor_channels (c : Cursor) (s : State) : (setCursor c s).channels = s.channels := rfl
@[simp] theorem setCursor_ctx (c : Cursor) (s : State) : (setCursor c s).ctx = s.ctx := rfl
@[simp] theorem setCursor_lines (c : Cursor) (s : State) : (setCursor c s).lines = s.lines := rfl
@[simp] theorem setCursor_mgmt (c : Cursor) (s : State) : (setCursor c s).mgmt = { s.mgmt with cursor := c } := rfl
@[simp] theorem setCursor_faults (c : Cursor) (s : State) : (setCursor c s).faults = s.faults := rfl
@[simp] theorem setCursor_store (c : Cursor) (s : State) : (setCursor c s).store = s.store := rfl

/-! ## setMask -/

@[simp] theorem setMask_pending (m : Option Word) (s : State) : (setMask m s).pending = s.pending := rfl
@[simp] theorem setMask_now (m : Option Word) (s : State) : (setMask m s).now = s.now := rfl
@[simp] theorem setMask_draws (m : Option Word) (s : State) : (setMask m s).draws = s.draws := rfl
@[simp] theorem setMask_pins (m : Option Word) (s : State) : (setMask m s).pins = s.pins := rfl
@[simp] theorem setMask_strapPins (m : Option Word) (s : State) : (setMask m s).strapPins = s.strapPins := rfl
@[simp] theorem setMask_stage (m : Option Word) (s : State) : (setMask m s).stage = s.stage := rfl
@[simp] theorem setMask_listenEnd (m : Option Word) (s : State) : (setMask m s).listenEnd = s.listenEnd := rfl
@[simp] theorem setMask_cfg (m : Option Word) (s : State) : (setMask m s).cfg = s.cfg := rfl
@[simp] theorem setMask_closures (m : Option Word) (s : State) : (setMask m s).closures = s.closures := rfl
@[simp] theorem setMask_children (m : Option Word) (s : State) : (setMask m s).children = s.children := rfl
@[simp] theorem setMask_group (m : Option Word) (s : State) : (setMask m s).group = s.group := rfl
@[simp] theorem setMask_release (m : Option Word) (s : State) : (setMask m s).release = s.release := rfl
@[simp] theorem setMask_timed (m : Option Word) (s : State) : (setMask m s).timed = s.timed := rfl
@[simp] theorem setMask_windows (m : Option Word) (s : State) : (setMask m s).windows = s.windows := rfl
@[simp] theorem setMask_motion (m : Option Word) (s : State) : (setMask m s).motion = s.motion := rfl
@[simp] theorem setMask_fobRun (m : Option Word) (s : State) : (setMask m s).fobRun = s.fobRun := rfl
@[simp] theorem setMask_key (m : Option Word) (s : State) : (setMask m s).key = s.key := rfl
@[simp] theorem setMask_search (m : Option Word) (s : State) : (setMask m s).search = s.search := rfl
@[simp] theorem setMask_op (m : Option Word) (s : State) : (setMask m s).op = s.op := rfl
@[simp] theorem setMask_counts (m : Option Word) (s : State) : (setMask m s).counts = s.counts := rfl
@[simp] theorem setMask_trap (m : Option Word) (s : State) : (setMask m s).trap = s.trap := rfl
@[simp] theorem setMask_pass (m : Option Word) (s : State) : (setMask m s).pass = s.pass := rfl
@[simp] theorem setMask_tx (m : Option Word) (s : State) : (setMask m s).tx = s.tx := rfl
@[simp] theorem setMask_port (m : Option Word) (s : State) : (setMask m s).port = s.port := rfl
@[simp] theorem setMask_nextStatus (m : Option Word) (s : State) : (setMask m s).nextStatus = s.nextStatus := rfl
@[simp] theorem setMask_channels (m : Option Word) (s : State) : (setMask m s).channels = s.channels := rfl
@[simp] theorem setMask_ctx (m : Option Word) (s : State) : (setMask m s).ctx = s.ctx := rfl
@[simp] theorem setMask_lines (m : Option Word) (s : State) : (setMask m s).lines = s.lines := rfl
@[simp] theorem setMask_mgmt (m : Option Word) (s : State) : (setMask m s).mgmt = { s.mgmt with mask := m } := rfl
@[simp] theorem setMask_faults (m : Option Word) (s : State) : (setMask m s).faults = s.faults := rfl
@[simp] theorem setMask_store (m : Option Word) (s : State) : (setMask m s).store = s.store := rfl

/-! ## Reading the records after an update -/

@[simp] theorem channel_setChannel (c : Closure) (ch : Channel) (s : State) : channel (setChannel c ch s) c = ch := by
  simp [channel]

theorem channel_setChannel_other {c d : Closure} (h : d ≠ c) (ch : Channel) (s : State) :
    channel (setChannel c ch s) d = channel s d := by simp [channel, Five.get_set_other h]

@[simp] theorem closure_setClosure (c : Closure) (k : ClosureLock) (s : State) : closure (setClosure c k s) c = k := by
  simp [closure]

theorem closure_setClosure_other {c d : Closure} (h : d ≠ c) (k : ClosureLock) (s : State) :
    closure (setClosure c k s) d = closure s d := by simp [closure, Five.get_set_other h]

@[simp] theorem child_setChild (d : RearDoor) (k : ChildLock) (s : State) : child (setChild d k s) d = k := by
  simp [child]

theorem child_setChild_other {d e : RearDoor} (h : e ≠ d) (k : ChildLock) (s : State) :
    child (setChild d k s) e = child s e := by simp [child, Two.get_set_other h]

@[simp] theorem window_setWindow (w : WindowId) (x : Window) (s : State) : window (setWindow w x s) w = x := by
  simp [window]

theorem window_setWindow_other {w v : WindowId} (h : v ≠ w) (x : Window) (s : State) :
    window (setWindow w x s) v = window s v := by simp [window, Four.get_set_other h]

@[simp] theorem setWindow_self (w : WindowId) (s : State) : setWindow w (window s w) s = s := by
  simp [setWindow, window]

@[simp] theorem setClosure_self (c : Closure) (s : State) : setClosure c (closure s c) s = s := by
  simp [setClosure, closure]

end Sys2Proof.Machine
end

