-- ==== Sys2Proof/Laws/Traffic.lean ====
section
/-!
SUPPORT. Offering frames, raising fault classes and noting activity: what each can change, said once.
-/

namespace Sys2Proof.Machine

/-- A state less the transmit queue and the fault table, which offers and raises change. -/
def lessTraffic (s : State) : State := { s with tx := [], faults := [] }

/-! ## The transmit queue (R160) -/

theorem enqueue_length {f : TxFrame} {q r : List TxFrame} (h : enqueue f q = some r) (hq : q.length ≤ Config.txPlaces) :
    r.length ≤ Config.txPlaces := by
  unfold enqueue at h
  split at h
  · cases h; simpa using hq
  · split at h
    · cases h; simpa using Nat.succ_le_of_lt ‹_›
    · cases h

/-- A response replaces nothing: it joins the tail, or is dropped by a full queue (R160). -/
theorem enqueue_response {f : TxFrame} (hf : f.kind = .response) (q : List TxFrame) :
    enqueue f q = if q.length < Config.txPlaces then some (q ++ [f]) else none := by
  have none_replaced : q.findIdx? (replaces f) = none := by
    rw [List.findIdx?_eq_none_iff]
    intro x _
    simp [replaces, hf]
  simp [enqueue, none_replaced]

/-- A frame that is neither page nor fault notice replaces nothing (R160 A). -/
theorem enqueue_other {f : TxFrame} (hf : f.kind = .other) (q : List TxFrame) :
    enqueue f q = if q.length < Config.txPlaces then some (q ++ [f]) else none := by
  have none_replaced : q.findIdx? (replaces f) = none := by
    rw [List.findIdx?_eq_none_iff]
    intro x _
    simp [replaces, hf]
  simp [enqueue, none_replaced]

theorem raiseTxOverflow_rest (s : State) : lessTraffic (raiseTxOverflow s) = lessTraffic s := by
  unfold raiseTxOverflow
  dsimp only
  split
  · rfl
  · split <;> rfl

theorem offer_rest (f : TxFrame) (s : State) : lessTraffic (offer f s) = lessTraffic s := by
  unfold offer
  split
  · split
    · rfl
    · exact raiseTxOverflow_rest s
  · rfl

theorem offerNotice_rest (d : List Byte) (s : State) : lessTraffic (offerNotice d s) = lessTraffic s := offer_rest _ s

theorem raiseWith_rest (d : Option PinchDetail) (cls : FaultClass) (who : Option Closure) (s : State) :
    lessTraffic (raiseWith d cls who s) = lessTraffic s := by
  unfold raiseWith
  dsimp only
  split
  · rfl
  · exact offer_rest _ _

theorem raise_rest (cls : FaultClass) (who : Option Closure) (s : State) :
    lessTraffic (raise cls who s) = lessTraffic s := raiseWith_rest none cls who s

theorem foldl_rest {α : Type} (f : State → α → State) (h : ∀ s a, lessTraffic (f s a) = lessTraffic s) (l : List α)
    (s : State) : lessTraffic (l.foldl f s) = lessTraffic s := by
  induction l generalizing s with
  | nil => rfl
  | cons a l ih => rw [List.foldl_cons, ih, h]

theorem offerPages_rest (s : State) : lessTraffic (offerPages s) = lessTraffic s :=
  foldl_rest _ (fun _ _ => offer_rest _ _) _ s

theorem offerPagesNow_rest (s : State) : lessTraffic (offerPagesNow s) = lessTraffic s := by
  unfold offerPagesNow
  split
  · exact offerPages_rest s
  · rfl

/-- A response taken by a queue with room joins its tail and changes nothing else. -/
theorem offer_response {f : TxFrame} (hf : f.kind = .response) {s : State} (room : s.tx.length < Config.txPlaces) :
    offer f s = { s with tx := s.tx ++ [f] } := by
  simp [offer, txTakes, hf, enqueue_response hf, room]

/-- From RUN on a notice or an uplink frame joins the tail of a queue with room. -/
theorem offer_other {f : TxFrame} (hf : f.kind = .other) {s : State} (run : s.stage = .run)
    (room : s.tx.length < Config.txPlaces) : offer f s = { s with tx := s.tx ++ [f] } := by
  simp [offer, txTakes, running, run, enqueue_other hf, room]

theorem raiseTxOverflow_length {s : State} (h : s.tx.length ≤ Config.txPlaces) :
    (raiseTxOverflow s).tx.length ≤ Config.txPlaces := by
  unfold raiseTxOverflow
  dsimp only
  split
  · exact h
  · split
    · exact enqueue_length ‹_› h
    · exact h

/-- The queue never holds more than 16 frames (R160). -/
theorem offer_length (f : TxFrame) {s : State} (h : s.tx.length ≤ Config.txPlaces) :
    (offer f s).tx.length ≤ Config.txPlaces := by
  unfold offer
  split
  · split
    · exact enqueue_length ‹_› h
    · exact raiseTxOverflow_length h
  · exact h

/-! ## Activity (R187) -/

theorem activity_run {s : State} (h : s.stage = .run) :
    activity s = recomputeIdle { s with ctx := { s.ctx with lastActivity := s.now } } := by
  simp [activity, running, h]

theorem activity_before_run {s : State} (h : s.stage ≠ .run) : activity s = s := by simp [activity, running, h]

theorem activity_agrees (s : State) : { activity s with ctx := s.ctx } = s := by
  unfold activity recomputeIdle
  split <;> rfl

/-- A wake changes nothing while the part is AWAKE (R192). -/
theorem wake_awake (cause : WakeCause) {s : State} (h : s.ctx.state = .awake) : wake cause s = s := by
  simp [wake, isAsleep, h]

end Sys2Proof.Machine
end

