-- ==== Sys2Proof/Laws/Close.lean ====
section
/-!
SUPPORT. The close of a step: it does nothing before RUN, and in a calm part it notes activity at most.
-/

namespace Sys2Proof.Machine

theorem setRate_same {c : Closure} {r : Rate} {s : State} (h : (channel s c).rate = r) : setRate c r s = s := by
  simp [setRate, h]

/-- A channel that already has the rate of R176 is left alone. -/
theorem chooseRates_settled {s : State} (h : ∀ c, (channel s c).rate = chosenRate s c) : chooseRates s = s := by
  simp [chooseRates, allClosures, setRate_same, h]

theorem finish_before_run (b : State) {s : State} (h : s.stage ≠ .run) : finish b s = s := by
  simp [finish, running, h]

theorem closeHold_agrees (b s : State) : AgreeButActivity (closeHold b s) s := by
  unfold closeHold activity recomputeIdle AgreeButActivity lessActivity
  split
  · split <;> rfl
  · rfl

/-- Agreeing states have every field but the two times of the activity in common. -/
theorem AgreeButActivity.same {s t : State} (h : AgreeButActivity s t) {α : Type} (f : State → α)
    (hf : ∀ u, f (lessActivity u) = f u) : f s = f t := by
  have e : lessActivity s = lessActivity t := h
  rw [← hf s, ← hf t, e]

/-- A state that agrees with a calm one but for activity is calm. -/
theorem Calm.of_agrees {s t : State} (h : AgreeButActivity s t) (c : Calm t) : Calm s := by
  have stages : s.stage = t.stage := h.same _ fun _ => rfl
  have channels : s.channels = t.channels := h.same _ fun _ => rfl
  have cfgs : s.cfg = t.cfg := h.same _ fun _ => rfl
  have states : s.ctx.state = t.ctx.state := h.same (fun u => u.ctx.state) fun _ => rfl
  have ignitions : s.ctx.ignition = t.ctx.ignition := h.same (fun u => u.ctx.ignition) fun _ => rfl
  refine ⟨stages ▸ c.supplied, fun r => states ▸ c.awake (stages ▸ r), fun r => ignitions ▸ c.ignition (stages ▸ r),
    fun r d => ?_⟩
  have run : t.stage = .run := stages ▸ r
  have rate := c.rates run d
  have awake := c.awake run
  simp only [chosenRate, channel, stages, channels, cfgs, run, states, awake] at rate ⊢
  exact rate

/-- In a calm part the close of a step notes activity at most (R188). -/
theorem finish_calm (b : State) {s : State} (c : Calm s) : finish b s = closeHold b s ∨ finish b s = s := by
  by_cases run : s.stage = .run
  · left
    have h := Calm.of_agrees (closeHold_agrees b s) c
    have stage : (closeHold b s).stage = .run := ((closeHold_agrees b s).same _ fun _ => rfl).trans run
    have unfolded : finish b s = closePages b (chooseRates (closeState (closeHold b s))) := by
      simp [finish, running, run]
    rw [unfolded]
    generalize closeHold b s = t at h stage ⊢
    have settled : closeState t = t := by
      simp [closeState, mayPark, maySinkDeep, isAwake, h.awake stage, h.ignition stage]
    rw [settled, chooseRates_settled (h.rates stage)]
    simp [closePages, h.awake stage]
  · right; exact finish_before_run b run

theorem finish_calm_agrees (b : State) {s : State} (c : Calm s) : AgreeButActivity (finish b s) s := by
  rcases finish_calm b c with h | h
  · rw [h]; exact closeHold_agrees b s
  · rw [h]; rfl

end Sys2Proof.Machine
end

