-- ==== Sys2Proof/Laws/Answers.lean ====
section
/-!
SUPPORT. How a command of a calm part comes to its next state: the effect of its meaning, then the close of the step.
-/

namespace Sys2Proof.Machine

theorem perform_supplied (dt : Nat) (f : State → State) {s : State} (h : s.stage ≠ .off) :
    perform dt f s = .next (finish (elapse dt s) (f (elapse dt s))) := by simp [perform, h]

theorem perform_off (dt : Nat) (f : State → State) {s : State} (h : s.stage = .off) :
    perform dt f s = .next (elapse dt s) := by simp [perform, h]

theorem AgreeButActivity.refl (s : State) : AgreeButActivity s s := rfl

theorem AgreeButActivity.symm {s t : State} (h : AgreeButActivity s t) : AgreeButActivity t s := Eq.symm h

theorem AgreeButActivity.trans {s t u : State} (h : AgreeButActivity s t) (g : AgreeButActivity t u) :
    AgreeButActivity s u := Eq.trans h g

theorem activity_agreeing (s : State) : AgreeButActivity (activity s) s := by
  unfold activity recomputeIdle
  split <;> rfl

/-- Calm depends on the stage, the operating state, the ignition, the rates and what R176 reads alone. -/
theorem Calm.of_same {s t : State} (c : Calm s) (h1 : t.stage = s.stage) (h2 : t.ctx.state = s.ctx.state)
    (h3 : t.ctx.ignition = s.ctx.ignition) (h4 : t.channels = s.channels) (h5 : t.cfg.modes = s.cfg.modes) : Calm t := by
  refine ⟨h1 ▸ c.supplied, fun r => h2 ▸ c.awake (h1 ▸ r), fun r => h3 ▸ c.ignition (h1 ▸ r), fun r d => ?_⟩
  have run : s.stage = .run := h1 ▸ r
  have rate := c.rates run d
  simp only [chosenRate, channel, run, c.awake run, r, h2, h4, h5] at rate ⊢
  exact rate

/-- Alert depends on the stage, the operating state, the ignition, the rates, the Park Delay and what R176 reads alone. -/
theorem Alert.of_same {s t : State} (a : Alert s) (h1 : t.stage = s.stage) (h2 : t.ctx.state = s.ctx.state)
    (h3 : t.ctx.ignition = s.ctx.ignition) (h4 : t.channels = s.channels) (h5 : t.cfg.modes = s.cfg.modes)
    (h6 : t.cfg.car.parkDelay = s.cfg.car.parkDelay) : Alert t := by
  refine ⟨h1.trans a.run, h2.trans a.awake, fun off => h6 ▸ a.parkDelay (h3 ▸ off), fun d => ?_⟩
  have rate := a.rates d
  simp only [chosenRate, channel, a.run, a.awake, h1, h2, h4, h5] at rate ⊢
  exact rate

/-- A steady part is an alert one, unless its Park Delay matters. -/
theorem Steady.alert {s : State} (a : Steady s) : Alert s :=
  ⟨a.run, a.awake a.run, fun off => absurd ((a.ignition a.run).symm.trans off) (by decide), a.rates a.run⟩

theorem Alert.supplied {s : State} (a : Alert s) : s.stage ≠ .off := by simp [a.run]

theorem Calm.elapse {s : State} (c : Calm s) (dt : Nat) : Calm (elapse dt s) := c.of_same rfl rfl rfl rfl rfl

theorem Steady.elapse {s : State} (a : Steady s) (dt : Nat) : Steady (elapse dt s) := ⟨a.toCalm.elapse dt, a.run⟩

theorem Alert.elapse {s : State} (a : Alert s) (dt : Nat) : Alert (elapse dt s) := a.of_same rfl rfl rfl rfl rfl rfl

/-- The next state of a command of a calm part. -/
theorem answers_of {i : Instr} {dt : Nat} {f : State → State} {s t : State} (meaning : exec i s = perform dt f s)
    (supplied : s.stage ≠ .off) (calm : Calm (f (elapse dt s))) (agrees : AgreeButActivity (f (elapse dt s)) t) :
    Answers i s t :=
  ⟨_, meaning.trans (perform_supplied dt f supplied), (finish_calm_agrees _ calm).trans agrees⟩

/-! ## Management requests (R197) -/

theorem manage_run {r : ManagementRequest} {s : State} (run : s.stage = .run) (h : r ≠ .restart) :
    manage r s = answer r (serve r (maskAfter r s)) := by
  have stage : (maskAfter r s).stage = .run := by unfold maskAfter; split <;> exact run
  simp [manage, following, run, running, stage, h]

theorem answer_calm {r : ManagementRequest} {x : Reply} (run : x.state.stage = .run) (awake : x.state.ctx.state = .awake)
    (room : x.state.tx.length < Config.txPlaces) :
    answer r x =
      activity { x.state with tx := x.state.tx ++ [responseFrame x.state (requestCode r) x.result x.tail] } := by
  unfold answer
  rw [offer_response rfl room]
  apply wake_awake
  simpa [activity, running, run, recomputeIdle] using awake

theorem closeHold_active {b s : State} (run : s.stage = .run) (h1 : s.ctx.lastActivity = s.now)
    (h2 : s.ctx.idleDeadline = idleDeadlineOf s) : closeHold b s = s := by
  unfold closeHold
  split
  · have same : ({ s with ctx := { s.ctx with lastActivity := s.now } } : State) = s := by
      obtain ⟨⟩ := s
      simp only at h1
      subst h1
      rfl
    rw [activity_run run, same, recomputeIdle, ← h2]
  · rfl

/-- A part that noted activity just now does not park (R187, R189). -/
theorem Alert.stays {s : State} (a : Alert s) (h1 : s.ctx.lastActivity = s.now)
    (h2 : s.ctx.idleDeadline = idleDeadlineOf s) : mayPark s = false := by
  by_cases off : s.ctx.ignition = .off
  · have delay := a.parkDelay off
    have ahead : ¬ s.ctx.idleDeadline ≤ s.now := by
      rw [h2]
      unfold idleDeadlineOf Config.ajarDelay
      split <;> omega
    simp [mayPark, ahead]
  · simp [mayPark, off]

/-- The next state of a step whose effect ends with an activity event, in an alert part. -/
theorem finish_active {b s : State} (a : Alert s) (h1 : s.ctx.lastActivity = s.now)
    (h2 : s.ctx.idleDeadline = idleDeadlineOf s) : finish b s = s := by
  have unfolded : finish b s = closePages b (chooseRates (closeState (closeHold b s))) := by
    simp [finish, running, a.run]
  have settled : closeState s = s := by simp [closeState, a.stays h1 h2, maySinkDeep, a.awake]
  rw [unfolded, closeHold_active a.run h1 h2, settled, chooseRates_settled a.rates]
  simp [closePages, a.awake]

/-- The next state of a management request other than RESTART, in an alert part with room in the queue. -/
theorem answersActive_request {i : Instr} {dt : Nat} {r : ManagementRequest} {s t : State}
    (meaning : exec i s = perform dt (manage r) s) (alert : Alert s) (h : r ≠ .restart) (x : Reply)
    (served : serve r (maskAfter r (elapse dt s)) = x) (calm : Alert x.state)
    (room : x.state.tx.length < Config.txPlaces)
    (agrees : AgreeButActivity
      { x.state with tx := x.state.tx ++ [responseFrame x.state (requestCode r) x.result x.tail] } t) :
    AnswersActive i s t := by
  have managed : manage r (elapse dt s) = answer r x := by rw [manage_run (s := elapse dt s) alert.run h, served]
  have run := calm.run
  rw [answer_calm run calm.awake room] at managed
  refine ⟨manage r (elapse dt s), ?_, ?_, ?_, ?_⟩
  · rw [meaning, perform_supplied dt _ alert.supplied, finish_active]
    · rw [managed]
      refine calm.of_same ?_ ?_ ?_ ?_ ?_ ?_ <;> simp [activity, running, run, recomputeIdle]
    · rw [managed]; simp [activity, running, run, recomputeIdle]
    · rw [managed]; simp [activity, running, run, recomputeIdle, idleDeadlineOf, anyAjar, closure]
  · rw [managed]; exact (activity_agreeing _).trans agrees
  · rw [managed]; simp [activity, running, run, recomputeIdle]
  · rw [managed]; simp [activity, running, run, recomputeIdle, idleDeadlineOf, anyAjar, closure]

/-- The same, where the request uses the one-shot mask up: `t` holds its effect, and `replied` the rest. -/
theorem answersActive_replied {i : Instr} {dt : Nat} {r : ManagementRequest} {s t : State} {result : Result}
    {tail : List Byte} (meaning : exec i s = perform dt (manage r) s) (alert : Alert s) (h : r ≠ .restart)
    (served : serve r (maskAfter r (elapse dt s)) =
      ⟨{ t with now := t.now + dt, mgmt := { t.mgmt with mask := none } }, result, tail⟩)
    (calm : Alert t) (room : t.tx.length < Config.txPlaces) :
    AnswersActive i s (replied dt (requestCode r) result tail t) :=
  answersActive_request meaning alert h _ served (calm.of_same rfl rfl rfl rfl rfl rfl) room rfl

end Sys2Proof.Machine
end

