-- ==== Sys2Proof/Laws/PerInstr.lean ====
section
/-!
SUPPORT. What holds of every command as syntax, one lemma for each constructor. The family `Timing`: the time before a
command decides neither whether it is well-formed nor what it is otherwise.
-/

namespace Sys2Proof.Laws.Timing

/-- Without the time before it a command is as well-formed as with it, carries no time, and has no time left to lose. -/
def Statement (i : Instr) : Prop := i.soon.wellFormed = i.wellFormed ∧ i.soon.elapsed = 0 ∧ i.soon.soon = i.soon

theorem powerOn (v0 v1 v2 v3) : Statement (.powerOn v0 v1 v2 v3) := ⟨rfl, rfl, rfl⟩

theorem loadComplete (v0) : Statement (.loadComplete v0) := ⟨rfl, rfl, rfl⟩

theorem listenEnd (v0) : Statement (.listenEnd v0) := ⟨rfl, rfl, rfl⟩

theorem bodyFrameReceived (v0 v1 v2) : Statement (.bodyFrameReceived v0 v1 v2) := ⟨rfl, rfl, rfl⟩

theorem select (v0 v1 v2 v3) : Statement (.select v0 v1 v2 v3) := ⟨rfl, rfl, rfl⟩

theorem read (v0) : Statement (.read v0) := ⟨rfl, rfl, rfl⟩

theorem write (v0 v1) : Statement (.write v0 v1) := ⟨rfl, rfl, rfl⟩

theorem writeTravel (v0 v1) : Statement (.writeTravel v0 v1) := ⟨rfl, rfl, rfl⟩

theorem writeOpenLimit (v0 v1) : Statement (.writeOpenLimit v0 v1) := ⟨rfl, rfl, rfl⟩

theorem writeChildOpenLimit (v0 v1) : Statement (.writeChildOpenLimit v0 v1) := ⟨rfl, rfl, rfl⟩

theorem writeWindowLockout (v0 v1) : Statement (.writeWindowLockout v0 v1) := ⟨rfl, rfl, rfl⟩

theorem writeParameters (v0 v1) : Statement (.writeParameters v0 v1) := ⟨rfl, rfl, rfl⟩

theorem writeChannelPowerMode (v0 v1) : Statement (.writeChannelPowerMode v0 v1) := ⟨rfl, rfl, rfl⟩

theorem writeParkDelay (v0 v1) : Statement (.writeParkDelay v0 v1) := ⟨rfl, rfl, rfl⟩

theorem writeDeepDelay (v0 v1) : Statement (.writeDeepDelay v0 v1) := ⟨rfl, rfl, rfl⟩

theorem writeProfiles (v0 v1) : Statement (.writeProfiles v0 v1) := ⟨rfl, rfl, rfl⟩

theorem writeFobs (v0 v1) : Statement (.writeFobs v0 v1) := ⟨rfl, rfl, rfl⟩

theorem writePassiveSettings (v0 v1) : Statement (.writePassiveSettings v0 v1) := ⟨rfl, rfl, rfl⟩

theorem writeOperations (v0 v1) : Statement (.writeOperations v0 v1) := ⟨rfl, rfl, rfl⟩

theorem writeRules (v0 v1) : Statement (.writeRules v0 v1) := ⟨rfl, rfl, rfl⟩

theorem writeWakeLines (v0 v1) : Statement (.writeWakeLines v0 v1) := ⟨rfl, rfl, rfl⟩

theorem writeManagement (v0 v1) : Statement (.writeManagement v0 v1) := ⟨rfl, rfl, rfl⟩

theorem mask (v0 v1) : Statement (.mask v0 v1) := ⟨rfl, rfl, rfl⟩

theorem release (v0 v1) : Statement (.release v0 v1) := ⟨rfl, rfl, rfl⟩

theorem discard (v0 v1) : Statement (.discard v0 v1) := ⟨rfl, rfl, rfl⟩

theorem lockAll (v0) : Statement (.lockAll v0) := ⟨rfl, rfl, rfl⟩

theorem unlockAll (v0) : Statement (.unlockAll v0) := ⟨rfl, rfl, rfl⟩

theorem unlockDriver (v0) : Statement (.unlockDriver v0) := ⟨rfl, rfl, rfl⟩

theorem deadlockAll (v0) : Statement (.deadlockAll v0) := ⟨rfl, rfl, rfl⟩

theorem unlockTailgate (v0) : Statement (.unlockTailgate v0) := ⟨rfl, rfl, rfl⟩

theorem releaseTailgate (v0) : Statement (.releaseTailgate v0) := ⟨rfl, rfl, rfl⟩

theorem crashUnlock (v0) : Statement (.crashUnlock v0) := ⟨rfl, rfl, rfl⟩

theorem crashClear (v0) : Statement (.crashClear v0) := ⟨rfl, rfl, rfl⟩

theorem childSet (v0 v1 v2) : Statement (.childSet v0 v1 v2) := ⟨rfl, rfl, rfl⟩

theorem clearNormalized (v0 v1) : Statement (.clearNormalized v0 v1) := ⟨rfl, rfl, rfl⟩

theorem windowMove (v0 v1 v2) : Statement (.windowMove v0 v1 v2) := ⟨rfl, rfl, rfl⟩

theorem windowStop (v0 v1) : Statement (.windowStop v0 v1) := ⟨rfl, rfl, rfl⟩

theorem operationStart (v0 v1) : Statement (.operationStart v0 v1) := ⟨rfl, rfl, rfl⟩

theorem operationCancel (v0) : Statement (.operationCancel v0) := ⟨rfl, rfl, rfl⟩

theorem clearWake (v0 v1) : Statement (.clearWake v0 v1) := ⟨rfl, rfl, rfl⟩

theorem faults (v0) : Statement (.faults v0) := ⟨rfl, rfl, rfl⟩

theorem clearFaults (v0) : Statement (.clearFaults v0) := ⟨rfl, rfl, rfl⟩

theorem save (v0) : Statement (.save v0) := ⟨rfl, rfl, rfl⟩

theorem protect (v0 v1 v2 v3) : Statement (.protect v0 v1 v2 v3) := ⟨rfl, rfl, rfl⟩

theorem restart (v0) : Statement (.restart v0) := ⟨rfl, rfl, rfl⟩

theorem status (v0) : Statement (.status v0) := ⟨rfl, rfl, rfl⟩

theorem unknownRequest (v0 v1) : Statement (.unknownRequest v0 v1) := ⟨rfl, rfl, rfl⟩

theorem nodeReport (v0 v1 v2) : Statement (.nodeReport v0 v1 v2) := ⟨rfl, rfl, rfl⟩

theorem linkCycleEnd (v0 v1) : Statement (.linkCycleEnd v0 v1) := ⟨rfl, rfl, rfl⟩

theorem motionGrant (v0) : Statement (.motionGrant v0) := ⟨rfl, rfl, rfl⟩

theorem pendingRequestTaken (v0) : Statement (.pendingRequestTaken v0) := ⟨rfl, rfl, rfl⟩

theorem driveDeadline (v0 v1) : Statement (.driveDeadline v0 v1) := ⟨rfl, rfl, rfl⟩

theorem settleDeadline (v0 v1) : Statement (.settleDeadline v0 v1) := ⟨rfl, rfl, rfl⟩

theorem childSettleDeadline (v0 v1) : Statement (.childSettleDeadline v0 v1) := ⟨rfl, rfl, rfl⟩

theorem refillDeadline (v0) : Statement (.refillDeadline v0) := ⟨rfl, rfl, rfl⟩

theorem relockDeadline (v0) : Statement (.relockDeadline v0) := ⟨rfl, rfl, rfl⟩

theorem releaseDeadline (v0) : Statement (.releaseDeadline v0) := ⟨rfl, rfl, rfl⟩

theorem driverFirstWindowExpiry (v0) : Statement (.driverFirstWindowExpiry v0) := ⟨rfl, rfl, rfl⟩

theorem doubleLockWindowExpiry (v0) : Statement (.doubleLockWindowExpiry v0) := ⟨rfl, rfl, rfl⟩

theorem timedPatternDeadline (v0) : Statement (.timedPatternDeadline v0) := ⟨rfl, rfl, rfl⟩

theorem retainedDeadline (v0) : Statement (.retainedDeadline v0) := ⟨rfl, rfl, rfl⟩

theorem normalizationHoldDeadline (v0 v1) : Statement (.normalizationHoldDeadline v0 v1) := ⟨rfl, rfl, rfl⟩

theorem runTimeLimit (v0 v1) : Statement (.runTimeLimit v0 v1) := ⟨rfl, rfl, rfl⟩

theorem candidateDeadline (v0 v1) : Statement (.candidateDeadline v0 v1) := ⟨rfl, rfl, rfl⟩

theorem holdDeadline (v0) : Statement (.holdDeadline v0) := ⟨rfl, rfl, rfl⟩

theorem leaseDeadline (v0) : Statement (.leaseDeadline v0) := ⟨rfl, rfl, rfl⟩

theorem searchDeadline (v0 v1) : Statement (.searchDeadline v0 v1) := ⟨rfl, rfl, rfl⟩

theorem trapExpiry (v0 v1) : Statement (.trapExpiry v0 v1) := ⟨rfl, rfl, rfl⟩

theorem speedFreshnessDeadline (v0) : Statement (.speedFreshnessDeadline v0) := ⟨rfl, rfl, rfl⟩

theorem voltageFreshnessDeadline (v0) : Statement (.voltageFreshnessDeadline v0) := ⟨rfl, rfl, rfl⟩

theorem statusPeriod (v0) : Statement (.statusPeriod v0) := ⟨rfl, rfl, rfl⟩

theorem idleDeadline (v0) : Statement (.idleDeadline v0) := ⟨rfl, rfl, rfl⟩

theorem parkSave (v0) : Statement (.parkSave v0) := ⟨rfl, rfl, rfl⟩

theorem deepDeadline (v0) : Statement (.deepDeadline v0) := ⟨rfl, rfl, rfl⟩

theorem ignitionTransition (v0 v1) : Statement (.ignitionTransition v0 v1) := ⟨rfl, rfl, rfl⟩

theorem wakeLineDetection (v0 v1) : Statement (.wakeLineDetection v0 v1) := ⟨rfl, rfl, rfl⟩

theorem busOff (v0) : Statement (.busOff v0) := ⟨rfl, rfl, rfl⟩

theorem portActiveReturn (v0) : Statement (.portActiveReturn v0) := ⟨rfl, rfl, rfl⟩

theorem beginTransmission (v0) : Statement (.beginTransmission v0) := ⟨rfl, rfl, rfl⟩

theorem frameAcknowledged (v0) : Statement (.frameAcknowledged v0) := ⟨rfl, rfl, rfl⟩

theorem transmissionFailed (v0) : Statement (.transmissionFailed v0) := ⟨rfl, rfl, rfl⟩

theorem saveComplete (v0 v1) : Statement (.saveComplete v0 v1) := ⟨rfl, rfl, rfl⟩

theorem powerLoss (v0 v1) : Statement (.powerLoss v0 v1) := ⟨rfl, rfl, rfl⟩

theorem wakeLineLevelChange (v0 v1 v2) : Statement (.wakeLineLevelChange v0 v1 v2) := ⟨rfl, rfl, rfl⟩

end Sys2Proof.Laws.Timing
end

