-- ==== Sys2Proof/Laws/Sending.lean ====
section
/-!
SUPPORT. What sending a Node Drive does, said once: the drive of an awake part and the state after it, in the terms of the
statements.
-/

namespace Sys2Proof.Machine

theorem motorCommand_eq (x : Window) : motorCommand x = nextMotor x := by
  unfold motorCommand nextMotor windowMoving
  cases x.state <;> cases x.stopDue <;> cases x.direction <;> cases x.lastDrive <;> rfl

theorem drivenRecord_eq (now : Nat) (motor : MotorCommand) (x : Window) :
    drivenRecord now motor x = drivenWindow now motor x := by
  unfold drivenRecord drivenWindow motorStart commandDirection
  cases motor <;> cases x.lastDrive <;> simp

theorem isPulse_iff (k : LockCommand) : isPulse k = true ↔ k = .lockPulse ∨ k = .unlockPulse ∨ k = .deadlockPulse := by
  cases k <;> decide

theorem lockLamp_eq (s : State) :
    lockLamp s = (s.timed.map (·.pattern)).getD
      (if ∀ d ∈ [Closure.fl, .fr, .rl, .rr], (closure s d).sensed = .deadlocked then .slow else .off) := by
  unfold lockLamp basePattern
  cases s.timed <;> simp

theorem childLamp_eq (s : State) :
    childLamp s =
      if (child s .rl).phase = .fault ∨ (child s .rr).phase = .fault then .fast
      else if (child s .rl).target ≠ (child s .rr).target then .slow
      else if (child s .rl).target = .engaged then .steady
      else .off := by
  unfold childLamp allRearDoors
  cases (child s .rl).target <;> cases (child s .rr).target <;> simp

/-- The drive that an awake part builds (R167). -/
theorem buildDrive_eq {s : State} (run : s.stage = .run) (awake : s.ctx.state ≠ .deep) (c : Closure) :
    buildDrive s c = nextDrive c s := by
  have on : running s = true := by simp [running, run]
  have shown : (s.ctx.state != .deep) = true := by simpa using awake
  unfold buildDrive nextDrive driveLamps channelLamps lockoutLamp
  simp only [on, shown, Bool.and_self, if_true, lockLamp_eq, childLamp_eq, isPulse_iff, motorCommand_eq, Bool.true_and]
  cases c <;> simp [closureRear, closureWindow] <;> split <;> simp_all

/-- The owners of the closure's own lock command count it as sent (R12). -/
theorem commandSent_eq (now : Nat) (k : ClosureLock) :
    commandSent now k =
      { k with
        command := .idle, pulseSteps := 0
        driveDeadline :=
          if k.command = .lockPulse ∨ k.command = .unlockPulse ∨ k.command = .deadlockPulse then
            some (now + 10 * k.pulseSteps + 100)
          else k.driveDeadline } := by
  simp [commandSent, isPulse_iff, Config.driveMargin]

/-- A STOP frees the slots that waited for it, and any other motor command none (R58). -/
theorem slots_sent (w : WindowId) (stop : Bool) (slots : List Slot) :
    (if stop = true then freeEnded w slots else slots) =
      slots.filter fun sl => !(windowClosure sl.window == windowClosure w && sl.ending && stop) := by
  cases stop
  · simp
  · have same (x : WindowId) : (windowClosure x == windowClosure w) = (x == w) := by cases x <;> cases w <;> rfl
    simp [freeEnded, same]

/-- What counting a drive as sent does from RUN on, field by field (R167). -/
theorem noteSent_eq {s : State} (run : running s = true) (c : Closure) (d : NodeDrive) :
    noteSent c d s =
      { s with
        closures := s.closures.set c (commandSent s.now (closure s c))
        children := s.children.mapWith fun e k => if rearClosure e = c then { k with command := none } else k
        release := if d.release then ⟨some (s.now + Config.releaseTime), false⟩ else s.release
        pass := s.pass.set c (s.pass.get c).tail
        windows := s.windows.mapWith fun w x =>
          if windowClosure w = c then drivenRecord s.now d.motor x else x
        motion := { s.motion with
          slots := s.motion.slots.filter fun sl =>
            !(windowClosure sl.window == c && sl.ending && d.motor == .stop) } } := by
  unfold noteSent
  rw [if_pos run]
  cases c
  all_goals
    simp only [sentMotor, sentPayload, sentRelease, sentChild, sentLock, closureRear, closureWindow, setClosure, setWindow,
      setChild]
    congr 1
  case tg.e_motion =>
    have none_waits : s.motion.slots.filter
        (fun sl => !(windowClosure sl.window == Closure.tg && sl.ending && d.motor == MotorCommand.stop)) =
        s.motion.slots := by
      refine List.filter_eq_self.mpr fun sl _ => ?_
      cases sl.window <;> rfl
    rw [none_waits]
  all_goals rw [slots_sent]; rfl

/-- Sending the drive of a channel that runs FAST (R165, R167). -/
theorem sendDrive_eq {s : State} {c : Closure} (run : s.stage = .run) (awake : s.ctx.state ≠ .deep)
    (fast : (channel s c).rate = .fast) : sendDrive c s = driveSent s.now (channel s c) c s := by
  have on : running s = true := by simp [running, run]
  have rate : (s.channels.get c).rate = .fast := fast
  unfold sendDrive driveSent
  simp only [noteSent_eq on, buildDrive_eq run awake, drivenRecord_eq, commandSent_eq, setChannel, channel, rate, period]

end Sys2Proof.Machine
end

