-- ==== Sys2Proof/Laws/Surroundings.lean ====
section
/-!
SUPPORT. What the operations of the eight blocks leave alone: the queue of commands, the clock, the number of free values
drawn, the pins, the end of LISTEN and the management record. Only a step's own frame, a start-up and a management
request change any of them. One lemma for each operation.
-/

namespace Sys2Proof.Machine

/-- The parts of a state that no operation of the blocks touches, as one value. -/
def surroundingsOf (pending : List Instr) (now draws : Nat) (pins : Six Level) (strapPins : Straps)
    (listenEnd : Option Nat) (mgmt : Mgmt) :=
  (pending, now, draws, pins, strapPins, listenEnd, mgmt)

/-- The surroundings of a state. -/
def surroundings (s : State) :=
  surroundingsOf s.pending s.now s.draws s.pins s.strapPins s.listenEnd s.mgmt

@[simp] theorem surroundings_fold (s : State) :
    surroundingsOf s.pending s.now s.draws s.pins s.strapPins s.listenEnd s.mgmt = surroundings s := rfl

@[simp] theorem surroundings_mk
    (pending now draws pins strapPins stage listenEnd cfg closures children group release timed windows motion
    fobRun key search op counts trap pass tx port nextStatus channels ctx lines mgmt faults store) :
    surroundings
      ⟨pending, now, draws, pins, strapPins, stage, listenEnd, cfg, closures, children, group, release, timed,
       windows, motion, fobRun, key, search, op, counts, trap, pass, tx, port, nextStatus, channels, ctx, lines,
       mgmt, faults, store⟩ =
      surroundingsOf pending now draws pins strapPins listenEnd mgmt := rfl

theorem surroundings_eq {s t : State} (h : surroundings s = surroundings t) :
    s.pending = t.pending ∧ s.now = t.now ∧ s.draws = t.draws ∧ s.pins = t.pins ∧ s.strapPins = t.strapPins ∧
      s.listenEnd = t.listenEnd ∧ s.mgmt = t.mgmt := by
  simpa [surroundings, surroundingsOf] using h

@[simp] theorem foldl_surroundings {α : Type} {f : State → α → State}
    (h : ∀ s a, surroundings (f s a) = surroundings s) (l : List α) (s : State) :
    surroundings (l.foldl f s) = surroundings s := by
  induction l generalizing s with
  | nil => rfl
  | cons a l ih => rw [List.foldl_cons, ih, h]

@[simp] theorem setChannel_surroundings (c : Closure) (ch : Channel) (s : State) :
    surroundings (setChannel c ch s) = surroundings s := by simp [setChannel]

@[simp] theorem setClosure_surroundings (c : Closure) (k : ClosureLock) (s : State) :
    surroundings (setClosure c k s) = surroundings s := by simp [setClosure]

@[simp] theorem setChild_surroundings (d : RearDoor) (k : ChildLock) (s : State) :
    surroundings (setChild d k s) = surroundings s := by simp [setChild]

@[simp] theorem setWindow_surroundings (w : WindowId) (x : Window) (s : State) :
    surroundings (setWindow w x s) = surroundings s := by simp [setWindow]

@[simp] theorem countFault_surroundings (cls : FaultClass) (who : Option Closure) (s : State) :
    surroundings (countFault cls who s) = surroundings s := by simp [countFault]

@[simp] theorem raiseTxOverflow_surroundings (s : State) :
    surroundings (raiseTxOverflow s) = surroundings s := by
  unfold raiseTxOverflow
  dsimp only
  (repeat' split) <;> simp

@[simp] theorem offer_surroundings (f : TxFrame) (s : State) :
    surroundings (offer f s) = surroundings s := by
  unfold offer
  (repeat' split) <;> simp

@[simp] theorem offerNotice_surroundings (data : List Byte) (s : State) :
    surroundings (offerNotice data s) = surroundings s := by simp [offerNotice]

@[simp] theorem raiseWith_surroundings (detail : Option PinchDetail) (cls : FaultClass) (who : Option Closure)
    (s : State) :
    surroundings (raiseWith detail cls who s) = surroundings s := by
  unfold raiseWith
  dsimp only
  (repeat' split) <;> simp

@[simp] theorem raise_surroundings (cls : FaultClass) (who : Option Closure) (s : State) :
    surroundings (raise cls who s) = surroundings s := by simp [raise]

@[simp] theorem recomputeIdle_surroundings (s : State) :
    surroundings (recomputeIdle s) = surroundings s := by simp [recomputeIdle]

@[simp] theorem activity_surroundings (s : State) :
    surroundings (activity s) = surroundings s := by
  unfold activity
  split <;> simp

@[simp] theorem endRunning_surroundings (w : WindowId) (outcome : Option MotionOutcome) (s : State) :
    surroundings (endRunning w outcome s) = surroundings s := by simp [endRunning]

@[simp] theorem endWaiting_surroundings (w : WindowId) (outcome : MotionOutcome) (s : State) :
    surroundings (endWaiting w outcome s) = surroundings s := by simp [endWaiting]

@[simp] theorem endMotionRecord_surroundings (w : WindowId) (outcome : MotionOutcome) (s : State) :
    surroundings (endMotionRecord w outcome s) = surroundings s := by
  unfold endMotionRecord
  (repeat' split) <;> simp

@[simp] theorem offerPages_surroundings (s : State) :
    surroundings (offerPages s) = surroundings s := by simp [offerPages]

@[simp] theorem offerPagesNow_surroundings (s : State) :
    surroundings (offerPagesNow s) = surroundings s := by
  unfold offerPagesNow
  split <;> simp

@[simp] theorem sentLock_surroundings (c : Closure) (s : State) :
    surroundings (sentLock c s) = surroundings s := by simp [sentLock]

@[simp] theorem sentChild_surroundings (c : Closure) (s : State) :
    surroundings (sentChild c s) = surroundings s := by
  unfold sentChild
  split <;> simp

@[simp] theorem sentRelease_surroundings (carried : Bool) (s : State) :
    surroundings (sentRelease carried s) = surroundings s := by simp [sentRelease]

@[simp] theorem sentPayload_surroundings (c : Closure) (s : State) :
    surroundings (sentPayload c s) = surroundings s := by simp [sentPayload]

@[simp] theorem sentMotor_surroundings (c : Closure) (motor : MotorCommand) (s : State) :
    surroundings (sentMotor c motor s) = surroundings s := by
  unfold sentMotor
  split <;> simp

@[simp] theorem noteSent_surroundings (c : Closure) (d : NodeDrive) (s : State) :
    surroundings (noteSent c d s) = surroundings s := by
  unfold noteSent
  (repeat' split) <;> simp

@[simp] theorem sendDrive_surroundings (c : Closure) (s : State) :
    surroundings (sendDrive c s) = surroundings s := by simp [sendDrive]

@[simp] theorem setRate_surroundings (c : Closure) (r : Rate) (s : State) :
    surroundings (setRate c r s) = surroundings s := by
  unfold setRate
  dsimp only
  (repeat' split) <;> simp

@[simp] theorem chooseRates_surroundings (s : State) :
    surroundings (chooseRates s) = surroundings s := by simp [chooseRates]

@[simp] theorem beginSave_surroundings (s : State) :
    surroundings (beginSave s) = surroundings s := by simp [beginSave]

@[simp] theorem parkSave_surroundings (s : State) :
    surroundings (parkSave s) = surroundings s := by
  unfold parkSave
  split <;> simp

@[simp] theorem clearReported_surroundings (s : State) :
    surroundings (clearReported s) = surroundings s := by simp [clearReported]

@[simp] theorem startStatus_surroundings (s : State) :
    surroundings (startStatus s) = surroundings s := by simp [startStatus]

@[simp] theorem enterAwake_surroundings (cause : WakeCause) (s : State) :
    surroundings (enterAwake cause s) = surroundings s := by simp [enterAwake]

@[simp] theorem wake_surroundings (cause : WakeCause) (s : State) :
    surroundings (wake cause s) = surroundings s := by
  unfold wake
  split <;> simp

@[simp] theorem enterParked_surroundings (s : State) :
    surroundings (enterParked s) = surroundings s := by simp [enterParked]

@[simp] theorem enterDeep_surroundings (s : State) :
    surroundings (enterDeep s) = surroundings s := by simp [enterDeep]

@[simp] theorem closeHold_surroundings (before s : State) :
    surroundings (closeHold before s) = surroundings s := by
  unfold closeHold
  split <;> simp

@[simp] theorem closeState_surroundings (s : State) :
    surroundings (closeState s) = surroundings s := by
  unfold closeState
  dsimp only
  (repeat' split) <;> simp

@[simp] theorem closePages_surroundings (before s : State) :
    surroundings (closePages before s) = surroundings s := by
  unfold closePages
  split <;> simp

@[simp] theorem finish_surroundings (before s : State) :
    surroundings (finish before s) = surroundings s := by
  unfold finish
  split <;> simp

@[simp] theorem endOperation_surroundings (op : ActiveOp) (s : State) :
    surroundings (endOperation op s) = surroundings s := by simp [endOperation]

@[simp] theorem keepOrEnd_surroundings (op : ActiveOp) (s : State) :
    surroundings (keepOrEnd op s) = surroundings s := by
  unfold keepOrEnd
  split <;> simp

@[simp] theorem stopForEngine_surroundings (w : WindowId) (s : State) :
    surroundings (stopForEngine w s) = surroundings s := by
  unfold stopForEngine
  dsimp only
  (repeat' split) <;> simp

@[simp] theorem abort_surroundings (cause : AbortCause) (s : State) :
    surroundings (abort cause s) = surroundings s := by
  unfold abort
  split <;> simp

@[simp] theorem crashTest_surroundings (s : State) :
    surroundings (crashTest s) = surroundings s := by
  unfold crashTest
  split <;> simp

@[simp] theorem handStatus_surroundings (w : WindowId) (status : StepStatus) (s : State) :
    surroundings (handStatus w status s) = surroundings s := by
  unfold handStatus
  dsimp only
  (repeat' split) <;> simp

@[simp] theorem handOutcome_surroundings (origin : Option Origin) (w : WindowId) (outcome : MotionOutcome) (s : State) :
    surroundings (handOutcome origin w outcome s) = surroundings s := by
  unfold handOutcome
  (repeat' split) <;> simp

@[simp] theorem endMotion_surroundings (w : WindowId) (outcome : MotionOutcome) (s : State) :
    surroundings (endMotion w outcome s) = surroundings s := by
  unfold endMotion
  dsimp only
  (repeat' split) <;> simp

@[simp] theorem refuseWindow_surroundings (w : WindowId) (origin : Option Origin) (cause : WindowRefusal) (s : State) :
    surroundings (refuseWindow w origin cause s) = surroundings s := by
  unfold refuseWindow
  split <;> simp

@[simp] theorem completeAtOnce_surroundings (r : WindowRequest) (s : State) :
    surroundings (completeAtOnce r s) = surroundings s := by simp [completeAtOnce]

@[simp] theorem placeRequest_surroundings (r : WindowRequest) (dir : Direction) (s : State) :
    surroundings (placeRequest r dir s) = surroundings s := by
  unfold placeRequest
  dsimp only
  (repeat' split) <;> simp

@[simp] theorem acceptRequest_surroundings (r : WindowRequest) (s : State) :
    surroundings (acceptRequest r s) = surroundings s := by
  unfold acceptRequest
  dsimp only
  (repeat' split) <;> simp

@[simp] theorem checkRequest_surroundings (r : WindowRequest) (s : State) :
    surroundings (checkRequest r s) = surroundings s := by
  unfold checkRequest
  dsimp only
  (repeat' split) <;> simp

@[simp] theorem requestMotion_surroundings (r : WindowRequest) (s : State) :
    surroundings (requestMotion r s) = surroundings s := by
  unfold requestMotion
  split <;> simp

@[simp] theorem stopWindow_surroundings (w : WindowId) (s : State) :
    surroundings (stopWindow w s) = surroundings s := by
  unfold stopWindow
  dsimp only
  (repeat' split) <;> simp

@[simp] theorem clearNormalized_surroundings (w : WindowId) (s : State) :
    surroundings (clearNormalized w s) = surroundings s := by
  unfold clearNormalized
  split <;> simp

@[simp] theorem endIfReached_surroundings (w : WindowId) (s : State) :
    surroundings (endIfReached w s) = surroundings s := by
  unfold endIfReached
  dsimp only
  (repeat' split) <;> simp

@[simp] theorem followLimit_surroundings (before : State) (w : WindowId) (s : State) :
    surroundings (followLimit before w s) = surroundings s := by
  unfold followLimit
  split <;> simp

@[simp] theorem followInhibit_surroundings (before : State) (w : WindowId) (s : State) :
    surroundings (followInhibit before w s) = surroundings s := by
  unfold followInhibit
  dsimp only
  (repeat' split) <;> simp

@[simp] theorem followSettings_surroundings (before s : State) :
    surroundings (followSettings before s) = surroundings s := by simp [followSettings]

@[simp] theorem press_surroundings (w : WindowId) (origin : Origin) (level : Switch) (s : State) :
    surroundings (press w origin level s) = surroundings s := by
  unfold press
  dsimp only
  (repeat' split) <;> simp

@[simp] theorem releaseSwitch_surroundings (w : WindowId) (origin : Origin) (s : State) :
    surroundings (releaseSwitch w origin s) = surroundings s := by
  unfold releaseSwitch
  split <;> simp

@[simp] theorem makeAuto_surroundings (w : WindowId) (origin : Origin) (dir : Direction) (s : State) :
    surroundings (makeAuto w origin dir s) = surroundings s := by
  unfold makeAuto
  dsimp only
  (repeat' split) <;> simp

@[simp] theorem pressUnder_surroundings (w : WindowId) (origin : Origin) (level other : Switch) (s : State) :
    surroundings (pressUnder w origin level other s) = surroundings s := by
  unfold pressUnder
  (repeat' split) <;> simp

@[simp] theorem interpretEdge_surroundings (w : WindowId) (origin : Origin) (old new other : Switch) (s : State) :
    surroundings (interpretEdge w origin old new other s) = surroundings s := by
  unfold interpretEdge
  (repeat' split) <;> simp

@[simp] theorem switchEdge_surroundings (w : WindowId) (origin : Origin) (old new other : Switch) (s : State) :
    surroundings (switchEdge w origin old new other s) = surroundings s := by
  unfold switchEdge
  dsimp only
  (repeat' split) <;> simp

@[simp] theorem clearSuppressed_surroundings (w : WindowId) (level : Switch) (s : State) :
    surroundings (clearSuppressed w level s) = surroundings s := by
  unfold clearSuppressed
  split <;> simp

@[simp] theorem endHonouring_surroundings (s : State) :
    surroundings (endHonouring s) = surroundings s := by
  unfold endHonouring
  exact foldl_surroundings (fun _ _ => by dsimp only; split <;> simp) _ _

@[simp] theorem dropRetained_surroundings (s : State) :
    surroundings (dropRetained s) = surroundings s := by
  unfold dropRetained
  dsimp only
  (repeat' split) <;> simp

@[simp] theorem grant_surroundings (w : WindowId) (s : State) :
    surroundings (grant w s) = surroundings s := by
  unfold grant
  dsimp only
  (repeat' split) <;> simp

@[simp] theorem runTimeOut_surroundings (w : WindowId) (s : State) :
    surroundings (runTimeOut w s) = surroundings s := by simp [runTimeOut]

@[simp] theorem normalize_surroundings (w : WindowId) (s : State) :
    surroundings (normalize w s) = surroundings s := by simp [normalize]

@[simp] theorem crashStop_surroundings (s : State) :
    surroundings (crashStop s) = surroundings s := by
  unfold crashStop
  exact foldl_surroundings (fun _ _ => by dsimp only; split <;> simp) _ _

@[simp] theorem windowLost_surroundings (w : WindowId) (s : State) :
    surroundings (windowLost w s) = surroundings s := by simp [windowLost]

@[simp] theorem windowRecovered_surroundings (w : WindowId) (s : State) :
    surroundings (windowRecovered w s) = surroundings s := by simp [windowRecovered]

@[simp] theorem windowForcedOff_surroundings (w : WindowId) (s : State) :
    surroundings (windowForcedOff w s) = surroundings s := by simp [windowForcedOff]

@[simp] theorem windowOvertemp_surroundings (w : WindowId) (flag : Bool) (s : State) :
    surroundings (windowOvertemp w flag s) = surroundings s := by
  unfold windowOvertemp
  split <;> simp

@[simp] theorem markIssued_surroundings (w : WindowId) (s : State) :
    surroundings (markIssued w s) = surroundings s := by
  unfold markIssued
  split <;> simp

@[simp] theorem issueStep_surroundings (source : OpSource) (step : StepSpec) (s : State) :
    surroundings (issueStep source step s) = surroundings s := by
  unfold issueStep
  dsimp only
  (repeat' split) <;> simp

@[simp] theorem takeStart_surroundings (i : Nat) (d : Descriptor) (source : OpSource) (s : State) :
    surroundings (takeStart i d source s) = surroundings s := by simp [takeStart]

@[simp] theorem startOperation_surroundings (i : Nat) (source : OpSource) (s : State) :
    surroundings (startOperation i source s) = surroundings s := by
  unfold startOperation
  dsimp only
  (repeat' split) <;> simp

@[simp] theorem renewLease_surroundings (fob i : Nat) (s : State) :
    surroundings (renewLease fob i s) = surroundings s := by
  unfold renewLease
  dsimp only
  (repeat' split) <;> simp

@[simp] theorem cancelOperation_surroundings (s : State) :
    surroundings (cancelOperation s) = surroundings s := by
  unfold cancelOperation
  split <;> simp

@[simp] theorem actuateClosure_surroundings (kind : LockKind) (source : LockSource) (c : Closure) (s : State) :
    surroundings (actuateClosure kind source c s) = surroundings s := by simp [actuateClosure]

@[simp] theorem crashClosure_surroundings (c : Closure) (s : State) :
    surroundings (crashClosure c s) = surroundings s := by simp [crashClosure]

@[simp] theorem setTimed_surroundings (pattern : Pattern) (time : Nat) (s : State) :
    surroundings (setTimed pattern time s) = surroundings s := by simp [setTimed]

@[simp] theorem dropSteady_surroundings (s : State) :
    surroundings (dropSteady s) = surroundings s := by
  unfold dropSteady
  (repeat' split) <;> simp

@[simp] theorem refuseLock_surroundings (cause : LockRefusal) (s : State) :
    surroundings (refuseLock cause s) = surroundings s := by
  unfold refuseLock
  split <;> simp

@[simp] theorem actuate_surroundings (r : LockRequest) (s : State) :
    surroundings (actuate r s) = surroundings s := by
  unfold actuate
  (repeat' split) <;> simp

@[simp] theorem takeRequest_surroundings (r : LockRequest) (s : State) :
    surroundings (takeRequest r s) = surroundings s := by
  unfold takeRequest
  split <;> simp

@[simp] theorem checkRelease_surroundings (s : State) :
    surroundings (checkRelease s) = surroundings s := by
  unfold checkRelease
  dsimp only
  (repeat' split) <;> simp

@[simp] theorem releaseTailgate_surroundings (s : State) :
    surroundings (releaseTailgate s) = surroundings s := by
  unfold releaseTailgate
  split <;> simp

@[simp] theorem startRelock_surroundings (f : InFlight) (s : State) :
    surroundings (startRelock f s) = surroundings s := by
  unfold startRelock
  dsimp only
  (repeat' split) <;> simp

@[simp] theorem completeItems_surroundings (f : InFlight) (s : State) :
    surroundings (completeItems f s) = surroundings s := by
  unfold completeItems
  dsimp only
  (repeat' split) <;> simp

@[simp] theorem takePending_surroundings (s : State) :
    surroundings (takePending s) = surroundings s := by
  unfold takePending
  (repeat' split) <;> simp

@[simp] theorem completeOne_surroundings (s : State) : surroundings (completeOne s).1 = surroundings s := by
  unfold completeOne
  (repeat' split) <;> simp

@[simp] theorem followGroup_surroundings (s : State) :
    surroundings (followGroup s) = surroundings s := by
  unfold followGroup
  dsimp only
  (repeat' split) <;> simp

@[simp] theorem takeCrash_surroundings (s : State) :
    surroundings (takeCrash s) = surroundings s := by simp [takeCrash]

@[simp] theorem mergeOrWait_surroundings (r : LockRequest) (s : State) :
    surroundings (mergeOrWait r s) = surroundings s := by
  unfold mergeOrWait
  (repeat' split) <;> simp

@[simp] theorem placeLock_surroundings (r : LockRequest) (s : State) :
    surroundings (placeLock r s) = surroundings s := by
  unfold placeLock
  (repeat' split) <;> simp

@[simp] theorem arriveLock_surroundings (r : LockRequest) (s : State) :
    surroundings (arriveLock r s) = surroundings s := by
  unfold arriveLock
  (repeat' split) <;> simp

@[simp] theorem latchChanged_surroundings (c : Closure) (old new : Latch) (s : State) :
    surroundings (latchChanged c old new s) = surroundings s := by
  unfold latchChanged
  (repeat' split) <;> simp

@[simp] theorem lockReport_surroundings (c : Closure) (rep : Report) (recovery : Bool) (s : State) :
    surroundings (lockReport c rep recovery s) = surroundings s := by simp [lockReport]

@[simp] theorem lockLost_surroundings (c : Closure) (s : State) :
    surroundings (lockLost c s) = surroundings s := by simp [lockLost]

@[simp] theorem driveExpired_surroundings (c : Closure) (s : State) :
    surroundings (driveExpired c s) = surroundings s := by simp [driveExpired]

@[simp] theorem settleExpired_surroundings (c : Closure) (s : State) :
    surroundings (settleExpired c s) = surroundings s := by
  unfold settleExpired
  dsimp only
  (repeat' split) <;> simp

@[simp] theorem relockExpired_surroundings (restore : LockTarget) (s : State) :
    surroundings (relockExpired restore s) = surroundings s := by simp [relockExpired]

@[simp] theorem speedUpdate_surroundings (old : Nat) (oldFresh : Bool) (s : State) :
    surroundings (speedUpdate old oldFresh s) = surroundings s := by
  unfold speedUpdate
  dsimp only
  (repeat' split) <;> simp

@[simp] theorem lockIgnitionOn_surroundings (s : State) :
    surroundings (lockIgnitionOn s) = surroundings s := by simp [lockIgnitionOn]

@[simp] theorem refuseKeyInside_surroundings (s : State) :
    surroundings (refuseKeyInside s) = surroundings s := by simp [refuseKeyInside]

@[simp] theorem actuateChild_surroundings (d : RearDoor) (s : State) :
    surroundings (actuateChild d s) = surroundings s := by simp [actuateChild]

@[simp] theorem aimChild_surroundings (target : ChildTarget) (d : RearDoor) (s : State) :
    surroundings (aimChild target d s) = surroundings s := by
  unfold aimChild
  dsimp only
  (repeat' split) <;> simp

@[simp] theorem setChildTargets_surroundings (target : ChildTarget) (doors : List RearDoor) (s : State) :
    surroundings (setChildTargets target doors s) = surroundings s := by simp [setChildTargets]

@[simp] theorem childSetTarget_surroundings (d : RearDoor) (target : ChildTarget) (s : State) :
    surroundings (childSetTarget d target s) = surroundings s := by
  unfold childSetTarget
  split <;> simp

@[simp] theorem childToggle_surroundings (s : State) :
    surroundings (childToggle s) = surroundings s := by
  unfold childToggle
  split <;> simp

@[simp] theorem childReport_surroundings (d : RearDoor) (sensed : ChildSensed) (s : State) :
    surroundings (childReport d sensed s) = surroundings s := by simp [childReport]

@[simp] theorem childLost_surroundings (d : RearDoor) (s : State) :
    surroundings (childLost d s) = surroundings s := by simp [childLost]

@[simp] theorem childSettleExpired_surroundings (d : RearDoor) (s : State) :
    surroundings (childSettleExpired d s) = surroundings s := by
  unfold childSettleExpired
  dsimp only
  (repeat' split) <;> simp

@[simp] theorem setLockout_surroundings (flag : Bool) (s : State) :
    surroundings (setLockout flag s) = surroundings s := by simp [setLockout]

@[simp] theorem setFob_surroundings (i : Nat) (f : Fob) (s : State) :
    surroundings (setFob i f s) = surroundings s := by simp [setFob]

@[simp] theorem setFobRun_surroundings (i : Nat) (r : FobRun) (s : State) :
    surroundings (setFobRun i r s) = surroundings s := by simp [setFobRun]

@[simp] theorem setHold_surroundings (h : Option Hold) (s : State) :
    surroundings (setHold h s) = surroundings s := by simp [setHold]

@[simp] theorem noteTelegram_surroundings (t : Telegram) (i : Option Nat) (result : TelegramResult) (s : State) :
    surroundings (noteTelegram t i result s) = surroundings s := by simp [noteTelegram]

@[simp] theorem fobLock_surroundings (kind : LockKind) (releaseAfter : Bool) (s : State) :
    surroundings (fobLock kind releaseAfter s) = surroundings s := by
  simp [fobLock]

@[simp] theorem lockPress_surroundings (i : Nat) (s : State) :
    surroundings (lockPress i s) = surroundings s := by simp [lockPress]

@[simp] theorem unlockPress_surroundings (i : Nat) (s : State) :
    surroundings (unlockPress i s) = surroundings s := by
  unfold unlockPress
  split <;> simp

@[simp] theorem pressButton_surroundings (i : Nat) (button : Button) (s : State) :
    surroundings (pressButton i button s) = surroundings s := by
  unfold pressButton
  split <;> simp

@[simp] theorem acceptPress_surroundings (i : Nat) (t : Telegram) (s : State) :
    surroundings (acceptPress i t s) = surroundings s := by simp [acceptPress]

@[simp] theorem firstPress_surroundings (i : Nat) (t : Telegram) (s : State) :
    surroundings (firstPress i t s) = surroundings s := by
  unfold firstPress
  dsimp only
  (repeat' split) <;> simp

@[simp] theorem countRepeat_surroundings (i : Nat) (t : Telegram) (h : Hold) (s : State) :
    surroundings (countRepeat i t h s) = surroundings s := by
  unfold countRepeat
  dsimp only
  (repeat' split) <;> simp

@[simp] theorem repeatTelegram_surroundings (i : Nat) (t : Telegram) (s : State) :
    surroundings (repeatTelegram i t s) = surroundings s := by
  unfold repeatTelegram
  (repeat' split) <;> simp

@[simp] theorem takeTelegram_surroundings (t : Telegram) (s : State) :
    surroundings (takeTelegram t s) = surroundings s := by
  unfold takeTelegram
  (repeat' split) <;> simp

@[simp] theorem setSlot_surroundings (n : Nat) (x : Option SearchSlot) (s : State) :
    surroundings (setSlot n x s) = surroundings s := by simp [setSlot]

@[simp] theorem closeSlot_surroundings (n : Nat) (x : SearchSlot) (outcome : SearchOutcome) (who : Option Nat)
    (s : State) :
    surroundings (closeSlot n x outcome who s) = surroundings s := by
  unfold closeSlot
  split <;> simp

@[simp] theorem openSlot_surroundings (n : Nat) (c : Closure) (p : Purpose) (trigger : Trigger) (s : State) :
    surroundings (openSlot n c p trigger s) = surroundings s := by simp [openSlot]

@[simp] theorem touch_surroundings (c : Closure) (p : Purpose) (trigger : Trigger) (s : State) :
    surroundings (touch c p trigger s) = surroundings s := by
  unfold touch
  (repeat' split) <;> simp

@[simp] theorem releaseButton_surroundings (trigger : Trigger) (s : State) :
    surroundings (releaseButton trigger s) = surroundings s := by
  unfold releaseButton
  split <;> simp

@[simp] theorem handleEvents_surroundings (c : Closure) (rep : Report) (s : State) :
    surroundings (handleEvents c rep s) = surroundings s := by
  unfold handleEvents
  (repeat' split) <;> simp

@[simp] theorem searchOutcome_surroundings (n : Nat) (x : SearchSlot) (outside inside : Nat) (s : State) :
    surroundings (searchOutcome n x outside inside s) = surroundings s := by
  unfold searchOutcome
  split <;> simp

@[simp] theorem takeResponse_surroundings (r : SearchResponse) (s : State) :
    surroundings (takeResponse r s) = surroundings s := by
  unfold takeResponse
  (repeat' split) <;> simp

@[simp] theorem closeAllSlots_surroundings (s : State) :
    surroundings (closeAllSlots s) = surroundings s := by
  unfold closeAllSlots
  exact foldl_surroundings (fun _ _ => by split <;> simp) _ _

@[simp] theorem lineTouch_surroundings (c : Closure) (before : OpState) (s : State) :
    surroundings (lineTouch c before s) = surroundings s := by
  unfold lineTouch
  (repeat' split) <;> simp

@[simp] theorem detect_surroundings (line : WakeLine) (s : State) :
    surroundings (detect line s) = surroundings s := by
  unfold detect
  dsimp only
  (repeat' split) <;> simp

@[simp] theorem judgeLevel_surroundings (line : WakeLine) (s : State) :
    surroundings (judgeLevel line s) = surroundings s := by
  unfold judgeLevel
  split <;> simp

@[simp] theorem lineLevel_surroundings (line : WakeLine) (level : Level) (s : State) :
    surroundings (lineLevel line level s) = surroundings s := by
  unfold lineLevel
  dsimp only
  (repeat' split) <;> simp

@[simp] theorem clearWakeLine_surroundings (line : WakeLine) (s : State) :
    surroundings (clearWakeLine line s) = surroundings s := by
  unfold clearWakeLine
  dsimp only
  (repeat' split) <;> simp

@[simp] theorem countHit_surroundings (i : Nat) (s : State) :
    surroundings (countHit i s) = surroundings s := by simp [countHit]

@[simp] theorem writeSpeed_surroundings (value : Nat) (s : State) :
    surroundings (writeSpeed value s) = surroundings s := by
  unfold writeSpeed
  dsimp only
  (repeat' split) <;> simp

@[simp] theorem writeVoltage_surroundings (value : Nat) (s : State) :
    surroundings (writeVoltage value s) = surroundings s := by simp [writeVoltage]

@[simp] theorem passTo_surroundings (f : PassFrame) (c : Closure) (s : State) :
    surroundings (passTo f c s) = surroundings s := by
  unfold passTo
  (repeat' split) <;> simp

@[simp] theorem passFrame_surroundings (mask : Nat) (f : PassFrame) (s : State) :
    surroundings (passFrame mask f s) = surroundings s := by
  unfold passFrame
  split <;> simp

@[simp] theorem trapFrame_surroundings (i : Nat) (id : CanId) (data : List Byte) (s : State) :
    surroundings (trapFrame i id data s) = surroundings s := by
  unfold trapFrame
  (repeat' split) <;> simp

@[simp] theorem ruleRequest_surroundings (r : Rule) (data : List Byte) (s : State) :
    surroundings (ruleRequest r data s) = surroundings s := by
  unfold ruleRequest
  dsimp only
  (repeat' split) <;> simp

@[simp] theorem handFlags_surroundings (r : Rule) (s : State) :
    surroundings (handFlags r s) = surroundings s := by
  unfold handFlags
  (repeat' split) <;> simp

@[simp] theorem performAction_surroundings (i : Nat) (r : Rule) (id : CanId) (data : List Byte) (s : State) :
    surroundings (performAction i r id data s) = surroundings s := by
  unfold performAction
  (repeat' split) <;> simp

@[simp] theorem defaultDisposition_surroundings (id : CanId) (data : List Byte) (s : State) :
    surroundings (defaultDisposition id data s) = surroundings s := by
  unfold defaultDisposition
  dsimp only
  (repeat' split) <;> simp

@[simp] theorem matchFrame_surroundings (start : Nat) (id : CanId) (data : List Byte) (s : State) :
    surroundings (matchFrame start id data s) = surroundings s := by
  unfold matchFrame
  split <;> simp

@[simp] theorem freeTrap_surroundings (ticket : Nat) (s : State) :
    surroundings (freeTrap ticket s) = surroundings s := by simp [freeTrap]

@[simp] theorem releaseFrame_surroundings (f : HeldFrame) (s : State) :
    surroundings (releaseFrame f s) = surroundings s := by simp [releaseFrame]

@[simp] theorem expireFrame_surroundings (f : HeldFrame) (s : State) :
    surroundings (expireFrame f s) = surroundings s := by simp [expireFrame]

@[simp] theorem beginTransmission_surroundings (s : State) :
    surroundings (beginTransmission s) = surroundings s := by
  unfold beginTransmission
  (repeat' split) <;> simp

@[simp] theorem acknowledge_surroundings (s : State) :
    surroundings (acknowledge s) = surroundings s := by simp [acknowledge]

@[simp] theorem abandonAttempt_surroundings (s : State) :
    surroundings (abandonAttempt s) = surroundings s := by simp [abandonAttempt]

@[simp] theorem takePinch_surroundings (w : WindowId) (cause : PinchCause) (zone current : Nat) (s : State) :
    surroundings (takePinch w cause zone current s) = surroundings s := by simp [takePinch]

@[simp] theorem setProfile_surroundings (w : WindowId) (profile : List Nat) (s : State) :
    surroundings (setProfile w profile s) = surroundings s := by simp [setProfile]

@[simp] theorem endStop_surroundings (w : WindowId) (s : State) :
    surroundings (endStop w s) = surroundings s := by
  unfold endStop
  dsimp only
  (repeat' split) <;> simp

@[simp] theorem carryOut_surroundings (w : WindowId) (zone current : Nat) (decision : Decision) (s : State) :
    surroundings (carryOut w zone current decision s) = surroundings s := by
  unfold carryOut
  split <;> simp

@[simp] theorem closingReport_surroundings (w : WindowId) (d i : Nat) (s : State) :
    surroundings (closingReport w d i s) = surroundings s := by
  unfold closingReport
  dsimp only
  (repeat' split) <;> simp

@[simp] theorem openingReport_surroundings (w : WindowId) (d : Nat) (s : State) :
    surroundings (openingReport w d s) = surroundings s := by
  unfold openingReport
  dsimp only
  (repeat' split) <;> simp

@[simp] theorem reversalReport_surroundings (w : WindowId) (d : Nat) (s : State) :
    surroundings (reversalReport w d s) = surroundings s := by
  unfold reversalReport
  dsimp only
  (repeat' split) <;> simp

@[simp] theorem coastReport_surroundings (w : WindowId) (dir : Direction) (d : Nat) (s : State) :
    surroundings (coastReport w dir d s) = surroundings s := by simp [coastReport]

@[simp] theorem motorData_surroundings (w : WindowId) (d i : Nat) (s : State) :
    surroundings (motorData w d i s) = surroundings s := by
  unfold motorData
  dsimp only
  (repeat' split) <;> simp

@[simp] theorem windowReport_surroundings (w : WindowId) (rep : Report) (s : State) :
    surroundings (windowReport w rep s) = surroundings s := by simp [windowReport]

@[simp] theorem sense_surroundings (s : State) :
    surroundings (sense s) = surroundings s := by simp [sense]

@[simp] theorem idleForcedOff_surroundings (s : State) :
    surroundings (idleForcedOff s) = surroundings s := by simp [idleForcedOff]

@[simp] theorem enterRun_surroundings (s : State) :
    surroundings (enterRun s) = surroundings s := by
  unfold enterRun
  dsimp only
  (repeat' split) <;> simp

@[simp] theorem pollCheck_surroundings (s : State) :
    surroundings (pollCheck s) = surroundings s := by
  unfold pollCheck
  split <;> simp

@[simp] theorem saveGood_surroundings (snapshot : Tables) (s : State) :
    surroundings (saveGood snapshot s) = surroundings s := by simp [saveGood]

@[simp] theorem saveFailed_surroundings (snapshot : Tables) (s : State) :
    surroundings (saveFailed snapshot s) = surroundings s := by simp [saveFailed]

@[simp] theorem startKept_surroundings (s : State) :
    surroundings (startKept s) = surroundings s := by
  unfold startKept
  split <;> simp

@[simp] theorem lockSwitchEdge_surroundings (source : LockSource) (old new : LockSwitch) (s : State) :
    surroundings (lockSwitchEdge source old new s) = surroundings s := by
  unfold lockSwitchEdge
  split <;> simp

@[simp] theorem childButtonEdge_surroundings (old new : Bool) (s : State) :
    surroundings (childButtonEdge old new s) = surroundings s := by
  unfold childButtonEdge
  split <;> simp

@[simp] theorem lockoutButtonEdge_surroundings (old new : Bool) (s : State) :
    surroundings (lockoutButtonEdge old new s) = surroundings s := by
  unfold lockoutButtonEdge
  (repeat' split) <;> simp

@[simp] theorem packEdges_surroundings (c : Closure) (old rep : Report) (s : State) :
    surroundings (packEdges c old rep s) = surroundings s := by simp [packEdges]

@[simp] theorem ownEdge_surroundings (c : Closure) (old rep : Report) (s : State) :
    surroundings (ownEdge c old rep s) = surroundings s := by
  unfold ownEdge
  split <;> simp

@[simp] theorem takeEdges_surroundings (c : Closure) (old : Option Report) (rep : Report) (s : State) :
    surroundings (takeEdges c old rep s) = surroundings s := by
  unfold takeEdges
  (repeat' split) <;> simp

@[simp] theorem takeFaults_surroundings (c : Closure) (old : Option Report) (rep : Report) (s : State) :
    surroundings (takeFaults c old rep s) = surroundings s := by
  unfold takeFaults
  (repeat' split) <;> simp

@[simp] theorem takeUplink_surroundings (c : Closure) (rep : Report) (s : State) :
    surroundings (takeUplink c rep s) = surroundings s := by
  unfold takeUplink
  (repeat' split) <;> simp

@[simp] theorem takeLocks_surroundings (c : Closure) (rep : Report) (recovery : Bool) (s : State) :
    surroundings (takeLocks c rep recovery s) = surroundings s := by
  unfold takeLocks
  split <;> simp

@[simp] theorem takeMotor_surroundings (c : Closure) (rep : Report) (s : State) :
    surroundings (takeMotor c rep s) = surroundings s := by
  unfold takeMotor
  split <;> simp

@[simp] theorem recoverNode_surroundings (c : Closure) (s : State) :
    surroundings (recoverNode c s) = surroundings s := by
  unfold recoverNode
  (repeat' split) <;> simp

@[simp] theorem goodReport_surroundings (c : Closure) (rep : Report) (s : State) :
    surroundings (goodReport c rep s) = surroundings s := by simp [goodReport]

@[simp] theorem dropRelease_surroundings (c : Closure) (s : State) :
    surroundings (dropRelease c s) = surroundings s := by
  unfold dropRelease
  split <;> simp

@[simp] theorem declareLost_surroundings (c : Closure) (s : State) :
    surroundings (declareLost c s) = surroundings s := by
  unfold declareLost
  (repeat' split) <;> simp

@[simp] theorem missedReport_surroundings (c : Closure) (s : State) :
    surroundings (missedReport c s) = surroundings s := by
  unfold missedReport
  dsimp only
  (repeat' split) <;> simp

@[simp] theorem cycleEnds_surroundings (c : Closure) (s : State) :
    surroundings (cycleEnds c s) = surroundings s := by
  unfold cycleEnds
  dsimp only
  (repeat' split) <;> simp

@[simp] theorem handForcedOff_surroundings (c : Closure) (s : State) :
    surroundings (handForcedOff c s) = surroundings s := by
  unfold handForcedOff
  (repeat' split) <;> simp

@[simp] theorem setMode_surroundings (c : Closure) (mode : PowerMode) (s : State) :
    surroundings (setMode c mode s) = surroundings s := by
  unfold setMode
  dsimp only
  (repeat' split) <;> simp

@[simp] theorem setCar_surroundings (c : CarSettings) (s : State) :
    surroundings (setCar c s) = surroundings s := by simp [setCar]

@[simp] theorem moveDeep_surroundings (s : State) :
    surroundings (moveDeep s) = surroundings s := by
  unfold moveDeep
  (repeat' split) <;> simp

@[simp] theorem setWindowCfg_surroundings (w : WindowId) (x : WindowSettings) (s : State) :
    surroundings (setWindowCfg w x s) = surroundings s := by simp [setWindowCfg]

@[simp] theorem endHoldOf_surroundings (i : Nat) (s : State) :
    surroundings (endHoldOf i s) = surroundings s := by
  unfold endHoldOf
  (repeat' split) <;> simp

@[simp] theorem barHoldOf_surroundings (i : Nat) (s : State) :
    surroundings (barHoldOf i s) = surroundings s := by
  unfold barHoldOf
  (repeat' split) <;> simp

@[simp] theorem fobChanged_surroundings (i : Nat) (old new : Fob) (s : State) :
    surroundings (fobChanged i old new s) = surroundings s := by
  unfold fobChanged
  (repeat' split) <;> simp

@[simp] theorem setRule_surroundings (i : Nat) (new : Rule) (s : State) :
    surroundings (setRule i new s) = surroundings s := by simp [setRule]

@[simp] theorem setFrame_surroundings (f : FrameSettings) (s : State) :
    surroundings (setFrame f s) = surroundings s := by simp [setFrame]

@[simp] theorem clearFaults_surroundings (s : State) :
    surroundings (clearFaults s) = surroundings s := by simp [clearFaults]

end Sys2Proof.Machine
end

