-- ==== Sys2Proof/Laws/Writes.lean ====
section
/-!
SUPPORT. How a WRITE comes to its answer: the cursor's word, the checks of R199, and the owner's own answer.
-/

namespace Sys2Proof.Machine

/-- A WRITE at a ready word that its owner accepts: the change is made, and the cursor goes on. -/
theorem answersActive_written {s t : State} {i : Instr} {dt : Nat} {v : Word} {c next : Cursor}
    (meaning : exec i s = perform dt (manage (.write v)) s) (ready : WriteReady c.table c.index c.word s)
    (accepted : writeAt c v (setMask none (elapse dt s)) =
      .ok { t with now := t.now + dt, mgmt := { t.mgmt with mask := none } })
    (calm : Alert t) (room : t.tx.length < Config.txPlaces) (onward : advance c = (next, false)) :
    AnswersActive i s (written dt next t) := by
  refine answersActive_replied (r := .write v) meaning ready.alert (by simp) ?_ (calm.of_same rfl rfl rfl rfl rfl rfl) room
  have cursor : s.mgmt.cursor = c := ready.cursor
  simp only [serve, serveWrite, maskAfter, elapse_mgmt, ready.mask, maskedValue, cursor, accepted, onward]
  rfl

/-- A WRITE at a ready word that its owner refuses changes nothing but the mask, and answers the owner's result. -/
theorem answersActive_refused {s : State} {i : Instr} {dt : Nat} {v : Word} {c : Cursor} {r : Result}
    (meaning : exec i s = perform dt (manage (.write v)) s) (ready : WriteReady c.table c.index c.word s)
    (refused : writeAt c v (setMask none (elapse dt s)) = .error r) : AnswersActive i s (replied dt 0x03 r [] s) := by
  refine answersActive_replied (r := .write v) meaning ready.alert (by simp) ?_ ready.alert ready.room
  have cursor : s.mgmt.cursor = c := ready.cursor
  simp only [serve, serveWrite, maskAfter, elapse_mgmt, ready.mask, maskedValue, cursor, refused]
  simp only [reply, setMask, elapse, ← cursor]

/-- At a ready word of a writable table the owner alone decides (R199). -/
theorem writeAt_ready {s : State} {dt : Nat} {v : Word} {c : Cursor} (ready : WriteReady c.table c.index c.word s)
    (writable : readTable c.table = false) :
    writeAt c v (setMask none (elapse dt s)) = ownerWrite c v.toNat (setMask none (elapse dt s)) := by
  have closed : regionFlag (setMask none (elapse dt s)).cfg.protection.writeFlags c.table = false := ready.open_
  unfold writeAt
  rw [closed, writable]
  rfl

theorem windowOfIndex_code (w : WindowId) : windowOfIndex (windowCode w) = w := by cases w <;> rfl

theorem windowCode_lt (w : WindowId) : windowCode w < 4 := by cases w <;> decide

/-- A word of a window's entry of CLOSURE_SETTINGS reaches that window (R216). -/
theorem writeClosureSettings_window (w : WindowId) (word v : Nat) (s : State) :
    writeClosureSettings (windowCode w + 1) word v s =
      match word with
      | 0 => writeWindow0 w v s
      | 1 => writeWindow1 w v s
      | 2 => writeWindow2 w v s
      | _ => writeWindow3 w v s := by
  have code := windowOfIndex_code w
  have bound := windowCode_lt w
  unfold writeClosureSettings
  rw [if_neg (by omega), if_pos (by omega)]
  rcases word with _ | _ | _ | _ <;> simp only [Nat.add_sub_cancel, code]

/-- A window that is not moving is left alone by a changed limit (R46). -/
theorem followLimit_resting (b : State) {w : WindowId} {s : State} (auto : (window s w).state ≠ .movingAuto)
    (manual : (window s w).state ≠ .movingManual) : followLimit b w s = s := by
  simp [followLimit, endIfReached, inMotion, auto, manual]

end Sys2Proof.Machine
end

