-- ==== Sys2Proof/Tests/Slice0.lean ====
section
/-!
SUPPORT. Tests: the well-formedness checks refuse ill-formed commands, worked values and examples of the manual come out
as it gives them, and every statement of the obligations has states and operands that meet its hypotheses.
-/

namespace Sys2Proof.Machine.Tests

/-! ## States -/

/-- A node's report with nothing pressed: the lock sensed LOCKED, the child lock ENGAGED, the latch shut. -/
def quietReport : Report :=
  { pulseActive := false, lockSensed := .locked, childSensed := .engaged, ajar := false, touchUnlock := false
    touchLock := false, releaseButton := false, ownSwitch := .none, pack := .const .none, central := .none
    childButton := false, lockoutButton := false, keyCylinder := .none, ripple := 0, current := 0, overtemp := false
    openLoad := false, lowSupply := false, uplink := none }

/-- A channel that runs FAST, 5 ms before its cycle's end. -/
def fastChannel : Channel :=
  { Channel.reset with
    rate := .fast, link := .present, lastReport := some quietReport, comparable := true, reported := true
    cycleEnd := some 1005 }

/-- A part at rest in RUN and AWAKE, one second after the supply came on: the ignition RUN, every lock LOCKED, the
windows half open, the context fresh. -/
def awake : State :=
  { State.reset with
    now := 1000, stage := .run, pins := ⟨.high, .const .high⟩, lines := ⟨⟨false, .high⟩, .const ⟨false, .high⟩⟩
    closures := .const { ClosureLock.reset with sensed := .locked, latch := .shut }
    children := .const { ChildLock.reset with sensed := .engaged }
    windows := .const { Window.reset 4400 0 with position := 2000, normalized := true, requested := 2000 }
    channels := .const fastChannel, nextStatus := some 1100
    ctx := { Context.reset with
      state := .awake, ignition := .run, lastActivity := 1000, idleDeadline := 61000, speedFresh := some 2000
      voltageFresh := some 2000 } }

/-- What makes a part alert, field by field. -/
theorem alert_of {s : State}
    (h : s.stage = .run ∧ s.ctx.state = .awake ∧ (s.ctx.ignition = .off → 0 < s.cfg.car.parkDelay) ∧
      allClosures.all (fun c => (channel s c).rate == chosenRate s c) = true) : Alert s :=
  ⟨h.1, h.2.1, h.2.2.1, fun c => eq_of_beq (List.all_eq_true.mp h.2.2.2 c (by cases c <;> decide))⟩

/-- What makes a part steady, field by field. -/
theorem steady_of {s : State}
    (h : s.stage = .run ∧ s.ctx.state = .awake ∧ s.ctx.ignition = .run ∧
      allClosures.all (fun c => (channel s c).rate == chosenRate s c) = true) : Steady s := by
  obtain ⟨run, awake, ignition, rates⟩ := h
  refine ⟨⟨by rw [run]; decide, fun _ => awake, fun _ => ignition, fun _ c => ?_⟩, run⟩
  exact eq_of_beq (List.all_eq_true.mp rates c (by cases c <;> decide))

/-- What makes a WRITE ready, field by field. -/
theorem ready_of {table index word : Nat} {s : State} (alert : Alert s)
    (h : s.tx.length < 16 ∧ s.mgmt.cursor = ⟨table, index, word⟩ ∧ s.mgmt.mask = none ∧
      regionFlag s.cfg.protection.writeFlags table = false) : WriteReady table index word s :=
  ⟨alert, h.1, h.2.1, h.2.2.1, h.2.2.2⟩

/-- What makes a window free, field by field. -/
theorem free_of {w : WindowId} {s : State}
    (h : (window s w).state = .idle ∧ (window s w).origin = none ∧ (window s w).normalized = true ∧
      (window s w).hot = false ∧ (window s w).overtemp = false ∧ s.cfg.modes.get (windowClosure w) ≠ .forcedOff ∧
      90 ≤ s.ctx.voltage) : WindowFree w s :=
  ⟨h.1, h.2.1, h.2.2.1, h.2.2.2.1, h.2.2.2.2.1, h.2.2.2.2.2.1, h.2.2.2.2.2.2⟩

theorem each_closure {p : Closure → Prop} (h : p .fl ∧ p .fr ∧ p .rl ∧ p .rr ∧ p .tg) : ∀ c, p c := fun c =>
  match c with
  | .fl => h.1
  | .fr => h.2.1
  | .rl => h.2.2.1
  | .rr => h.2.2.2.1
  | .tg => h.2.2.2.2

theorem each_window {p : WindowId → Prop} (h : p .fl ∧ p .fr ∧ p .rl ∧ p .rr) : ∀ w, p w := fun w =>
  match w with
  | .fl => h.1
  | .fr => h.2.1
  | .rl => h.2.2.1
  | .rr => h.2.2.2

theorem each_door {p : RearDoor → Prop} (h : p .rl ∧ p .rr) : ∀ d, p d := fun d =>
  match d with
  | .rl => h.1
  | .rr => h.2

theorem each_line {p : WakeLine → Prop} (h : p .ign ∧ ∀ c, p (.door c)) : ∀ l, p l := fun l =>
  match l with
  | .ign => h.1
  | .door c => h.2 c

theorem awake_alert : Alert awake := alert_of (by decide)

theorem awake_steady : Steady awake := steady_of (by decide)

/-- The state after a command. -/
def after (i : Instr) (s : State) : State :=
  match exec i s with
  | .next t => t
  | _ => s

/-- The ignition OFF, everything else at rest. -/
def waitingToPark : State := { awake with ctx := { awake.ctx with ignition := .off } }

/-- The part parked at 61000 ms, its status pages sent. -/
def parked : State := { after (.idleDeadline 0) waitingToPark with tx := [] }

/-- The part in DEEP. -/
def deep : State := after (.deepDeadline 0) parked

theorem parked_asleep : Asleep parked := ⟨by decide +kernel, .inl (by decide +kernel), by decide +kernel⟩

theorem deep_asleep : Asleep deep := ⟨by decide +kernel, .inr (by decide +kernel), by decide +kernel⟩

/-- The part with FL's lock out of its target. -/
def flOpen : State := { awake with closures := awake.closures.set .fl { closure awake .fl with sensed := .unlocked } }

/-- The part with one window's record changed. -/
def withWindow (w : WindowId) (f : Window → Window) (s : State) : State :=
  { s with windows := s.windows.set w (f (window s w)) }

/-- The part with one closure's lock record changed. -/
def withClosure (c : Closure) (f : ClosureLock → ClosureLock) (s : State) : State :=
  { s with closures := s.closures.set c (f (closure s c)) }

/-- The part with one channel's record changed. -/
def withChannel (c : Closure) (f : Channel → Channel) (s : State) : State :=
  { s with channels := s.channels.set c (f (channel s c)) }

/-- The part with the lock group changed. -/
def withGroup (f : LockGroup → LockGroup) (s : State) : State := { s with group := f s.group }

/-- The part with the working tables changed. -/
def withCfg (f : Tables → Tables) (s : State) : State := { s with cfg := f s.cfg }

/-- The part with the cursor at a word. -/
def withCursor (table index word : Nat) (s : State) : State :=
  { s with mgmt := { s.mgmt with cursor := ⟨table, index, word⟩ } }

/-- The part with a window opening from P, its motor running and its slot taken. -/
def opening (w : WindowId) (origin : Origin) (s : State) : State :=
  { withWindow w
      (fun x =>
        { x with
          state := .movingAuto, direction := .down, requested := 4400, origin := some origin, lastDrive := .down
          runStart := some 500, runCounter := 20 }) s with
    motion := { s.motion with slots := [⟨w, false⟩] } }

/-- The part with a window closing from P, its motor running and its slot taken. -/
def closing (w : WindowId) (origin : Origin) (s : State) : State :=
  { withWindow w
      (fun x =>
        { x with
          state := .movingManual, direction := .up, requested := 0, origin := some origin, held := true
          lastDrive := .up, runStart := some 500, runCounter := 20 }) s with
    motion := { s.motion with slots := [⟨w, false⟩] } }

/-- The part with a window waiting for its grant, from MANAGEMENT. -/
def waiting (w : WindowId) (s : State) : State :=
  { withWindow w
      (fun x => { x with state := .waiting, direction := .down, requested := 4400, origin := some .management }) s with
    motion := { s.motion with otherQueue := [w] } }

/-! ## Operands outside what a row's rule admits -/

theorem test_frame_of_nine_bytes_is_ill_formed :
    (Instr.bodyFrameReceived 0 0x123 (List.replicate 9 0)).wellFormed = false := by decide

theorem test_table_sixteen_is_ill_formed : (Instr.select 0 16 0 0).wellFormed = false := by decide

theorem test_child_set_of_a_front_door_is_ill_formed : (Instr.childSet 0 1 0).wellFormed = false := by decide

theorem test_child_set_to_a_third_state_is_ill_formed : (Instr.childSet 0 2 2).wellFormed = false := by decide

theorem test_clear_normalized_of_window_four_is_ill_formed : (Instr.clearNormalized 0 4).wellFormed = false := by decide

theorem test_move_of_window_four_is_ill_formed : (Instr.windowMove 0 4 0).wellFormed = false := by decide

theorem test_move_beyond_every_travel_is_ill_formed : (Instr.windowMove 0 0 8001).wellFormed = false := by decide

theorem test_stop_of_window_four_is_ill_formed : (Instr.windowStop 0 4).wellFormed = false := by decide

theorem test_start_of_descriptor_four_is_ill_formed : (Instr.operationStart 0 4).wellFormed = false := by decide

theorem test_clear_wake_of_a_seventh_line_is_ill_formed : (Instr.clearWake 0 64).wellFormed = false := by decide

theorem test_protect_of_a_fifth_region_is_ill_formed :
    (Instr.protect 0 16 0 0).wellFormed = false ∧ (Instr.protect 0 0 16 0).wellFormed = false := by decide

theorem test_protect_with_a_second_lock_bit_is_ill_formed : (Instr.protect 0 0 0 2).wellFormed = false := by decide

theorem test_a_readable_request_is_no_unknown_one : (Instr.unknownRequest 0 [0x02]).wellFormed = false := by decide

theorem test_unknown_request_of_nine_bytes_is_ill_formed :
    (Instr.unknownRequest 0 (List.replicate 9 0)).wellFormed = false := by decide

theorem test_report_of_nineteen_bytes_is_ill_formed :
    (Instr.nodeReport 0 .fl (List.replicate 19 0)).wellFormed = false := by decide

/-- A WRITE frame without its last byte names no request (12 section 12.2, R217 A). -/
theorem test_a_short_write_is_unknown : (Instr.unknownRequest 0 [0x03, 1, 2, 3]).wellFormed = true := by decide

/-! ## Tables of worked values -/

/-- The table under R74. -/
theorem test_compensated_currents :
    compensate 52 118 = 59 ∧ compensate 40 90 = 60 ∧ compensate 80 135 = 80 ∧ compensate 100 180 = 75 ∧
      compensate 200 60 = 255 := by decide

/-- R75: with travel 4400 a zone is 275 counts, and P = travel lies in zone 15. -/
theorem test_zones : zoneOf 274 4400 = 0 ∧ zoneOf 275 4400 = 1 ∧ zoneOf 4125 4400 = 15 ∧ zoneOf 4400 4400 = 15 := by
  decide

/-- The table under R91, whose fourth row keeps a zone 3 below its sample. -/
theorem test_adapted_zones :
    adaptZone 31 (some 36) = 32 ∧ adaptZone 31 (some 20) = 30 ∧ adaptZone 31 (some 90) = 35 ∧
      adaptZone 30 (some 33) = 30 ∧ adaptZone 30 (some 34) = 31 ∧ adaptZone 30 (some 26) = 30 ∧
      adaptZone 30 (some 25) = 29 ∧ adaptZone 30 (some 17) = 28 ∧ adaptZone 198 (some 255) = 200 ∧
      adaptZone 2 (some 0) = 2 ∧ adaptZone 3 (some 0) = 3 ∧ adaptZone 100 (some 0) = 96 := by decide

/-- An entry that extracts a value as a row of the table under R149 tells. -/
def extracting (byteIndex lowBit width num den : Nat) : Rule :=
  { Rule.blank with byteIndex := byteIndex, lowBit := lowBit, width := width, num := num, den := den }

/-- The table under R149, before the clamps. -/
theorem test_extractions :
    extract (extracting 0 0 16 1 100) [0x12, 0x34] = 133 ∧ extract (extracting 1 0 8 1 1) [0, 0x7D] = 125 ∧
      extract (extracting 1 0 8 2 1) [0, 0x7D] = 250 ∧ extract (extracting 0 4 8 5 3) [0xC8, 0x03] = 100 ∧
      extract (extracting 0 4 12 1 1) [0x40] = 4 := by decide

/-- A telegram: serial 12345678h, counter 5, UNLOCK, first press (12 section 12.3). -/
theorem test_telegram :
    readTelegram [0x78, 0x56, 0x34, 0x12, 0x05, 0x00, 0x20, 0x00] = some ⟨0x12345678, 5, .unlock, 0, false⟩ := by decide

/-- A Node Report whose check byte does not bring the sum to 0 cannot be read (12 section 12.6). -/
theorem test_check_byte :
    (readReport [0x12, 0, 0, 0, 0, 0, 0, 0, 0, 0xEE]).isSome = true ∧ readReport [0x12, 0, 0, 0, 0, 0, 0, 0, 0,
      0xEF] = none := by
  decide +kernel

/-! ## Locks -/

/-- Example 1: FL, FR, RL and TG UNLOCKED, RR LOCKED already. -/
def lockedApart : State :=
  { awake with
    closures := .mapWith (fun c k =>
      if c = .rr then k else { k with target := .unlocked, sensed := .unlocked }) awake.closures }

/-- Example 1: the closure at its target gets no pulse, one token goes and the refill runs. -/
theorem test_lock_all_drives_the_closures_away_from_target :
    let t := arriveLock ⟨.lockAll, .fob, false⟩ lockedApart
    allClosures.map (fun c => (closure t c).phase) = [.driving, .driving, .driving, .idle, .driving] ∧
      allClosures.map (fun c => (closure t c).command) = [.lockPulse, .lockPulse, .lockPulse, .idle, .lockPulse] ∧
      t.group.tokens = 11 ∧ t.group.refillDeadline = some 6000 := by decide +kernel

/-- Example 2 at its start: LOCK_ALL of an inside switch in flight, four doors in DRIVING, tokens at 9. -/
def lockingInside : State :=
  { awake with
    closures := .mapWith (fun c k =>
      if c = .tg then k else { k with sensed := .unlocked, phase := .driving }) awake.closures
    group := { awake.group with tokens := 9, inFlight := some ⟨⟨.lockAll, .insideSwitch, false⟩, .fl⟩ } }

/-- Example 2, the first three rows: the newer request takes the slot, and a LOCK_ALL merges. -/
theorem test_slot_and_merge :
    let a := arriveLock ⟨.unlockDriver, .fob, false⟩ lockingInside
    let b := arriveLock ⟨.lockAll, .body, false⟩ a
    let c := arriveLock ⟨.unlockAll, .remote, false⟩ b
    a.group.slot = some ⟨.unlockDriver, .fob, false⟩ ∧ b = a ∧ c.group.slot = some ⟨.unlockAll, .remote, false⟩ ∧
      c.group.tokens = 9 := by decide +kernel

/-- Example 2: CRASH_UNLOCK empties the slot, takes no token and sets crash hold; a LOCK_ALL then waits in the slot. -/
theorem test_crash_unlock :
    let t := after (.crashUnlock 5) (withGroup (fun g => { g with slot := some ⟨.unlockAll, .remote,
      false⟩ }) lockingInside)
    let u := arriveLock ⟨.lockAll, .fob, false⟩ t
    t.group.slot = none ∧ t.group.tokens = 9 ∧ t.group.crashHold = some 1005 ∧
      allClosures.all (fun c => (closure t c).target == .unlocked) ∧
      u.group.slot = some ⟨.lockAll, .fob, false⟩ := by decide +kernel

/-- Example 2: at 6 s crash hold outlasts OFF→RUN; at 12 s OFF→RUN clears it. -/
theorem test_crash_hold_outlasts_ten_seconds :
    let s := withGroup (fun g => { g with crashHold := some 1000 })
      { awake with ctx := { awake.ctx with ignition := .off } }
    (after (.ignitionTransition 6000 .run) s).group.crashHold = some 1000 ∧
      (after (.ignitionTransition 12000 .run) s).group.crashHold = none := by decide +kernel

/-- Example 4: the child button engages both child locks; RL at P = 3000 stays, its effective target now 1500. -/
theorem test_child_limit_moves_no_window :
    let s := withCfg (fun t => { t with childOpenLimit := .const 1500 })
      { awake with
        children := .const { ChildLock.reset with target := .disengaged, sensed := .disengaged }
        windows := .const { Window.reset 4400 0 with position := 3000, normalized := true, requested := 4400 } }
    let t := after (.childSet 5 2 1) s
    (child t .rl).phase = .driving ∧ (child t .rl).command = some .engage ∧ currentLimit s .rl = 4400 ∧
      currentLimit t .rl = 1500 ∧ (window t .rl).position = 3000 ∧ (window t .rl).state = .idle ∧
      (window t .rl).requested = 4400 := by decide +kernel

/-! ## Windows -/

/-- Example 6, its last line: an Open Limit of 1200 written while the opening is at P = 1800 ends it there. -/
theorem test_open_limit_behind_the_window_ends_the_opening :
    let s := withCursor 1 1 0 (opening .fl .driverPack (withWindow .fl (fun x => { x with position := 1800 }) awake))
    let t := after (.writeOpenLimit 5 (BitVec.ofNat 32 (4400 + 1200 * 2 ^ 13 + 25 * 2 ^ 26))) s
    (window t .fl).state = .idle ∧ (window t .fl).lastOutcome = some .reached ∧ (window t .fl).position = 1800 ∧
      (windowCfg t .fl).openLimit = 1200 := by decide +kernel

/-- Example 10 before its third report: RL at P = 1222 with k = 2, the voltage 118, R[4] = 31. -/
def pinching : State :=
  withCfg (fun t => { t with profiles := t.profiles.set .rl ((t.profiles.get .rl).set 4 31) })
    { closing .rl .driverPack (withWindow .rl (fun x => { x with position := 1222, debounce := 2 }) awake) with
      ctx := { awake.ctx with voltage := 118 } }

/-- Example 10, report 3: the pinch at P = 1211 with EXCESS and a reversal to 1461. -/
theorem test_pinch_on_the_third_excess :
    let t := windowReport .rl { quietReport with ripple := 11, current := 60 } pinching
    (window t .rl).state = .reversing ∧ (window t .rl).lastPinchPosition = 1211 ∧
      (window t .rl).lastPinchCause = some .excess ∧ (window t .rl).reversalTarget = some 1461 ∧
      (window t .rl).pinchCount = 1 := by decide +kernel

/-- Example 11, reports 2 and 3: beyond the span only k rises; at P = 1998 with the voltage stale the pinch is taken. -/
theorem test_pinch_at_the_entry_of_the_span :
    let s := withCfg (fun t => { t with profiles := t.profiles.set .fl ((t.profiles.get .fl).set 7 28) })
      { closing .fl .driverPack (withWindow .fl (fun x => { x with position := 2025, debounce := 1 }) awake) with
        ctx := { awake.ctx with speed := 60, voltageFresh := none } }
    let t := windowReport .fl { quietReport with ripple := 14, current := 72 } s
    let u := windowReport .fl { quietReport with ripple := 13, current := 71 } t
    (window t .fl).state = .movingManual ∧ (window t .fl).debounce = 2 ∧ (window u .fl).state = .reversing ∧
      (window u .fl).reversalTarget = some 2248 := by decide +kernel

/-- Example 12, its last report: the block at P = 14 is the end stop, and the run adapts zones 0 to 3. -/
theorem test_adapted_run :
    let x (y : Window) : Window :=
      { y with
        position := 14, startPosition := 900, zeroCount := 1
        maxima := [some 52, some 30, some 23, some 31] ++ List.replicate 12 none }
    let s := withCfg (fun t =>
        { t with profiles := t.profiles.set .fr ([40, 33, 31, 30] ++ List.replicate 12 30) })
      (closing .fr .ownSwitch (withWindow .fr x awake))
    let t := windowReport .fr { quietReport with ripple := 0, current := 64 } s
    (window t .fr).position = 0 ∧ (window t .fr).lastOutcome = some .reached ∧
      (t.cfg.profiles.get .fr).take 5 = [42, 33, 30, 30, 30] := by decide +kernel

/-! ## Remote keys -/

/-- Fob 2 of Example 13 with an accepted counter. -/
def fobAt (a : Nat) (s : State) : State :=
  let f : Fob := { Fob.blank with state := .active, serial := 77, accepted := some a, remoteAllowed := true }
  withCfg (fun t => { t with fobs := t.fobs.set 2 f }) s

/-- A press of LOCK of Example 13. -/
def pressed (counter : Nat) : Telegram := ⟨77, counter, .lock, 0, false⟩

/-- What the last telegram gave, and what the fob holds after it. -/
def verdict (t : State) : Option TelegramResult × Option Nat × Option Candidate :=
  (t.key.lastTelegram.map (·.result), (fob t 2).accepted, (fobRun t 2).candidate)

/-- Example 13, rows 1 to 3: the counter wraps, a second arrival is a replay, a far press is a candidate. -/
theorem test_counter_wraps_and_replays :
    let a := takeTelegram (pressed 5) (fobAt 1048570 awake)
    verdict a = (some .accepted, some 5, none) ∧
      verdict (takeTelegram (pressed 5) a) = (some .replay, some 5, none) ∧
      verdict (takeTelegram (pressed 60) a) = (some .candidate, some 5, some ⟨60, 6000⟩) := by decide +kernel

/-- Example 13, rows 4 to 7: a late press does not pair; one in time does; an old counter is a replay. -/
theorem test_candidate_pairs_in_time :
    let late := { fobAt 5 awake with
      now := 48000, fobRun := awake.fobRun.set 2 { FobRun.reset with candidate := some ⟨60, 46000⟩ } }
    let a := takeTelegram (pressed 61) late
    let b := takeTelegram (pressed 62) { a with now := 50000 }
    verdict a = (some .candidate, some 5, some ⟨61, 53000⟩) ∧ verdict b = (some .resynced, some 62, none) ∧
      verdict (takeTelegram (pressed 40) b) = (some .replay, some 62, none) ∧
      verdict (takeTelegram (pressed 63) b) = (some .accepted, some 63, none) := by decide +kernel

/-! ## The body bus and management -/

/-- Example 22: the queue after the new status pages were offered begins with the lowest identifier. -/
theorem test_lowest_identifier_first :
    let frame (id : CanId) : TxFrame := ⟨.other, id, [], false⟩
    nextFrame [frame 0x6C2, frame 0x5A0, frame 0x4E1, frame 0x6C1, frame 0x4E0] = some (frame 0x4E0) := by decide

/-- Example 22: the attempt is abandoned and the BUS_OFF notice joins on B+2. -/
theorem test_bus_off_abandons_the_attempt :
    let s := { awake with tx := [⟨.other, 0x4E0, [], true⟩, ⟨.other, 0x5A0, [], false⟩] }
    let t := after (.busOff 5) s
    t.tx.map (fun f => (f.id, f.started)) = [(0x4E0, false), (0x5A0, false), (0x6C2, false)] ∧
      t.port = .silent 1005 := by
  decide +kernel

/-- Example 27: under the mask FFFFFFFEh a WRITE of 1 sets valid and keeps the other fields, and the mask is gone. -/
theorem test_write_under_a_mask :
    let r : Rule := { Rule.blank with base := 0x123, mask := 0x7FF, minLength := 2, action := .drop }
    let s := withCursor 9 5 0 (withCfg (fun t => { t with rules := t.rules.set 5 r }) awake)
    let t := after (.writeRules 5 1) { s with mgmt := { s.mgmt with mask := some 0xFFFFFFFE } }
    t.cfg.rules[5]? = some { r with valid := true } ∧ t.mgmt.cursor = ⟨9, 5, 1⟩ ∧ t.mgmt.mask = none := by
  decide +kernel

/-- Example 27: 9/32/3 is the last word of RULES: a READ leaves the cursor and shows END. -/
theorem test_read_at_the_end :
    let t := after (.read 5) (after (.select 5 9 32 3) awake)
    t.mgmt.cursor = ⟨9, 32, 3⟩ ∧ (t.tx.map fun f => (f.id, f.data.take 3)) = [(0x6C1, [1, 0, 0]), (0x6C1, [2, 0,
      1])] := by
  decide +kernel

/-- An idle step lets a millisecond pass and queues what is then due: here the five cycle ends. -/
theorem test_idle_step :
    step { awake with now := 1004 } = .next (idle { awake with now := 1004 }) ∧
      (idle { awake with now := 1004 }).now = 1005 ∧
      (idle { awake with now := 1004 }).pending = allClosures.map (Instr.linkCycleEnd 0) := by
  refine ⟨rfl, ?_⟩
  decide +kernel

/-! ## States and operands that meet the statements' hypotheses -/

/-- A locked protection record. -/
def locking : Protection := ⟨RegionFlags.clear, RegionFlags.clear, true⟩

/-- A frame of the transmit queue. -/
def frame (id : CanId) : TxFrame := ⟨.other, id, [], false⟩

/-- A frame held with ticket 7 under entry 3 until 3000 ms. -/
def heldFor (ticket : Nat) : HeldFrame := ⟨ticket, 3, 0x123, [1, 2], 3000⟩

/-- A part at every limit: full queues and buffers, both slots taken, every window at its travel. -/
def full : State :=
  { awake with
    pending := [.lockAll 5], tx := List.replicate 16 (frame 5)
    trap := ⟨[heldFor 1, heldFor 2, heldFor 3, heldFor 4], 5⟩, pass := .const [⟨0x321, [1]⟩, ⟨0x322, [2]⟩]
    motion := { awake.motion with slots := [⟨.fl, false⟩, ⟨.fr, true⟩] }
    windows := .const { Window.reset 4400 0 with normalized := true } }

/-- Two of three steps of an operation have not ended. -/
def activeOp : ActiveOp :=
  { descriptor := 2, kind := .vent, holdToRun := true, source := .fob 3, lease := some 1300
    steps := [⟨.fl, .closed, .issued⟩, ⟨.fr, .closed, .done⟩, ⟨.rl, .closed, .pending⟩], remaining := 2
    abortCause := none }

/-- A part with that operation, its first window closing. -/
def operating : State := { closing .fl .fobOperation awake with op := { awake.op with active := some activeOp } }

theorem witness_without_supply :
    ({ awake with stage := .off } : State).stage = .off ∧ ∀ dt a b c, Instr.busOff 5 ≠ .powerOn dt a b c :=
  ⟨rfl, nofun⟩

theorem witness_bounds : Bounded full ∧ ∃ t, step full = .next t :=
  ⟨⟨by decide +kernel, by decide +kernel, by decide +kernel, each_closure (by decide +kernel), by decide +kernel,
   each_window (by decide +kernel)⟩, _, rfl⟩

theorem witness_operations :
    OperationsSound { operating with pending := [.leaseDeadline 5] } ∧
      ∃ t, step { operating with pending := [.leaseDeadline 5] } = .next t :=
  ⟨⟨by decide +kernel, fun _ h => by cases h; decide⟩, _, rfl⟩

/-- A part with the lock cell set. -/
def sealed : State := { awake with store := { awake.store with lockCell := some locking } }

/-- The cell set: a power-on; the image locked, a running save and PROTECT with the cell empty. -/
theorem witness_lock_cell :
    (∃ t, step { sealed with pending := [.powerOn 5 true false true] } = .next t) ∧
    (∃ t image, step { sealed with pending := [.save 5] } = .next t ∧ sealed.store.snapshot = none ∧
      t.store.snapshot = some image) ∧
    (∃ t, step
        { awake with
          pending := [.saveComplete 5 true]
          store := { awake.store with snapshot := some { awake.cfg with protection := locking } } } = .next t ∧
      t.store.lockCell = some locking ∧ awake.store.lockCell = none ∧ awake.stage ≠ .off) ∧
    (∃ t, step
        { awake with
          pending := [.powerOn 5 true false true]
          store := { awake.store with image := .good { awake.cfg with protection := locking } } } = .next t) ∧
    (∃ t, step { awake with pending := [.protect 5 15 15 1] } = .next t) ∧
    Alert { awake with pending := [.protect 5 15 15 1] } :=
  ⟨⟨_, rfl⟩, ⟨_, _, rfl, rfl, rfl⟩, ⟨_, rfl, by decide +kernel⟩, ⟨_, rfl⟩, ⟨_, rfl⟩, alert_of (by decide +kernel)⟩

/-- With the last free place of the transmit queue and the ignition OFF: SELECT, MASK, STATUS, FAULTS, CLEAR_FAULTS,
PROTECT. -/
theorem witness_request :
    Alert { waitingToPark with tx := List.replicate 15 (frame 5) } ∧
    ({ waitingToPark with tx := List.replicate 15 (frame 5) } : State).tx.length < 16 :=
  ⟨alert_of (by decide +kernel), by decide +kernel⟩

/-- STATUS and FAULTS with 12 tokens; STATUS in PARKED and in DEEP; and the requests that wake and act on nothing else. -/
theorem witness_status :
    (awake.group.tokens < 16 ∧ awake.faults.length = 14) ∧
    (Asleep parked ∧ parked.group.tokens < 16 ∧ parked.tx = [] ∧ parked.ctx.state = .parked) ∧
    (Asleep deep ∧ deep.group.tokens < 16 ∧ deep.tx = [] ∧ deep.ctx.state = .deep) ∧
    (Instr.crashClear 5 ∈ [Instr.read 5, .faults 5, .status 5, .clearFaults 5, .save 5, .crashClear 5] ∧
      (∃ a b c, Instr.select 5 9 32 3 = .select 5 a b c ∨ Instr.select 5 9 32 3 = .protect 5 a b c) ∧
      (∃ v, Instr.mask 5 7 = .mask 5 v) ∧ ∃ a, Instr.discard 5 7 = .discard 5 a) :=
  ⟨by decide +kernel, ⟨parked_asleep, by decide +kernel⟩, ⟨deep_asleep, by decide +kernel⟩, by decide,
   ⟨9, 32, 3, .inl rfl⟩, ⟨7, rfl⟩, 7, rfl⟩

theorem witness_read :
    Alert (withCursor 9 32 3 awake) ∧ awake.tx.length < 16 ∧
      tableShape (withCursor 9 32 3 awake).mgmt.cursor.table = some (33, 4) :=
  ⟨alert_of (by decide +kernel), by decide +kernel, by decide +kernel⟩

theorem witness_unreadable : Alert awake ∧ unreadableRequest [] = true ∧ unreadableRequest [0x03, 1, 2, 3] = true ∧
    unreadableRequest [0xFF, 1, 2, 3, 4, 5, 6, 7] = true := ⟨awake_alert, by decide +kernel⟩

/-- A row with its code, and a frame that names no request. -/
theorem witness_before_run :
    ({ awake with stage := .listen } : State).stage = .listen ∧ ({ awake with stage := .poll } : State).stage = .poll ∧
      ({ awake with stage := .sense } : State).stage = .sense ∧ awake.tx.length < 16 ∧
      managementCode (.protect 5 1 2 3) = some 0x0C ∧ managementCode (.crashClear 5) = some 0x07 ∧
      unreadableRequest [0x0F] = true := by decide +kernel

/-! ### Writes -/

/-- A window's word 0 with a travel, an Open Limit and T_base 25. -/
def word0 (travel limit : Nat) : Word := BitVec.ofNat 32 (travel + limit * 2 ^ 13 + 25 * 2 ^ 26)

theorem witness_travel :
    WriteReady 1 (windowCode .rr + 1) 0 (withCursor 1 4 0 awake) ∧
    bitsOf (word0 8000 8001).toNat 0 13 ≠ (windowCfg (withCursor 1 4 0 awake) .rr).travel ∧
    (window (withCursor 1 4 0 awake) .rr).state = .idle ∧
    WriteReady 1 (windowCode .rr + 1) 0 (withCursor 1 4 0 (waiting .rr awake)) ∧
    (window (withCursor 1 4 0 (waiting .rr awake)) .rr).state = .waiting :=
  ⟨ready_of (alert_of (by decide +kernel)) (by decide +kernel), by decide +kernel, by decide +kernel,
   ready_of (alert_of (by decide +kernel)) (by decide +kernel), by decide +kernel⟩

/-- A window at rest, and one opening whose P = 2000 the new limit 2000 reaches. -/
theorem witness_open_limit :
    WriteReady 1 (windowCode .rl + 1) 0 (withCursor 1 3 0 awake) ∧
    (bitsOf (word0 4400 8000).toNat 0 13 = (windowCfg awake .rl).travel ∧ 5 ≤ bitsOf (word0 4400 8000).toNat 26 6 ∧
      bitsOf (word0 4400 8000).toNat 26 6 ≤ 60 ∧ (window awake .rl).state = .idle) ∧
    WriteReady 1 (windowCode .rl + 1) 0 (withCursor 1 3 0 (opening .rl .body awake)) ∧
    (let s := withCursor 1 3 0 (opening .rl .body awake)
     let changed := withCfg (fun t => { t with windows := t.windows.set .rl { windowCfg s .rl with openLimit :=
       2000 } }) s
     (window s .rl).state = .movingAuto ∧ (window s .rl).direction = .down ∧ (window s .rl).origin = some .body ∧
      (window s .rl).clearPending = false ∧ currentLimit changed .rl ≠ currentLimit s .rl ∧
      min (window s .rl).requested (currentLimit changed .rl) ≤ (window s .rl).position ∧
      s.cfg.modes.get .rl ≠ .forcedOff) :=
  ⟨ready_of (alert_of (by decide +kernel)) (by decide +kernel), by decide +kernel,
   ready_of (alert_of (by decide +kernel)) (by decide +kernel), by decide +kernel⟩

theorem witness_parameters :
    WriteReady 1 (windowCode .fl + 1) 1 (withCursor 1 1 1 awake) ∧
    WriteReady 1 (windowCode .rr + 1) 2 (withCursor 1 4 2 awake) ∧
    WriteReady 1 (windowCode (rearWindow .rr) + 1) 3 (withCursor 1 4 3 awake) ∧
    (window awake .rr).state ≠ .movingManual ∧ (window awake .rr).state ≠ .movingAuto :=
  ⟨ready_of (alert_of (by decide +kernel)) (by decide +kernel),
   ready_of (alert_of (by decide +kernel)) (by decide +kernel),
   ready_of (alert_of (by decide +kernel)) (by decide +kernel), by decide +kernel⟩

/-- With the ignition OFF, the last ms before a Park Delay of 5 s has run. -/
theorem witness_car_settings :
    WriteReady 1 0 0 (withCursor 1 0 0 awake) ∧ (∀ w, (window (withCursor 1 0 0 awake) w).origin ≠ some .ownSwitch) ∧
    WriteReady 1 0 1 (withCursor 1 0 1 awake) ∧ awake.ctx.ignition = .run ∧
    (let s := withCursor 1 0 1 waitingToPark
     WriteReady 1 0 1 s ∧
      s.now + 4999 < s.ctx.lastActivity + (if anyAjar s then 600000 else bitsOf (0x105 : Word).toNat 0 8 * 1000)) :=
  ⟨ready_of (alert_of (by decide +kernel)) (by decide +kernel), each_window (by decide +kernel),
   ready_of (alert_of (by decide +kernel)) (by decide +kernel), rfl,
   ready_of (alert_of (by decide +kernel)) (by decide +kernel), by decide +kernel⟩

theorem witness_forced_off :
    WriteReady 1 (closureCode .rl + 5) 0 (withCursor 1 7 0 awake) ∧ bitsOf (2 : Word).toNat 0 2 = 2 ∧
    bitsOf (3 : Word).toNat 0 2 = 3 ∧ awake.cfg.modes.get .rl ≠ .forcedOff ∧
    (∀ w, windowClosure w = .rl → (window awake w).state = .idle ∨ (window awake w).state = .fault) ∧
    ((closure awake .rl).phase = .idle ∨ (closure awake .rl).phase = .fault) ∧
    (∀ d, rearClosure d = .rl → (child awake d).phase = .idle ∨ (child awake d).phase = .fault) ∧
    awake.group.inFlight = none ∧ awake.group.slot = none :=
  ⟨ready_of (alert_of (by decide +kernel)) (by decide +kernel), by decide +kernel, by decide +kernel,
   by decide +kernel, each_window (by decide +kernel), by decide +kernel,
   each_door (by decide +kernel), by decide +kernel⟩

/-- A window in FAULT, its node LOST. -/
theorem witness_forced_off_a_lost_node :
    let s := withCursor 1 7 0 (withWindow .rl (fun x => { x with state := .fault })
      (withChannel .rl (fun ch => { ch with link := .lost }) awake))
    WriteReady 1 (closureCode .rl + 5) 0 s ∧ (∀ w, windowClosure w = .rl → (window s w).state = .fault) :=
  ⟨ready_of (alert_of (by decide +kernel)) (by decide +kernel), each_window (by decide +kernel)⟩

/-- TG's channel running under FORCED_ON, which AUTO follows; and stopped by FORCED_OFF, which FORCED_ON follows. -/
theorem witness_auto_and_forced_on :
    bitsOf (0 : Word).toNat 0 2 = 0 ∧ bitsOf (1 : Word).toNat 0 2 = 1 ∧
    (let s := withCursor 1 9 0 (withCfg (fun t => { t with modes := t.modes.set .tg .forcedOn }) awake)
     WriteReady 1 (closureCode .tg + 5) 0 s ∧ s.cfg.modes.get .tg ≠ .forcedOff) ∧
    (let s := withCursor 1 9 0 (withCfg (fun t => { t with modes := t.modes.set .tg .forcedOff })
       (withChannel .tg stoppedChannel awake))
     WriteReady 1 (closureCode .tg + 5) 0 s ∧ s.cfg.modes.get .tg = .forcedOff) :=
  ⟨by decide, by decide, ⟨ready_of (alert_of (by decide +kernel)) (by decide +kernel), by decide +kernel⟩,
   ready_of (alert_of (by decide +kernel)) (by decide +kernel), by decide +kernel⟩

/-- The first and the last word of PROFILES, and the last two classes of MANAGEMENT. -/
theorem witness_profiles_and_report :
    WriteReady 3 (windowCode .fl) 0 (withCursor 3 0 0 awake) ∧
    WriteReady 3 (windowCode .rl) 3 (withCursor 3 2 3 awake) ∧
    WriteReady 3 (windowCode .rr) 3 (withCursor 3 3 3 awake) ∧
    WriteReady 14 ((12 : Fin 14) + 1 : Nat) 0 (withCursor 14 13 0 awake) ∧
    WriteReady 14 ((13 : Fin 14) + 1 : Nat) 0 (withCursor 14 14 0 awake) :=
  ⟨ready_of (alert_of (by decide +kernel)) (by decide +kernel),
   ready_of (alert_of (by decide +kernel)) (by decide +kernel),
   ready_of (alert_of (by decide +kernel)) (by decide +kernel),
   ready_of (alert_of (by decide +kernel)) (by decide +kernel),
   ready_of (alert_of (by decide +kernel)) (by decide +kernel)⟩

theorem witness_write :
    (let s := withCfg (fun t => { t with protection := ⟨RegionFlags.clear, ⟨true, true, true, true⟩,
      false⟩ }) (withCursor 1 0 0 awake)
     Alert s ∧ s.tx.length < 16 ∧ regionFlag s.cfg.protection.writeFlags s.mgmt.cursor.table = true) ∧
    (let s := withCursor 15 0 0 awake
     Alert s ∧ regionFlag s.cfg.protection.writeFlags s.mgmt.cursor.table = false ∧
      s.mgmt.cursor.table ∈ [0, 2, 5, 6, 8, 10, 11, 13, 15]) ∧
    (let s := { awake with mgmt := { awake.mgmt with cursor := ⟨14, 0, 0⟩, mask := some 0xFFFFFFF0 } }
     Alert s ∧ s.mgmt.cursor = ⟨14, 0, 0⟩ ∧ s.mgmt.mask = some 0xFFFFFFF0 ∧
      s.cfg.protection.writeFlags.rules = false) :=
  ⟨⟨alert_of (by decide +kernel), by decide +kernel⟩, ⟨alert_of (by decide +kernel), by decide +kernel⟩,
   alert_of (by decide +kernel), by decide +kernel⟩

/-- An active fob with serial 77. -/
def activeFob : Fob := ⟨.active, 77, some 1048575, true, true, true, .all⟩

/-- A blocked fob with serial 99. -/
def blockedFob : Fob := ⟨.blocked, 99, none, true, true, true, .all⟩

/-- Fob 0 blocked and fob 1 active, the six others EMPTY. -/
def twoFobs : State := withCfg (fun t => { t with fobs := [blockedFob, activeFob] ++ t.fobs.drop 2 }) awake

theorem others_empty : ∀ j g, 1 < j → twoFobs.cfg.fobs[j]? = some g → g.state = .empty := by
  intro j g h e
  have small : j < 8 := (List.getElem?_eq_some_iff.mp e).1
  have table : ∀ k : Fin 8, 1 < k.val → ((twoFobs.cfg.fobs[k.val]?).map (·.state)) = some .empty := by decide +kernel
  have := table ⟨j, small⟩ h
  rw [e] at this
  exact Option.some.inj this

/-- Serial 99, which entry 0 holds, and serial 98, which no entry holds. -/
theorem witness_fob_serial :
    WriteReady 4 ((1 : Fin 8) : Nat) 1 (withCursor 4 1 1 twoFobs) ∧ twoFobs.cfg.fobs[1]? = some activeFob ∧
    activeFob.state ≠ .empty ∧ activeFob.serial ≠ 99 ∧ activeFob.serial ≠ 98 ∧
    (∃ j g, j ≠ 1 ∧ twoFobs.cfg.fobs[j]? = some g ∧ g.state ≠ .empty ∧ g.serial = 99) ∧
    (∀ j g, j ≠ 1 → twoFobs.cfg.fobs[j]? = some g → g.state ≠ .empty → g.serial ≠ 98) := by
  refine ⟨ready_of (alert_of (by decide +kernel)) (by decide +kernel), rfl, by decide +kernel, by decide +kernel,
    by decide +kernel,
    ⟨0, blockedFob, by decide +kernel, rfl, by decide +kernel, rfl⟩, fun j g away e filled => ?_⟩
  rcases Nat.lt_or_ge 1 j with h | h
  · exact absurd (others_empty j g h e) filled
  · obtain rfl : j = 0 := by omega
    obtain rfl : blockedFob = g := Option.some.inj e
    decide

/-- Fob 7 EMPTY with the serial of the active fob 1. -/
def emptyTwin : State :=
  withCfg (fun t => { t with fobs := t.fobs.set 7 { activeFob with state := .empty } }) twoFobs

/-- A state given to an EMPTY entry whose serial is held; the serial of an EMPTY entry; the states and permissions of fob 1,
whose serial no other entry holds; and the word of the accepted counter. -/
theorem witness_fob_state_and_permissions :
    (WriteReady 4 ((7 : Fin 8) : Nat) 0 (withCursor 4 7 0 emptyTwin) ∧
      emptyTwin.cfg.fobs[7]? = some { activeFob with state := .empty } ∧ emptyTwin.fobRun[7]? = some ⟨none, false⟩ ∧
      (∃ j g, j ≠ 7 ∧ emptyTwin.cfg.fobs[j]? = some g ∧ g.state ≠ .empty ∧ g.serial = activeFob.serial) ∧
      WriteReady 4 ((7 : Fin 8) : Nat) 1 (withCursor 4 7 1 emptyTwin) ∧ activeFob.serial ≠ (99 : Word).toNat) ∧
    (WriteReady 4 ((1 : Fin 8) : Nat) 0 (withCursor 4 1 0 twoFobs) ∧ twoFobs.fobRun[1]? = some ⟨none, false⟩ ∧
      (bitsOf (3 : Word).toNat 0 2 = 3 ∧
        (bitsOf (0 : Word).toNat 0 2, FobState.empty) ∈ [(0, FobState.empty), (1, .active), (2, .blocked)]) ∧
      ¬(∃ j g, j ≠ 1 ∧ twoFobs.cfg.fobs[j]? = some g ∧ g.state ≠ .empty ∧ g.serial = activeFob.serial) ∧
      WriteReady 4 ((1 : Fin 8) : Nat) 3 (withCursor 4 1 3 twoFobs) ∧
      activeFob.remoteAllowed = true ∧ bitOf (0 : Word).toNat 21 = false ∧
      activeFob.comfortAllowed = true ∧ bitOf (0 : Word).toNat 23 = false) ∧
    WriteReady 4 ((1 : Fin 8) : Nat) 2 (withCursor 4 1 2 twoFobs) := by
  refine ⟨⟨ready_of (alert_of (by decide +kernel)) (by decide +kernel), rfl, by decide +kernel,
      ⟨1, activeFob, by decide, rfl, by decide, rfl⟩, ready_of (alert_of (by decide +kernel)) (by decide +kernel),
      by decide⟩,
    ⟨ready_of (alert_of (by decide +kernel)) (by decide +kernel), by decide +kernel, by decide +kernel, ?_,
      ready_of (alert_of (by decide +kernel)) (by decide +kernel), by decide +kernel⟩,
    ready_of (alert_of (by decide +kernel)) (by decide +kernel)⟩
  rintro ⟨j, g, away, e, filled, same⟩
  rcases Nat.lt_or_ge 1 j with h | h
  · exact filled (others_empty j g h e)
  · obtain rfl : j = 0 := by omega
    obtain rfl : blockedFob = g := Option.some.inj e
    exact absurd same (by decide)

/-- One slot of the search table open. -/
def searching : State :=
  { awake with search := { awake.search with slots := [none, none, none, some ⟨.fl, .unlock, 3, 1200, .handle⟩] } }

/-- Search time 50 steps at the upper end of its range, W at its lower end, Passive Entry off; and a W of 0. -/
theorem witness_passive :
    WriteReady 4 8 0 (withCursor 4 8 0 awake) ∧ awake.search.slots = [none, none, none, none] ∧
    WriteReady 4 8 0 (withCursor 4 8 0 searching) ∧
    (let n := (BitVec.ofNat 32 (1 + 50 * 2 ^ 14)).toNat
     1 ≤ bitsOf n 0 8 ∧ 5 ≤ bitsOf n 14 6 ∧ bitsOf n 14 6 ≤ 50 ∧ bitOf n 8 = false) ∧
    searching.cfg.key.passive = true ∧ searching.search.slots.length = 4 ∧ bitsOf (0 : Word).toNat 0 8 = 0 :=
  ⟨ready_of (alert_of (by decide +kernel)) (by decide +kernel), rfl,
   ready_of (alert_of (by decide +kernel)) (by decide +kernel), by decide +kernel⟩

theorem witness_operations_write :
    WriteReady 7 ((3 : Fin 4) : Nat) 2 (withCursor 7 3 2 awake) :=
      ready_of (alert_of (by decide +kernel)) (by decide +kernel)

/-- An entry whose action is REQUEST for a kind. -/
def requesting (kind : Nat) : Rule := { Rule.blank with action := .request, argument := BitVec.ofNat 12 kind }

/-- The entry 31 as told, with the cursor at one of its words. -/
def ruleAt (word : Nat) (r : Rule) : State :=
  withCursor 9 31 word (withCfg (fun t => { t with rules := t.rules.set 31 r }) awake)

/-- Word 0: no action 7, min length 9 and 8, REQUEST over kinds 0 and 14. Word 1: kinds 8 and 7. Words 2 and 3. -/
theorem witness_rule_write :
    (awake.cfg.rules[((31 : Fin 32) : Nat)]? = some Rule.blank ∧
      WriteReady 9 ((31 : Fin 32) : Nat) 0 (withCursor 9 31 0 awake) ∧
      WriteReady 9 ((31 : Fin 32) : Nat) 2 (withCursor 9 31 2 awake) ∧
      WriteReady 9 ((31 : Fin 32) : Nat) 3 (withCursor 9 31 3 awake)) ∧
    (actionOfCode 7 = none ∧ actionOfCode 1 = some .request ∧ actionOfCode 6 = some .drop ∧ 8 < 9 ∧
      0 ∉ [1, 2, 3, 4, 5, 6, 7, 11, 12, 13, 14]) ∧
    (WriteReady 9 ((31 : Fin 32) : Nat) 0 (ruleAt 0 (requesting 14)) ∧
      (ruleAt 0 (requesting 14)).cfg.rules[((31 : Fin 32) : Nat)]? = some (requesting 14) ∧
      bitsOf (requesting 14).argument.toNat 0 4 ∈ [1, 2, 3, 4, 5, 6, 7, 11, 12, 13, 14]) ∧
    (WriteReady 9 ((31 : Fin 32) : Nat) 1 (ruleAt 1 (requesting 14)) ∧
      bitsOf (8 : Word).toNat 0 4 ∉ [1, 2, 3, 4, 5, 6, 7, 11, 12, 13, 14] ∧
      bitsOf (7 : Word).toNat 0 4 ∈ [1, 2, 3, 4, 5, 6, 7, 11, 12, 13, 14]) :=
  ⟨⟨rfl, ready_of (alert_of (by decide +kernel)) (by decide +kernel),
    ready_of (alert_of (by decide +kernel)) (by decide +kernel),
    ready_of (alert_of (by decide +kernel)) (by decide +kernel)⟩, by decide,
   ⟨ready_of (alert_of (by decide +kernel)) (by decide +kernel), by decide +kernel⟩,
   ready_of (alert_of (by decide +kernel)) (by decide +kernel), by decide +kernel⟩

/-- Entry 32: a Status Identifier with low bits 1 and 0, and the two words of Uplink Identifiers. -/
theorem witness_frame_settings :
    WriteReady 9 32 0 (withCursor 9 32 0 awake) ∧ bitsOf (0x40 : Word).toNat 6 2 ≠ 0 ∧
    bitsOf (0xFFFFFF3F : Word).toNat 6 2 = 0 ∧ WriteReady 9 32 1 (withCursor 9 32 1 awake) ∧
      WriteReady 9 32 2 (withCursor 9 32 2 awake) :=
  ⟨ready_of (alert_of (by decide +kernel)) (by decide +kernel), by decide, by decide,
   ready_of (alert_of (by decide +kernel)) (by decide +kernel), ready_of (alert_of (by decide +kernel)) (by decide +kernel)⟩

/-- One line as it stands, with its enable and mode, Passive Entry on, and the cursor at its word. -/
def lineAt (l : WakeLine) (x : LineState) (enable : Bool) (mode : LineMode) : State :=
  withCursor 12 (lineCode l) 0
    (withCfg (fun t => { t with lines := t.lines.set l ⟨enable, mode⟩, key := { t.key with passive := true } })
      { awake with lines := awake.lines.set l x })

/-- IGN written HIGH while low and while high; RL and TG written to their levels, enabled; CLEAR_WAKE of RL and of TG at
the active level, enabled, and of every line. -/
theorem witness_wake_line_writes :
    (WriteReady 12 0 0 (lineAt .ign ⟨false, .low⟩ false .rising) ∧ bitsOf (5 : Word).toNat 1 2 = 2 ∧
      WriteReady 12 0 0 (lineAt .ign ⟨false, .high⟩ false .rising) ∧ bitOf (4 : Word).toNat 0 = false) ∧
    (let s := lineAt (.door .tg) ⟨false, .low⟩ false .rising
     WriteReady 12 5 0 s ∧ bitsOf (7 : Word).toNat 1 2 = 3 ∧ bitOf (7 : Word).toNat 0 = true ∧
      s.cfg.key.passive = true ∧ s.search.slots = [none, none, none, none] ∧ s.search.tagCounter < 16 ∧
      s.tx.length + 1 < 16 ∧ (closure s .tg).target ≠ .unlocked) ∧
    (let s := lineAt (.door .rl) ⟨true, .high⟩ true .high
     Alert s ∧ s.tx.length + 1 < 16 ∧ (s.lines.get (.door .rl)).pending = true ∧
      (8 : Byte) = BitVec.ofNat 8 (2 ^ 3) ∧ (s.cfg.lines.get (.door .rl)).enable = true) ∧
    (let s := lineAt .ign ⟨true, .high⟩ true .high
     Alert s ∧ (s.lines.get .ign).pending = true ∧
      ∀ k, (s.lines.get k).pending = true → (s.cfg.lines.get k).enable = false ∨ k = .ign) :=
  ⟨⟨ready_of (alert_of (by decide +kernel)) (by decide +kernel), by decide +kernel,
    ready_of (alert_of (by decide +kernel)) (by decide +kernel), by decide +kernel⟩,
   ⟨ready_of (alert_of (by decide +kernel)) (by decide +kernel), by decide +kernel⟩,
   ⟨alert_of (by decide +kernel), by decide +kernel⟩, alert_of (by decide +kernel), by decide +kernel,
   each_line ⟨fun _ => .inr rfl, each_closure (by decide +kernel)⟩⟩

/-! ### Requests -/

/-- Tickets 7 and 8 held. -/
def trapping : State := { awake with trap := ⟨[heldFor 7, heldFor 8], 9⟩ }

theorem witness_tickets :
    Alert trapping ∧ trapping.tx.length < 16 ∧ (∀ f ∈ trapping.trap.held, f.ticket ≠ (9 : Byte).toNat) ∧
    (∃ f ∈ trapping.trap.held, f.ticket = (7 : Byte).toNat) ∧ trapping.cfg.frame.passDefault = false ∧
    (∀ f ∈ trapping.trap.held, f.ticket = (7 : Byte).toNat →
      ∀ i r, f.rule < i → trapping.cfg.rules[i]? = some r → ruleMatches r f.id f.data = false) := by
  refine ⟨alert_of (by decide +kernel), by decide +kernel, by decide +kernel, by decide +kernel, rfl,
    fun f _ _ i r _ e => ?_⟩
  have blank : ∀ r ∈ trapping.cfg.rules, r.valid = false := by decide +kernel
  simp [ruleMatches, blank r (List.mem_of_getElem? e)]

/-- A Default Disposition of PASS to FL and RR, FL's queue with a frame and FR's with two. -/
def passing : State :=
  withCfg (fun t => { t with frame := { t.frame with passDefault := true, defaultMask := 0x9 } })
    { trapping with pass := (trapping.pass.set .fl [⟨5, []⟩]).set .fr [⟨5, []⟩, ⟨6, []⟩] }

theorem witness_release_under_pass :
    Alert passing ∧ passing.tx.length < 16 ∧ (∃ f ∈ passing.trap.held, f.ticket = (7 : Byte).toNat) ∧
    (∀ g ∈ passing.trap.held, g.ticket = (7 : Byte).toNat → g = heldFor 7) ∧
    (∀ j r, (heldFor 7).rule < j → passing.cfg.rules[j]? = some r →
      ruleMatches r (heldFor 7).id (heldFor 7).data = false) ∧
    passing.cfg.frame.passDefault = true ∧ TakesCopy passing.cfg.frame.defaultMask.toNat .fl passing ∧
      ∀ c, TakesCopy passing.cfg.frame.defaultMask.toNat c passing → (passing.pass.get c).length < 2 := by
  refine ⟨alert_of (by decide +kernel), by decide +kernel, by decide +kernel, by decide +kernel, fun j r _ e => ?_, rfl,
    by decide +kernel, each_closure (by decide +kernel)⟩
  have blank : ∀ r ∈ passing.cfg.rules, r.valid = false := by decide +kernel
  simp [ruleMatches, blank r (List.mem_of_getElem? e)]

/-- A part at rest is ready for a lock request. -/
theorem ready_to_lock {s : State} (alert : Alert s)
    (h : s.tx.length < 16 ∧ s.group.inFlight = none ∧ s.group.slot = none ∧ 0 < s.group.tokens ∧
      s.group.crashHold = none ∧
      allClosures.all (fun c =>
        ((closure s c).phase == .idle || (closure s c).phase == .fault) && (closure s c).command == .idle &&
          (closure s c).pulseSteps == 0 && (channel s c).reported && (channel s c).link != .lost &&
          s.cfg.modes.get c != .forcedOff && (closure s c).latch != .ajar) = true) : LockReady s := by
  obtain ⟨room, flight, slot, tokens, hold, each⟩ := h
  have at_ (c : Closure) := List.all_eq_true.mp each c (by cases c <;> decide)
  simp only [Bool.and_eq_true, Bool.or_eq_true, beq_iff_eq, bne_iff_ne] at at_
  exact
    { alert := alert, room := room, idle := fun c => (at_ c).1.1.1.1.1.1
      unsent := fun c => ⟨(at_ c).1.1.1.1.1.2, (at_ c).1.1.1.1.2⟩, noFlight := flight, noSlot := slot
      reported := fun c => (at_ c).1.1.1.2, present := fun c => (at_ c).1.1.2, notForced := fun c => (at_ c).1.2
      tokens := tokens, noHold := hold, noAjar := fun c => (at_ c).2 }

theorem flOpen_ready : LockReady flOpen := ready_to_lock (alert_of (by decide +kernel)) (by decide +kernel)

theorem witness_lock_requests :
    LockReady flOpen ∧ SomeToDrive [Closure.fl, .fr, .rl, .rr, .tg] (fun _ => .locked) flOpen ∧ LockReady awake ∧
    SomeToDrive [Closure.fl, .fr, .rl, .rr, .tg] (fun c => if c = .tg then .locked else .deadlocked) awake ∧
    SomeToDrive [Closure.fl, .fr, .rl, .rr, .tg] (fun _ => .unlocked) awake ∧
    SomeToDrive [driverClosure awake] (fun _ => .unlocked) awake ∧
      SomeToDrive [Closure.tg] (fun _ => .unlocked) awake ∧
    (.lockAll 5, LockKind.lockAll) ∈ lockRows 5 ∧ ¬Drives .lockAll awake ∧ ¬Drives .unlockDriver flOpen :=
  ⟨flOpen_ready, ⟨.fl, by decide +kernel⟩, ready_to_lock awake_alert (by decide +kernel), ⟨.fl, by decide +kernel⟩,
   ⟨.fl, by decide +kernel⟩,
   ⟨.fl, by decide +kernel⟩, ⟨.tg, by decide +kernel⟩, by decide, by unfold Drives SomeToDrive; decide +kernel,
   by unfold Drives SomeToDrive; decide +kernel⟩

/-- FL driving for a request of a kind. -/
def driving (kind : LockKind) : State :=
  withGroup (fun g => { g with inFlight := some ⟨⟨kind, .fob, false⟩, .fl⟩ })
    (withClosure .fl (fun k => { k with phase := .driving }) awake)

theorem witness_refusals :
    (let s := withGroup (fun g => { g with crashHold := some 500 }) awake
     Alert s ∧ s.tx.length < 16 ∧ (∀ c, (closure s c).phase = .idle ∨ (closure s c).phase = .fault) ∧
      s.group.inFlight = none ∧ s.group.slot = none ∧ (∀ c, (channel s c).reported = true) ∧
      s.group.crashHold.isSome) ∧
    (let s := withGroup (fun g => { g with tokens := 0 }) awake
     Alert s ∧ (∀ c, (closure s c).phase = .idle ∨ (closure s c).phase = .fault) ∧
      (∀ c, (channel s c).reported = true) ∧ s.group.tokens = 0) ∧
    (Alert (driving .lockAll) ∧ (closure (driving .lockAll) .fl).phase = .driving ∧
      (driving .lockAll).group.inFlight = some ⟨⟨.lockAll, .fob, false⟩, .fl⟩) ∧
    (Alert (driving .unlockAll) ∧ (closure (driving .unlockAll) .fl).phase = .driving ∧
      (driving .unlockAll).group.inFlight = some ⟨⟨.unlockAll, .fob, false⟩, .fl⟩) :=
  ⟨⟨alert_of (by decide +kernel), by decide +kernel, each_closure (by decide +kernel), by decide +kernel,
   by decide +kernel, each_closure (by decide +kernel), by decide +kernel⟩,
   ⟨alert_of (by decide +kernel), each_closure (by decide +kernel), each_closure (by decide +kernel),
    by decide +kernel⟩,
   ⟨alert_of (by decide +kernel), by decide +kernel⟩, alert_of (by decide +kernel), by decide +kernel⟩

/-- A lock request, an UNLOCK_DRIVER and a crash unlock that find the part at rest, PARKED and DEEP. -/
theorem witness_asleep_requests :
    ((Instr.unlockDriver 5, LockKind.unlockDriver) ∈ lockRows 5 ∧ (Instr.lockAll 5, LockKind.lockAll) ∈ lockRows 5) ∧
    (Asleep parked ∧ (∀ c, (closure parked c).phase = .idle) ∧ parked.group.inFlight = none ∧
      Closure.fl ∈ requestNames (driverClosure parked) .unlockDriver ∧ (channel parked .fl).link ≠ .lost ∧
      parked.cfg.modes.get .fl ≠ .forcedOff) ∧
    (Asleep deep ∧ deep.tx.length < 16 ∧ (channel deep .rr).rate = .off ∧ (channel deep .rr).link ≠ .lost ∧
      deep.cfg.modes.get .rr = .auto) :=
  ⟨by decide, ⟨parked_asleep, each_closure (by decide +kernel), by decide +kernel⟩, deep_asleep, by decide +kernel⟩

/-- The tailgate unlocked, and the speed fresh up to a time. -/
def parkedOpen (fresh : Nat) : State :=
  { withClosure .tg (fun k => { k with target := .unlocked }) awake with
    ctx := { awake.ctx with speedFresh := some fresh } }

/-- LOCKED; MOVING with a speed stale by 1 ms; and a release on the last fresh ms. -/
theorem witness_release :
    Alert awake ∧ awake.tx.length < 16 ∧ (closure awake .tg).target ≠ .unlocked ∧
    Alert (parkedOpen 1004) ∧ (closure (parkedOpen 1004) .tg).target = .unlocked ∧
    ¬((parkedOpen 1004).ctx.speed = 0 ∧ ∃ d, (parkedOpen 1004).ctx.speedFresh = some d ∧ 1000 + 5 ≤ d) ∧
    Alert (parkedOpen 1005) ∧
    ((parkedOpen 1005).ctx.speed = 0 ∧ ∃ d, (parkedOpen 1005).ctx.speedFresh = some d ∧ 1000 + 5 ≤ d) ∧
    (let s := withChannel .tg (fun ch => { ch with link := .lost }) (parkedOpen 1005)
     Alert s ∧ (closure s .tg).target = .unlocked ∧ s.ctx.speedFresh = some (s.now + 5) ∧
      s.release.deadline = none ∧ (channel s .tg).link = .lost) := by
  refine ⟨awake_alert, by decide +kernel, by decide +kernel, alert_of (by decide +kernel), by decide +kernel, ?_,
    alert_of (by decide +kernel), ⟨rfl, _, rfl, by decide +kernel⟩, alert_of (by decide +kernel), by decide +kernel⟩
  rintro ⟨-, d, h, late⟩
  obtain rfl : 1004 = d := Option.some.inj h
  omega

/-- DEEP with the tailgate unlocked and the speed fresh to the last ms; and RL's child lock sensed ENGAGED. -/
theorem witness_asleep_release_and_child :
    (let s : State := { withClosure .tg (fun k => { k with target := .unlocked }) deep with
        ctx := { deep.ctx with speedFresh := some (deep.now + 5) } }
     Asleep s ∧ s.tx.length < 16 ∧ (closure s .tg).target = .unlocked ∧ s.ctx.speed = 0 ∧
      s.ctx.speedFresh = some (s.now + 5) ∧ s.release.deadline = none ∧ (channel s .tg).link ≠ .lost ∧
      (channel s .tg).rate = .off ∧
      s.cfg.modes.get .tg = .auto) ∧
    (Asleep deep ∧ (child deep .rl).phase = .idle ∧ (child deep .rl).sensed ≠ .disengaged ∧
      (channel deep .rl).rate = .off ∧ (channel deep .rl).link ≠ .lost ∧ deep.cfg.modes.get .rl = .auto) :=
  ⟨⟨⟨by decide +kernel, .inr (by decide +kernel), by decide +kernel⟩, by decide +kernel⟩, deep_asleep,
   by decide +kernel⟩

/-- PARKED with RR at P = 2000, asked for 2001. -/
theorem witness_asleep_move :
    Asleep parked ∧ parked.tx.length < 16 ∧ (3 : Byte).toNat = windowCode .rr ∧ (2001 : BitVec 16).toNat ≤ 8000 ∧
    WindowFree .rr parked ∧
    (window parked .rr).position < min 2001 (min (windowCfg parked .rr).travel (currentLimit parked .rr)) :=
  ⟨parked_asleep, by decide +kernel, by decide +kernel, by decide +kernel, free_of (by decide +kernel),
   by decide +kernel⟩

/-- A crash during a lock actuation, with the slot, the relock timer and a key window taken. -/
theorem witness_crash :
    let s := withGroup (fun g =>
        { g with slot := some ⟨.lockAll, .fob, false⟩, relockTimer := some ⟨3000, .locked⟩, driverFirst := some 2000 })
      (driving .lockAll)
    Alert s ∧ s.tx.length < 16 ∧ (∀ c, (channel s c).link ≠ .lost) ∧ (∀ c, s.cfg.modes.get c ≠ .forcedOff) ∧
      s.op.active = none ∧
      ∀ w, (window s w).state = .idle ∨ (window s w).state = .fault ∨ (window s w).direction = .down :=
  ⟨alert_of (by decide +kernel), by decide +kernel, each_closure (by decide +kernel),
   each_closure (by decide +kernel), rfl, each_window (by decide +kernel)⟩

theorem witness_child_set :
    Alert awake ∧ awake.tx.length < 16 ∧ ((4 : Byte).toNat ≠ 2 ∧ (4 : Byte).toNat ≠ 3) ∧ 1 < (2 : Byte).toNat ∧
    (3 : Byte).toNat = 3 ∧ (1 : Byte).toNat ≤ 1 ∧ (window awake (rearWindow .rr)).state = .idle ∧
    (child awake .rr).phase = .idle := ⟨awake_alert, by decide +kernel⟩

theorem witness_clear_normalized :
    Alert awake ∧ awake.tx.length < 16 ∧ 4 ≤ (4 : Byte).toNat ∧ (4 : Byte).toNat ≠ 255 ∧
    (3 : Byte).toNat = windowCode .rr ∧ (window awake .rr).state = .idle ∧ (255 : Byte).toNat = 255 ∧
    (let s := withWindow .rl (fun x => { x with state := .reversing }) awake
     Alert s ∧ (window s .rl).state = .reversing ∧
      ∀ w, (window s w).state = .idle ∨ (window s w).state = .fault ∨ (window s w).state = .reversing) :=
  ⟨awake_alert, by decide +kernel, by decide +kernel, by decide +kernel, by decide +kernel, by decide +kernel,
   by decide +kernel, alert_of (by decide +kernel), by decide +kernel,
   each_window (by decide +kernel)⟩

/-- FAULT, REVERSING, and a free window at P = 2000 asked for 2001, 1999, 0 and 2000. -/
theorem witness_window_move :
    Alert awake ∧ awake.tx.length < 16 ∧ 4 ≤ (4 : Byte).toNat ∧ 8000 < (8001 : BitVec 16).toNat ∧
    (8000 : BitVec 16).toNat ≤ 8000 ∧ (3 : Byte).toNat = windowCode .rr ∧
    (let s := withWindow .rr (fun x => { x with state := .fault }) awake
     Alert s ∧ (window s .rr).state = .fault) ∧
    (let s := withWindow .rr (fun x => { x with state := .reversing }) awake
     Alert s ∧ (window s .rr).state = .reversing ∧ s.cfg.modes.get .rr ≠ .forcedOff) ∧
    WindowFree .rr awake ∧
    (let target (n : Nat) := min (min n (windowCfg awake .rr).travel) (currentLimit awake .rr)
     (window awake .rr).position < target 2001 ∧ min 1999 (windowCfg awake .rr).travel < (window awake .rr).position ∧
      min 0 (windowCfg awake .rr).travel = 0 ∧ min 2000 (windowCfg awake .rr).travel ≠ 0 ∧
      target 2000 ≤ (window awake .rr).position ∧
      (window awake .rr).position ≤ min 2000 (windowCfg awake .rr).travel) :=
  ⟨awake_alert, by decide +kernel, by decide +kernel, by decide +kernel, by decide +kernel, by decide +kernel,
   ⟨alert_of (by decide +kernel), by decide +kernel⟩,
   ⟨alert_of (by decide +kernel), by decide +kernel⟩, free_of (by decide +kernel), by decide +kernel⟩

/-- IDLE, REVERSING, a switch's and another's waiting entry, and a moving window. -/
theorem witness_window_stop :
    Alert awake ∧ awake.tx.length < 16 ∧ 4 ≤ (4 : Byte).toNat ∧ (1 : Byte).toNat = windowCode .fr ∧
    (window awake .fr).state = .idle ∧
    (let s := withWindow .fr (fun x => { x with state := .reversing }) awake
     Alert s ∧ (window s .fr).state = .reversing) ∧
    (let s := withWindow .fr (fun x => { x with origin := some .driverPack }) (waiting .fr awake)
     Alert s ∧ (window s .fr).state = .waiting ∧ (window s .fr).origin = some .driverPack) ∧
    (let s := opening .fr .ownSwitch awake
     Alert s ∧ (window s .fr).state = .movingAuto ∧ (window s .fr).origin = some .ownSwitch) ∧
    (let s := opening .fr .body awake
     Alert s ∧ (window s .fr).state = .movingAuto ∧ (window s .fr).origin = some .body ∧
      (window s .fr).clearPending = false ∧ s.cfg.modes.get .fr ≠ .forcedOff) ∧
    (let s := waiting .fr awake
     Alert s ∧ (window s .fr).state = .waiting ∧ (window s .fr).origin = some .management) :=
  ⟨awake_alert, by decide +kernel, by decide +kernel, by decide +kernel, by decide +kernel,
   ⟨alert_of (by decide +kernel), by decide +kernel⟩,
   ⟨alert_of (by decide +kernel), by decide +kernel⟩, ⟨alert_of (by decide +kernel), by decide +kernel⟩,
   ⟨alert_of (by decide +kernel), by decide +kernel⟩, alert_of (by decide +kernel), by decide +kernel⟩

/-- A descriptor of one opening step for FL. -/
def openFl : Descriptor := ⟨true, .vent, [⟨.fl, .opened⟩], false⟩

/-- The part with that descriptor, changed, in entry 3. -/
def describing (f : Descriptor → Descriptor) : State :=
  withCfg (fun t => { t with descriptors := t.descriptors.set 3 (f openFl) }) awake

theorem witness_operation_start :
    Alert awake ∧ awake.tx.length < 16 ∧ awake.op.active = none ∧ awake.cfg.descriptors.length = 4 ∧
    4 ≤ (4 : Byte).toNat ∧
    (let s := withGroup (fun g => { g with crashHold := some 5 }) (describing id)
     Alert s ∧ s.cfg.descriptors[(3 : Byte).toNat]? = some openFl ∧ s.group.crashHold.isSome) ∧
    (let s := describing fun d => { d with enabled := false }
     Alert s ∧ s.cfg.descriptors[(3 : Byte).toNat]? = some { openFl with enabled := false } ∧
      s.group.crashHold = none) ∧
    (let s := describing fun d => { d with holdToRun := true }
     Alert s ∧ s.cfg.descriptors[(3 : Byte).toNat]? = some { openFl with holdToRun := true }) ∧
    (let s := describing id
     Alert s ∧ s.cfg.descriptors.length = 4 ∧ s.cfg.descriptors[(3 : Byte).toNat]? = some openFl ∧ WindowFree .fl s ∧
      (window s .fl).position < currentLimit s .fl ∧ currentLimit s .fl ≤ (windowCfg s .fl).travel) :=
  ⟨awake_alert, by decide +kernel, rfl, rfl, by decide +kernel, ⟨alert_of (by decide +kernel), by decide +kernel⟩,
   ⟨alert_of (by decide +kernel), by decide +kernel⟩,
   ⟨alert_of (by decide +kernel), by decide +kernel⟩, alert_of (by decide +kernel), by decide +kernel,
    by decide +kernel, free_of (by decide +kernel), by decide +kernel⟩

/-- An operation of MANAGEMENT with a step for each window as told, `n` of them open. -/
def stepping (steps : List (WindowId × StepStatus)) (n : Nat) : ActiveOp :=
  { descriptor := 3, kind := .parkClose, holdToRun := false, source := .management, lease := none
    steps := steps.map fun p => ⟨p.1, .closed, p.2⟩, remaining := n, abortCause := none }

/-- RL closing for that operation. -/
def closingFor (op : ActiveOp) : State :=
  { withWindow .rl (fun x => { x with state := .movingAuto, held := false }) (closing .rl .operation awake) with
    op := { awake.op with active := some op } }

/-- RL's step the last one, and one of two. -/
theorem witness_step_out :
    (let op := stepping [(.rl, .issued), (.fr, .done)] 1
     StepOut .rl op (closingFor op) ∧ Alert (closingFor op) ∧ (closingFor op).tx.length < 15 ∧
      (window (closingFor op) .rl).clearPending = false ∧ (closingFor op).cfg.modes.get .rl ≠ .forcedOff) ∧
    (let op := stepping [(.fl, .pending), (.rl, .issued)] 2
     StepOut .rl op (closingFor op)) ∧
    (MotionOutcome.replaced, StepStatus.overridden) ∈
      [(MotionOutcome.reached, StepStatus.done), (.overridden, .overridden), (.replaced, .overridden),
       (.stopped, .cancelled), (.cancelled, .cancelled), (.runtime, .cancelled), (.lost, .cancelled)] :=
  ⟨⟨⟨rfl, by decide, rfl, rfl, rfl, ⟨_, .head _, rfl, rfl⟩, by decide +kernel, by decide +kernel⟩,
    alert_of (by decide +kernel), by decide +kernel⟩,
   ⟨rfl, by decide, rfl, rfl, rfl, ⟨_, .tail _ (.head _), rfl, rfl⟩, by decide +kernel, by decide +kernel⟩, by decide⟩

/-- Closing FR, opening FL in its place, and RR in FAULT, while an operation closes RL; and each step by itself. -/
theorem witness_start_pass :
    let d : Descriptor := ⟨true, .vent, [⟨.fr, .closed⟩, ⟨.fl, .count 2000⟩, ⟨.rr, .opened⟩], false⟩
    let s := withWindow .rr (fun x => { x with state := .fault })
      (withCfg (fun t => { t with descriptors := t.descriptors.set 3 d })
        (closingFor (stepping [(.rl, .issued), (.fr, .done)] 1)))
    Alert s ∧ s.cfg.descriptors.length = 4 ∧ s.cfg.descriptors[(3 : Byte).toNat]? = some d ∧ s.group.crashHold = none ∧
    (d.steps.map (·.window)).Nodup ∧ s.tx.length < 14 ∧ (∀ old ∈ s.op.active, old.abortCause = none) ∧
    StepComesTo (s.now + 5) s ⟨.fr, .closed⟩ .issued ∧ StepComesTo (s.now + 5) s ⟨.fl, .count 2000⟩ .done ∧
    StepComesTo (s.now + 5) s ⟨.rr, .opened⟩ .skipped ∧
    (window s .rl).origin = some .operation ∧ (window s .rl).state = .movingAuto ∧
    (∀ st ∈ d.steps, st.window ≠ .rl) :=
  ⟨alert_of (by decide +kernel), rfl, rfl, rfl, by decide, by decide +kernel, fun _ h => by cases h; rfl,
   .inl ⟨rfl, free_of (by decide +kernel), .inr (by decide +kernel)⟩,
   .inr (.inl ⟨rfl, free_of (by decide +kernel), by unfold LeftToMove; decide +kernel⟩),
   .inr (.inr ⟨rfl, .inl (by decide +kernel)⟩), by decide +kernel⟩

theorem witness_operation_cancel :
    Alert awake ∧ awake.tx.length < 16 ∧ awake.op.active = none ∧ Alert operating ∧
    operating.op.active = some activeOp ∧ activeOp.abortCause = none ∧ operating.group.crashHold = none :=
  ⟨awake_alert, by decide +kernel, rfl, alert_of (by decide +kernel), rfl, rfl, rfl⟩

/-! ### Start-up and the store -/

theorem witness_power_on :
    ({ awake with store := { awake.store with image := .good awake.cfg } } : State).store.image = .good awake.cfg ∧
      awake.store.image = .bad := ⟨rfl, rfl⟩

/-- LISTEN, its end 100 ms away from 5 ms. -/
def listening : State := { State.reset with stage := .listen, listenEnd := some 105 }

theorem witness_listen_and_poll :
    State.reset.stage = .load ∧
    (∀ l, (State.reset.cfg.lines.get l).mode = .rising ∨ (State.reset.cfg.lines.get l).mode = .falling) ∧
    listening.stage = .listen ∧ listening.listenEnd = some 105 ∧ (∀ c, (channel listening c).rate = .off) ∧
    (∀ w, (window listening w).lastDrive = .stop ∧ (window listening w).coast = none ∧
      (window listening w).stopDue = false) ∧ listening.motion.slots = [] :=
  ⟨rfl, each_line ⟨by decide +kernel, each_closure (by decide +kernel)⟩, rfl, rfl, each_closure (by decide +kernel),
   each_window (by decide +kernel), rfl⟩

/-- The bytes of a quiet report: the lock LOCKED, the child lock ENGAGED. -/
def quietRecord : List Byte := [0x12, 0, 0, 0, 0, 0, 0, 0, 0, 0xEE]

theorem quietRecord_read : readReport quietRecord = some quietReport := by decide +kernel

/-- POLL with only RR unheard. -/
def polling : State :=
  let s := after (.listenEnd 105) listening
  { s with
    channels := s.channels.mapWith fun c ch => if c = .rr then ch else { ch with firstSense := some (.unlocked,
      .unknown) }
    pins := ⟨.high, .const .high⟩ }

theorem witness_last_report :
    polling.stage = .poll ∧ cycleOpen { polling with now := polling.now + 5 } .rr = true ∧
    readReport quietRecord = some quietReport ∧
    (∀ d, d ≠ .rr → (channel polling d).firstSense.isSome ∨ (channel polling d).link = .lost) ∧
    polling.group.crashKept = false ∧ polling.group.inFlight = none ∧ polling.group.slot = none ∧
    polling.pins.ign = .high :=
  ⟨by decide +kernel, by decide +kernel, quietRecord_read, each_closure (by decide +kernel), by decide +kernel⟩

theorem witness_power_loss :
    awake.stage ≠ .off ∧ awake.store.snapshot = none ∧
    ({ awake with store := { awake.store with snapshot := some awake.cfg } } : State).store.snapshot = some awake.cfg :=
  ⟨by decide +kernel, rfl, rfl⟩

/-- A part whose image is good, with a warm window. -/
def saved : State :=
  { withWindow .rl (fun x => { x with heat := 55 }) awake with store := { awake.store with image := .good awake.cfg } }

theorem witness_restart :
    Alert { saved with store := { saved.store with parkKept := true } } ∧ Alert saved ∧ saved.tx.length < 16 ∧
    saved.store.snapshot = none ∧ saved.store.parkKept = false ∧ saved.store.image = .good awake.cfg ∧
    awake.store.image = .bad ∧ (window saved .rl).clearPending = false ∧
    (awake.cfg.windows.get .rl).travel = (windowCfg saved .rl).travel ∧
    twoFobs.cfg.fobs[1]? = some activeFob ∧ (Tables.factory.fobs[1]?.map (·.serial)) = some 0 :=
  ⟨alert_of (by decide +kernel), alert_of (by decide +kernel), by decide +kernel, rfl, rfl, rfl, rfl, by decide +kernel⟩

/-- A save of a locked snapshot runs, with a park save kept behind it. -/
def saving : State :=
  { saved with
    store := { saved.store with parkKept := true, snapshot := some { awake.cfg with protection := locking } } }

theorem settled_of {dt : Nat} {s : State}
    (h : s.stage = .run ∧
      (s.ctx.state = .awake → s.ctx.ignition = .run ∨ awakeHold s = true ∨ s.now + dt < s.ctx.idleDeadline) ∧
      (s.ctx.state = .parked → awakeHold s = true ∨ ∀ d ∈ s.ctx.deepDeadline, s.now + dt < d) ∧
      allClosures.all (fun c => (channel s c).rate == chosenRate s c) = true) : Settled dt s :=
  { run := h.1, awake := h.2.1, parked := h.2.2.1
    rates := fun c => eq_of_beq (List.all_eq_true.mp h.2.2.2 c (by cases c <;> decide)) }

/-- A running save with one kept, none, and the same while PARKED and in DEEP. -/
theorem witness_saves :
    Alert saving ∧ saving.tx.length < 16 ∧ saving.store.parkKept = true ∧ Alert saved ∧ saved.store.snapshot = none ∧
    saved.store.parkKept = false ∧ saving.store.snapshot = some { awake.cfg with protection := locking } ∧
    saving.faults.length = 14 ∧ Settled 5 saving ∧ Settled 5 saved ∧
    (parked.store.snapshot.isSome ∧ Settled 5 parked) ∧
      ∃ s : State, s.ctx.state = .deep ∧ s.store.snapshot = none ∧ Settled 5 s :=
  ⟨alert_of (by decide +kernel), by decide +kernel, rfl, alert_of (by decide +kernel), rfl, rfl, rfl, by decide +kernel,
   settled_of (by decide +kernel), settled_of (by decide +kernel), ⟨by decide +kernel, settled_of (by decide +kernel)⟩,
   after (.saveComplete 0 true) deep, by decide +kernel, by decide +kernel, settled_of (by decide +kernel)⟩

/-! ### Timers -/

theorem witness_refill :
    let s := withGroup (fun g => { g with tokens := 11, refillDeadline := some 1000 }) awake
    Calm s ∧ s.group.refillDeadline = some 1000 ∧ s.group.tokens < 12 :=
  ⟨(steady_of (by decide +kernel)).toCalm, rfl, by decide +kernel⟩

/-- Every record that has a deadline of its own, all at 1100 ms. -/
def timing : State :=
  { awake with
    release := ⟨some 1100, true⟩, timed := some ⟨.slow, 1100⟩
    fobRun := awake.fobRun.set 7 ⟨some ⟨9, 1100⟩, true⟩
    key := { awake.key with hold := some ⟨0, .lock, 5, 0, false, 1100, false⟩ }
    group := { awake.group with driverFirst := some 1100, doubleLock := some ⟨2, 1100⟩ }
    ctx := { awake.ctx with speedFresh := some 1100, voltageFresh := some 1100 } }

theorem witness_deadlines :
    Calm timing ∧ timing.release.deadline = some 1100 ∧ timing.group.driverFirst = some 1100 ∧
    timing.group.doubleLock = some ⟨2, 1100⟩ ∧ timing.timed = some ⟨.slow, 1100⟩ ∧
    timing.fobRun[((7 : Fin 8) : Nat)]? = some ⟨some ⟨9, 1100⟩, true⟩ ∧
    timing.key.hold = some ⟨0, .lock, 5, 0, false, 1100, false⟩ ∧ timing.ctx.speedFresh = some 1100 ∧
    timing.ctx.voltageFresh = some 1100 :=
  ⟨(steady_of (by decide +kernel)).toCalm, rfl, rfl, rfl, rfl, by decide +kernel, rfl, rfl, rfl⟩

/-- RL in a phase on its way to DEADLOCKED, with the deadline of that phase at 1200 ms. -/
def locked (phase : LockPhase) : State :=
  withClosure .rl (fun k =>
    { k with
      target := .deadlocked, phase := phase, driveDeadline := if phase = .driving then some 1200 else none
      settleDeadline := if phase = .driving then none else some 1200 }) awake

/-- RL's child lock short of its target, its settle deadline at 1200 ms. -/
def childShort (retried : Bool) : State :=
  { awake with children := awake.children.set .rl ⟨.disengaged, .engaged, .settling, none, retried, some 1200⟩ }

theorem witness_lock_deadlines :
    (Calm (locked .driving) ∧ (closure (locked .driving) .rl).driveDeadline = some 1200 ∧
      (closure (locked .driving) .rl).phase = .driving) ∧
    (Calm (locked .settling) ∧ (closure (locked .settling) .rl).settleDeadline = some 1200 ∧
      (closure (locked .settling) .rl).phase = .settling ∧
      atTarget (closure (locked .settling) .rl).sensed (closure (locked .settling) .rl).target = false) ∧
    (Calm (locked .retrying) ∧ (closure (locked .retrying) .rl).settleDeadline = some 1200 ∧
      (closure (locked .retrying) .rl).phase = .retrying ∧
      atTarget (closure (locked .retrying) .rl).sensed (closure (locked .retrying) .rl).target = false ∧
      (locked .retrying).faults.length = 14) ∧
    (let f : InFlight := ⟨⟨.unlockAll, .fob, false⟩, .fl⟩
     let last := withGroup (fun g => { g with inFlight := some f }) (locked .retrying)
     let among := withClosure .fl (fun k => { k with phase := .driving }) last
     (Calm last ∧ last.group.inFlight = some f ∧ last.group.slot = none ∧
       (∀ e, e ≠ .rl → (closure last e).phase ≠ .driving ∧ (closure last e).phase ≠ .settling ∧
         (closure last e).phase ≠ .retrying)) ∧
      Calm among ∧ Closure.fl ≠ .rl ∧ (closure among .fl).phase = .driving) ∧
    (Calm (childShort false) ∧ (child (childShort false) .rl).settleDeadline = some 1200 ∧
      childThere (child (childShort false) .rl) = false ∧ (child (childShort false) .rl).retried = false) ∧
    (Calm (childShort true) ∧ (child (childShort true) .rl).settleDeadline = some 1200 ∧
      childThere (child (childShort true) .rl) = false ∧ (child (childShort true) .rl).retried = true) :=
  ⟨⟨(steady_of (by decide +kernel)).toCalm, by decide +kernel⟩, ⟨(steady_of (by decide +kernel)).toCalm,
   by decide +kernel⟩,
   ⟨(steady_of (by decide +kernel)).toCalm, by decide +kernel⟩,
   ⟨⟨(steady_of (by decide +kernel)).toCalm, rfl, rfl, each_closure (by decide +kernel)⟩,
    (steady_of (by decide +kernel)).toCalm, by decide +kernel⟩,
   ⟨(steady_of (by decide +kernel)).toCalm, by decide +kernel⟩,
   (steady_of (by decide +kernel)).toCalm, by decide +kernel⟩

/-- The relock timer; and pending: a LOCK_ALL of a fob beside a relock timer, and an UNLOCK_TAILGATE with its release. -/
theorem witness_relock_and_pending :
    (let s := withGroup (fun g => { g with relockTimer := some ⟨1100, .locked⟩ }) flOpen
     LockReady s ∧ s.group.relockTimer = some ⟨1100, .locked⟩ ∧
      SomeToDrive [Closure.fl, .fr, .rl, .rr, .tg] (fun _ => .locked) s) ∧
    (let s := withGroup
        (fun g => { g with slot := some ⟨.lockAll, .fob, false⟩, relockTimer := some ⟨1100, .locked⟩ }) flOpen
     LockReady { s with group := { s.group with slot := none } } ∧ s.group.slot = some ⟨.lockAll, .fob, false⟩ ∧
      Drives .lockAll s) ∧
    (let s := withGroup (fun g => { g with slot := some ⟨.unlockTailgate, .passive, true⟩ }) awake
     LockReady { s with group := { s.group with slot := none } } ∧ Drives .unlockTailgate s ∧
      s.group.relockTimer = none) :=
  ⟨⟨ready_to_lock (alert_of (by decide +kernel)) (by decide +kernel), rfl, .fl, by decide +kernel⟩,
   ⟨ready_to_lock (alert_of (by decide +kernel)) (by decide +kernel), rfl, .fl, by decide +kernel⟩,
   ready_to_lock (alert_of (by decide +kernel)) (by decide +kernel), ⟨.tg, by decide +kernel⟩, rfl⟩

/-- Retained operation of a held switch motion: the ignition OFF, FL closing from its own switch. -/
def retaining : State :=
  { closing .fl .ownSwitch awake with
    ctx := { awake.ctx with ignition := .off }
    motion := { (closing .fl .ownSwitch awake).motion with retained := some 1100 } }

theorem witness_window_deadlines :
    (let s := { awake with motion := { awake.motion with retained := some 1100 } }
     Calm s ∧ s.motion.retained = some 1100 ∧ s.stage = .run) ∧
    (retaining.stage = .run ∧ retaining.ctx.ignition = .off ∧ retaining.motion.retained = some 1100 ∧
      (window retaining .fl).held = true ∧ (window retaining .fl).origin = some .ownSwitch ∧
      (window retaining .fl).state = .movingManual) ∧
    (let s := withWindow .fl
        (fun x => { x with normalized := false, normHold := some 1100 }) (closing .fl .ownSwitch awake)
     Calm s ∧ (window s .fl).normHold = some 1100 ∧ (window s .fl).state = .movingManual ∧
      (window s .fl).origin = some .ownSwitch) ∧
    (let s := opening .fl .body awake
     Calm s ∧ (window s .fl).runStart = some 500 ∧ (window s .fl).state = .movingAuto ∧ s.faults.length = 14) :=
  ⟨⟨(steady_of (by decide +kernel)).toCalm, by decide +kernel⟩, by decide +kernel,
   ⟨(steady_of (by decide +kernel)).toCalm, by decide +kernel⟩,
   (steady_of (by decide +kernel)).toCalm, by decide +kernel⟩

theorem witness_lease_search_trap :
    (Steady operating ∧ operating.op.active = some activeOp ∧ activeOp.lease = some 1300 ∧
      activeOp.abortCause = none ∧ operating.group.crashHold = none) ∧
    (Steady searching ∧ searching.search.slots[((3 : Fin 4) : Nat)]? = some (some ⟨.fl, .unlock, 3, 1200, .handle⟩)) ∧
    (Steady trapping ∧ trapping.trap.held = [heldFor 7, heldFor 8] ∧ (heldFor 7).ticket = (7 : Byte).toNat ∧
      (heldFor 7).expiry = 3000 ∧ (∀ g ∈ [heldFor 8], g.ticket ≠ (heldFor 7).ticket) ∧ trapping.tx.length < 16) :=
  ⟨⟨steady_of (by decide +kernel), rfl, rfl, rfl, rfl⟩, ⟨steady_of (by decide +kernel), rfl⟩,
   steady_of (by decide +kernel), rfl, by decide +kernel⟩

theorem witness_status_idle_deep :
    (awake.stage = .run ∧ Steady awake ∧ awake.nextStatus = some 1100 ∧ awake.tx = []) ∧
    (waitingToPark.stage = .run ∧ waitingToPark.ctx.state = .awake ∧ waitingToPark.ctx.ignition = .off ∧
      awakeHold waitingToPark = false ∧ waitingToPark.ctx.idleDeadline = 61000 ∧ 0 < waitingToPark.cfg.car.deepDelay ∧
      waitingToPark.store.snapshot = none ∧ waitingToPark.store.lockCell = none) ∧
    (parked.stage = .run ∧ parked.ctx.state = .parked ∧ parked.ctx.deepDeadline = some (61000 + 72 * 3600000) ∧
      awakeHold parked = false) :=
  ⟨⟨rfl, awake_steady, rfl, rfl⟩, by decide +kernel, by decide +kernel⟩

/-- FL under FORCED_ON, FR under FORCED_OFF, RR under AUTO with its touch sense and TG without, as they come to PARKED;
and FL under FORCED_ON in PARKED. -/
theorem witness_parked_rates :
    (let s := withCfg (fun t => { t with
        modes := (t.modes.set .fl .forcedOn).set .fr .forcedOff
        key := { t.key with touch := ⟨false, false, false, true, false⟩ } }) waitingToPark
     s.stage = .run ∧ s.ctx.state = .awake ∧ s.ctx.ignition = .off ∧ awakeHold s = false ∧ s.ctx.idleDeadline = 61000 ∧
      s.cfg.modes.get .fl = .forcedOn ∧ s.cfg.modes.get .fr = .forcedOff ∧
      (s.cfg.modes.get .rr = .auto ∧ s.cfg.key.touch.get .rr = true) ∧
      (s.cfg.modes.get .tg = .auto ∧ s.cfg.key.touch.get .tg = false)) ∧
    (let s := withCfg (fun t => { t with modes := t.modes.set .fl .forcedOn }) parked
     s.ctx.state = .parked ∧ s.ctx.deepDeadline = some (61000 + 72 * 3600000) ∧ awakeHold s = false ∧
      s.cfg.modes.get .fl = .forcedOn) := by decide +kernel

/-! ### The door links, the arbiter and anti-pinch -/

/-- A report record of these nine bytes, with its check byte. -/
def framed (b : List Byte) : List Byte := b ++ [checkByte b]

/-- What it reports. -/
def reported (b : List Byte) : Report := (readReport (framed b)).getD quietReport

/-- What makes a report come 5 ms from now, field by field; the last report was a quiet one. -/
theorem comes_of {c : Closure} {b : List Byte} {s : State} (steady : Steady s)
    (h : (channel s c).cycleEnd = some 1005 ∧ s.now + 5 ≤ 1005 ∧ (channel s c).answered = false ∧
      readReport (framed b) = some (reported b) ∧ (channel s c).link = .present ∧ (channel s c).comparable = true ∧
      (channel s c).lastReport = some quietReport ∧ (closure s c).latch = (if (reported b).ajar then .ajar else .shut) ∧
      (reported b).overtemp = false ∧ (reported b).openLoad = false ∧ (reported b).lowSupply = false) :
    ReportComes 5 c (framed b) (reported b) quietReport s :=
  ⟨⟨steady, ⟨1005, h.1, h.2.1⟩, h.2.2.1, h.2.2.2.1⟩, h.2.2.2.2.1, h.2.2.2.2.2.1, h.2.2.2.2.2.2.1,
   h.2.2.2.2.2.2.2.1, h.2.2.2.2.2.2.2.2⟩

/-- What makes the locks rest, field by field. -/
theorem rests_of {c : Closure} {b : List Byte} {s : State} (comes : ReportComes 5 c (framed b) (reported b) quietReport s)
    (child : ChildUnmoved c (reported b) s)
    (h : (closure s c).phase = .idle ∧ (closure s c).sensed = seenLock c (reported b) ∧
      (closure s c).senseWaits = false ∧ s.group.inFlight = none ∧ s.group.slot = none) :
    LocksRest 5 c (framed b) (reported b) quietReport s :=
  { comes with lock := ⟨h.1, h.2.1, h.2.2.1⟩, child := child, noFlight := h.2.2.2.1, noSlot := h.2.2.2.2 }

/-- A report of a quiet part whose bytes 1, 2 and 3 to 5 are as told. -/
def bytesOf (flags own pack0 pack1 buttons : Byte) : List Byte := [0x12, flags, own, pack0, pack1, buttons, 0, 0, 0]

theorem witness_discarded_report :
    Calm awake ∧ readReport [0x12] = none ∧
    (channel (withChannel .tg (fun c => { c with answered := true }) awake) .tg).answered = true ∧
    (channel awake .tg).cycleEnd = some 1005 ∧ 1005 < awake.now + 6 :=
  ⟨awake_steady.toCalm, by decide +kernel⟩

/-- The bytes of a quiet report with a lock sensed. -/
def sensing (code : Byte) : List Byte := [0x10 + 2 * code, 0, 0, 0, 0, 0, 0, 0, 0]

/-- RL in a phase on the way to a target, a request of a kind and source in flight. -/
def underway (phase : LockPhase) (target : LockTarget) (kind : LockKind) (source : LockSource) : State :=
  withGroup (fun g => { g with inFlight := some ⟨⟨kind, source, false⟩, .fl⟩ })
    (withClosure .rl
      (fun k =>
        { k with
          target := target, phase := phase, driveDeadline := if phase = .driving then some 1200 else none
          settleDeadline := if phase = .driving then none else some 1200 }) awake)

/-- RL at rest and among others; moved by hand to UNLOCKED; its pulse ended; and sensed at its target while FR drives,
and as the last of an UNLOCK_ALL from a fob and of a LOCK_ALL. -/
theorem witness_lock_report :
    (ReportComes 5 .rl (framed (sensing 1)) (reported (sensing 1)) quietReport awake ∧
      ChildUnmoved .rl (reported (sensing 1)) awake ∧ MotorRests .rl awake ∧
      levels (reported (sensing 1)) = levels quietReport ∧ Untouched (reported (sensing 1)) ∧
      LockUnmoved .rl (reported (sensing 1)) awake ∧ awake.group.inFlight = none ∧ awake.group.slot = none) ∧
    (ReportComes 5 .rl (framed (sensing 0)) (reported (sensing 0)) quietReport awake ∧
      ChildUnmoved .rl (reported (sensing 0)) awake ∧ levels (reported (sensing 0)) = levels quietReport ∧
      Untouched (reported (sensing 0)) ∧ (closure awake .rl).sensed ≠ seenLock .rl (reported (sensing 0)) ∧
      seenLock .rl (reported (sensing 0)) = .unlocked ∧ seenLock .tg (reported (sensing 2)) = .locked) ∧
    (let s := underway .driving .unlocked .unlockAll .fob
     ReportComes 5 .rl (framed (sensing 0)) (reported (sensing 0)) quietReport s ∧
      (closure s .rl).driveDeadline.isSome ∧ (reported (sensing 0)).pulseActive = false) ∧
    (let s := underway .settling .unlocked .unlockAll .fob
     let among := withClosure .fr (fun k => { k with phase := .driving }) s
     ReportComes 5 .rl (framed (sensing 0)) (reported (sensing 0)) quietReport s ∧
      atTarget (seenLock .rl (reported (sensing 0))) (closure s .rl).target = true ∧
      (closure s .rl).command = .idle ∧ s.group.inFlight = some ⟨⟨.unlockAll, .fob, false⟩, .fl⟩ ∧
      (∀ e, e ≠ .rl → (closure s e).phase = .idle) ∧ s.group.slot = none ∧
      ReportComes 5 .rl (framed (sensing 0)) (reported (sensing 0)) quietReport among ∧
      (closure among .fr).phase = .driving) ∧
    (let s := underway .retrying .locked .lockAll .management
     ReportComes 5 .rl (framed (sensing 1)) (reported (sensing 1)) quietReport s ∧
      (closure s .rl).driveDeadline = none ∧ (closure s .rl).settleDeadline.isSome ∧
      atTarget (seenLock .rl (reported (sensing 1))) (closure s .rl).target = true) :=
  ⟨⟨comes_of awake_steady (by decide +kernel), each_door (by decide +kernel), each_window (by decide +kernel),
    by decide +kernel, by decide +kernel⟩,
   ⟨comes_of awake_steady (by decide +kernel), each_door (by decide +kernel), by decide +kernel, by decide +kernel,
    by decide +kernel⟩,
   ⟨comes_of (steady_of (by decide +kernel)) (by decide +kernel), by decide +kernel⟩,
   ⟨comes_of (steady_of (by decide +kernel)) (by decide +kernel), by decide +kernel, by decide +kernel, rfl,
    each_closure (by decide +kernel), rfl, comes_of (steady_of (by decide +kernel)) (by decide +kernel),
    by decide +kernel⟩,
   comes_of (steady_of (by decide +kernel)) (by decide +kernel), by decide +kernel⟩

/-- RR's child lock driving with its command gone, settling with the lock sensed at its target, and found away from it. -/
theorem witness_child_report :
    let s (k : ChildLock) : State := { awake with children := awake.children.set .rr k }
    (ReportComes 5 .rr (framed (sensing 1)) (reported (sensing 1)) quietReport
        (s ⟨.engaged, .disengaged, .driving, none, true, none⟩) ∧
      LockUnmoved .rr (reported (sensing 1)) (s ⟨.engaged, .disengaged, .driving, none, true, none⟩) ∧
      levels (reported (sensing 1)) = levels quietReport ∧ Untouched (reported (sensing 1))) ∧
    (ReportComes 5 .rr (framed (sensing 1)) (reported (sensing 1)) quietReport
        (s ⟨.engaged, .disengaged, .settling, none, true, some 1800⟩) ∧
      (reported (sensing 1)).childSensed = .engaged) ∧
    ReportComes 5 .rr (framed (sensing 1)) (reported (sensing 1)) quietReport
      (s ⟨.disengaged, .disengaged, .idle, none, true, none⟩) :=
  ⟨⟨comes_of (steady_of (by decide +kernel)) (by decide +kernel), by decide +kernel, by decide +kernel,
    by decide +kernel⟩,
   ⟨comes_of (steady_of (by decide +kernel)) (by decide +kernel), by decide +kernel⟩,
   comes_of (steady_of (by decide +kernel)) (by decide +kernel)⟩

/-- FR pressed UP, the inhibited RL pressed, RR pressed DOWN on the driver pack from P = 2000, and FR's held entry
released. -/
theorem witness_presses :
    (let b := bytesOf 0 1 0 0 0
     LocksRest 5 .fr (framed b) (reported b) quietReport awake ∧ MotorRests .fr awake ∧ Untouched (reported b) ∧
      levels (reported b) = levels { quietReport with ownSwitch := (reported b).ownSwitch } ∧
      (reported b).ownSwitch = .up ∧ packLevel awake .fr (reported b) .fr = .none ∧ PressFree .fr awake ∧
      LocksRest 5 .rl (framed b) (reported b) quietReport awake ∧ ¬Uninhibited .rl awake) ∧
    (let b := bytesOf 0 0 0 6 0
     LocksRest 5 .fl (framed b) (reported b) quietReport awake ∧ MotorRests .fl awake ∧ Untouched (reported b) ∧
      Closure.fl = driverClosure awake ∧ quietReport.pack.get .rr = .none ∧
      levels (reported b) = levels { quietReport with pack := quietReport.pack.set .rr .down } ∧
      ownLevel awake .fl (reported b) .rr = .none ∧ WindowFree .rr awake ∧
      (window awake .rr).position < min (windowCfg awake .rr).travel (currentLimit awake .rr)) ∧
    (let s := withWindow .fr
        (fun x => { x with state := .waiting, origin := some .ownSwitch, held := true })
        (withChannel .fr (fun ch => { ch with lastReport := some { quietReport with ownSwitch := .up } }) awake)
     LocksRest 5 .fr quietRecord quietReport { quietReport with ownSwitch := .up } s ∧ MotorRests .fr s ∧
      levels quietReport = levels { ({ quietReport with ownSwitch := .up } : Report) with ownSwitch := .none } ∧
      (window s .fr).suppressed = false ∧ Uninhibited .fr s ∧ (window s .fr).state = .waiting ∧
      (window s .fr).origin = some .ownSwitch ∧ (window s .fr).held = true) := by
  have rest (b : List Byte) (c : Closure) := rests_of (c := c) (b := b) (s := awake)
  refine ⟨⟨rest _ _ (comes_of awake_steady (by decide +kernel)) (each_door (by decide +kernel)) (by decide +kernel),
      each_window (by decide +kernel), by decide +kernel, by decide +kernel, by decide +kernel, by decide +kernel,
      ⟨free_of (by decide +kernel), by decide +kernel, each_door (by decide +kernel)⟩,
      rest _ _ (comes_of awake_steady (by decide +kernel)) (each_door (by decide +kernel)) (by decide +kernel),
      fun h => absurd (h .rl rfl) (by decide +kernel)⟩,
    ⟨rest _ _ (comes_of awake_steady (by decide +kernel)) (each_door (by decide +kernel)) (by decide +kernel),
      each_window (by decide +kernel), by decide +kernel, by decide +kernel, by decide +kernel, by decide +kernel,
      by decide +kernel, free_of (by decide +kernel), by decide +kernel⟩,
    ⟨⟨⟨⟨steady_of (by decide +kernel), ⟨1005, by decide +kernel, by decide +kernel⟩, by decide +kernel, quietRecord_read⟩,
        by decide +kernel, by decide +kernel, by decide +kernel, by decide +kernel, by decide +kernel⟩,
        ⟨by decide +kernel, by decide +kernel, by decide +kernel⟩, each_door (by decide +kernel), by decide +kernel,
        by decide +kernel⟩,
      each_window (by decide +kernel), by decide +kernel, by decide +kernel, each_door (by decide +kernel),
      by decide +kernel⟩⟩

/-- On the driver pack: the central lock switch to LOCK with FR open, the key cylinder to UNLOCK, the child and the
lockout button. -/
theorem witness_pack_edges :
    let frOpen := withClosure .fr (fun k => { k with sensed := .unlocked }) awake
    (let b := bytesOf 0 0 0 0x10 0
     LocksRest 5 .fl (framed b) (reported b) quietReport frOpen ∧ Closure.fl = driverClosure frOpen ∧
      LockReady frOpen ∧ Drives .lockAll frOpen ∧ levels (reported b) = levels { quietReport with central := .lock }) ∧
    (let b := bytesOf 0 0 0 0x80 0
     LocksRest 5 .fl (framed b) (reported b) quietReport awake ∧ LockReady awake ∧ Drives .unlockAll awake ∧
      levels (reported b) = levels { quietReport with keyCylinder := .unlock }) ∧
    (let b := bytesOf 0 0 0 0 1
     LocksRest 5 .fl (framed b) (reported b) quietReport awake ∧
      (∀ d, (window awake (rearWindow d)).state = .idle) ∧
      levels (reported b) = levels { quietReport with childButton := true } ∧
      (∀ d, (child awake d).phase = .idle) ∧
      ∀ d, (channel awake (rearClosure d)).link ≠ .lost ∧ awake.cfg.modes.get (rearClosure d) ≠ .forcedOff) ∧
    (let b := bytesOf 0 0 0 0 2
     LocksRest 5 .fl (framed b) (reported b) quietReport awake ∧
      levels (reported b) = levels { quietReport with lockoutButton := true }) := by
  have rest (b : List Byte) := rests_of (c := .fl) (b := b) (s := awake)
  exact ⟨⟨rests_of (comes_of (steady_of (by decide +kernel)) (by decide +kernel)) (each_door (by decide +kernel))
        (by decide +kernel), by decide +kernel, ready_to_lock (alert_of (by decide +kernel)) (by decide +kernel),
        ⟨.fr, by decide +kernel⟩, by decide +kernel⟩,
      ⟨rest _ (comes_of awake_steady (by decide +kernel)) (each_door (by decide +kernel)) (by decide +kernel),
        ready_to_lock awake_alert (by decide +kernel), ⟨.tg, by decide +kernel⟩, by decide +kernel⟩,
      ⟨rest _ (comes_of awake_steady (by decide +kernel)) (each_door (by decide +kernel)) (by decide +kernel),
        each_door (by decide +kernel), by decide +kernel, each_door (by decide +kernel), each_door (by decide +kernel)⟩,
      rest _ (comes_of awake_steady (by decide +kernel)) (each_door (by decide +kernel)) (by decide +kernel),
      by decide +kernel⟩

/-- A part with Passive Entry and an uplink identifier on RR's channel. -/
def open_ : State :=
  withCfg
    (fun t =>
      { t with
        key := { t.key with passive := true, touch := .const true }
        frame := { t.frame with uplinkIds := t.frame.uplinkIds.set .rr (some 0x123) } }) awake

/-- Both touches at RL, the release button at TG, and two bytes of uplink from RR. -/
theorem witness_handles :
    (let b := bytesOf 3 0 0 0 0
     LocksRest 5 .rl (framed b) (reported b) quietReport open_ ∧ MotorRests .rl open_ ∧
      levels (reported b) = levels quietReport ∧ (reported b).uplink = none ∧ open_.cfg.key.passive = true ∧
      open_.search.slots = [none, none, none, none] ∧ open_.search.tagCounter < 16 ∧ open_.tx.length < 16 ∧
      open_.cfg.key.touch.get .rl = true ∧ (reported b).touchUnlock = true) ∧
    (let b := bytesOf 2 0 0 0 0
     LocksRest 5 .tg (framed b) (reported b) quietReport open_ ∧ (reported b).touchUnlock = false ∧
      (reported b).touchLock = true ∧ (reported b).releaseButton = false) ∧
    (let b := bytesOf 4 0 0 0 0
     LocksRest 5 .tg (framed b) (reported b) quietReport open_ ∧ (reported b).releaseButton = true ∧
      (closure open_ .tg).target ≠ .unlocked) ∧
    (let b : List Byte := [0x12, 0, 0, 0, 0, 0, 0, 0, 0x82, 7, 8]
     LocksRest 5 .rr (framed b) (reported b) quietReport open_ ∧ MotorRests .rr open_ ∧
      levels (reported b) = levels quietReport ∧ (reported b).uplink = some [7, 8] ∧
      open_.cfg.frame.uplinkIds.get .rr = some 0x123) := by
  have rest (b : List Byte) (c : Closure) := rests_of (c := c) (b := b) (s := open_)
  have steady : Steady open_ := steady_of (by decide +kernel)
  exact ⟨⟨rest _ _ (comes_of steady (by decide +kernel)) (each_door (by decide +kernel)) (by decide +kernel),
        each_window (by decide +kernel), by decide +kernel⟩,
      ⟨rest _ _ (comes_of steady (by decide +kernel)) (each_door (by decide +kernel)) (by decide +kernel),
        by decide +kernel⟩,
      ⟨rest _ _ (comes_of steady (by decide +kernel)) (each_door (by decide +kernel)) (by decide +kernel),
        by decide +kernel⟩,
      rest _ _ (comes_of steady (by decide +kernel)) (each_door (by decide +kernel)) (by decide +kernel),
      each_window (by decide +kernel), by decide +kernel⟩

/-- 11 counts at the current 200: an opening that they end and one they do not, a reversal to 2011, and a closing run
with the voltage stale. -/
theorem witness_motor_report :
    let b : List Byte := [0x12, 0, 0, 0, 0, 0, 11, 200, 0]
    (levels (reported b) = levels quietReport ∧ Untouched (reported b)) ∧
    (let s := opening .rl .body awake
     let near := withWindow .rl (fun x => { x with position := 4389 }) s
     LocksRest 5 .rl (framed b) (reported b) quietReport s ∧ (window s .rl).state = .movingAuto ∧
      (window s .rl).lastDrive = .down ∧ (window s .rl).stopDue = false ∧ (window s .rl).clearPending = false ∧
      s.cfg.modes.get .rl ≠ .forcedOff ∧
      min (windowCfg s .rl).travel (2000 + 11) < min (window s .rl).requested (currentLimit s .rl) ∧
      LocksRest 5 .rl (framed b) (reported b) quietReport near ∧
      min (window near .rl).requested (currentLimit near .rl) ≤ min (windowCfg s .rl).travel (4389 + 11)) ∧
    (let s := withWindow .rl
        (fun x => { x with state := .reversing, direction := .down, lastDrive := .down, reversalTarget := some 2011 })
        (closing .rl .driverPack awake)
     LocksRest 5 .rl (framed b) (reported b) quietReport s ∧ (window s .rl).reversalTarget = some 2011 ∧
      2011 ≤ min (windowCfg s .rl).travel (2000 + 11)) ∧
    (let s := { closing .rl .driverPack awake with ctx := { awake.ctx with voltageFresh := none } }
     LocksRest 5 .rl (framed b) (reported b) quietReport s ∧ (window s .rl).origin = some .driverPack ∧
      (windowCfg s .rl).blanking ≤ (window s .rl).runCounter ∧ (windowCfg s .rl).blanking < 255 ∧
      (windowCfg s .rl).ceiling ≤ (reported b).current) :=
  ⟨by decide +kernel,
   ⟨rests_of (comes_of (steady_of (by decide +kernel)) (by decide +kernel)) (each_door (by decide +kernel))
      (by decide +kernel), by decide +kernel, by decide +kernel, by decide +kernel, by decide +kernel, by decide +kernel,
      by decide +kernel,
      rests_of (comes_of (steady_of (by decide +kernel)) (by decide +kernel)) (each_door (by decide +kernel))
        (by decide +kernel), by decide +kernel⟩,
   ⟨rests_of (comes_of (steady_of (by decide +kernel)) (by decide +kernel)) (each_door (by decide +kernel))
      (by decide +kernel), by decide +kernel⟩,
   rests_of (comes_of (steady_of (by decide +kernel)) (by decide +kernel)) (each_door (by decide +kernel))
     (by decide +kernel), by decide +kernel⟩

/-- RL's node LOST and its window in FAULT. -/
def lostRl : State :=
  withWindow .rl (fun x => { x with state := .fault })
    (withClosure .rl (fun k => { k with sensed := .unknown, latch := .unknown })
      (withChannel .rl
        (fun ch => { ch with link := .lost, missing := 3, comparable := false, lastReport := none, reported := false })
        awake))

/-- The recovery of RL with its switch at UP; and reports with overtemperature, new to an opening window and not. -/
theorem witness_recovery_and_node_faults :
    (let b := bytesOf 0 1 0 0 0
     ReportDue 5 .rl (framed b) (reported b) lostRl ∧ (channel lostRl .rl).link = .lost ∧
      (channel lostRl .rl).comparable = false ∧ (window lostRl .rl).state = .fault ∧ MotorRests .rl lostRl) ∧
    (let b := bytesOf 8 0 0 0 0
     let s := opening .rl .body awake
     ReportDue 5 .rl (framed b) (reported b) s ∧ s.faults.length = 14 ∧ (channel s .rl).comparable = true ∧
      (channel s .rl).lastReport = some quietReport ∧ ShowsFault (reported b) (some quietReport) ∧
      ¬ShowsFault (reported b) (some (reported b)) ∧ (reported b).overtemp = true ∧
      (window (windowReport .rl (reported b) { s with now := s.now + 5 }) .rl).state = .movingAuto) :=
  ⟨⟨⟨steady_of (by decide +kernel), ⟨1005, by decide +kernel, by decide +kernel⟩, by decide +kernel, by decide +kernel⟩,
    by decide +kernel, by decide +kernel, by decide +kernel, each_window (by decide +kernel)⟩,
   ⟨steady_of (by decide +kernel), ⟨1005, by decide +kernel, by decide +kernel⟩, by decide +kernel, by decide +kernel⟩,
   by decide +kernel, by decide +kernel, by decide +kernel, .inl ⟨by decide +kernel, by simp; rfl⟩,
   by unfold ShowsFault; simp, by decide +kernel⟩

/-- A node that missed some reports. -/
def missing (n : Nat) (c : Closure) : State :=
  withChannel c (fun ch => { ch with missing := n }) (opening .rl .body awake)

theorem witness_cycle_end :
    (let s := withChannel .tg (fun ch => { ch with answered := true }) awake
     Steady s ∧ (channel s .tg).cycleEnd = some 1005 ∧ s.cfg.modes.get .tg ≠ .forcedOff ∧
      (channel s .tg).answered = true) ∧
    (Steady (missing 1 .tg) ∧ (channel (missing 1 .tg) .tg).cycleEnd = some 1005 ∧
      (channel (missing 1 .tg) .tg).answered = false ∧ (channel (missing 1 .tg) .tg).link ≠ .lost ∧
      (channel (missing 1 .tg) .tg).missing < 2) ∧
    (let s := withChannel .tg (fun ch => { ch with link := .lost, missing := 3 }) awake
     Steady s ∧ (channel s .tg).answered = false ∧ (channel s .tg).link = .lost) ∧
    (Steady (missing 2 .rl) ∧ (channel (missing 2 .rl) .rl).cycleEnd = some 1005 ∧
      (channel (missing 2 .rl) .rl).link ≠ .lost ∧ (channel (missing 2 .rl) .rl).missing = 2 ∧
      (missing 2 .rl).group.inFlight = none ∧ (missing 2 .rl).group.slot = none ∧
      (missing 2 .rl).op.active = none ∧ (missing 2 .rl).faults.length = 14) :=
  ⟨⟨steady_of (by decide +kernel), by decide +kernel⟩, ⟨steady_of (by decide +kernel), by decide +kernel⟩,
   ⟨steady_of (by decide +kernel), by decide +kernel⟩,
   steady_of (by decide +kernel), by decide +kernel⟩

/-- An answered cycle of RL whose window has turned to UP, its ended slot still held, with a child command, a lock pulse, a
payload and a timed lamp pattern waiting. -/
theorem witness_door_cycle_end :
    let s : State := { withWindow .rl (fun x => { x with direction := .up, stopDue := true })
        (withChannel .rl (fun ch => { ch with answered := true }) (opening .rl .body awake)) with
      children := awake.children.set .rl
        { child awake .rl with target := .disengaged, phase := .driving, command := some .disengage }
      closures := awake.closures.set .rl { closure awake .rl with phase := .driving, command := .lockPulse, pulseSteps := 20 }
      pass := awake.pass.set .rl [⟨5, [1]⟩], timed := some ⟨.fast, 3000⟩ }
    Steady s ∧ (channel s .rl).cycleEnd = some 1005 ∧ s.cfg.modes.get .rl ≠ .forcedOff ∧
      (channel s .rl).answered = true ∧ (nextDrive .rl s).motor = .stop ∧ (nextDrive .rl s).child = some .disengage ∧
      (nextDrive .rl s).lockLamp = .fast :=
  ⟨steady_of (by decide +kernel), by decide +kernel⟩

theorem witness_motion_grant :
    (Calm full ∧ full.stage = .run ∧ 2 ≤ full.motion.slots.length) ∧
    (let s := waiting .rr awake
     let x := heatRest (s.now + 5) (window s .rr)
     Calm s ∧ s.motion.slots.length < 2 ∧ s.motion.switchQueue = [] ∧ s.motion.otherQueue = [.rr] ∧
      (channel s (windowClosure .rr)).reported = true ∧ (window s .rr).state = .waiting ∧
      (window s .rr).held = false ∧ (window s .rr).origin = some .management ∧ (window s .rr).hot = false ∧
      90 ≤ s.ctx.voltage ∧ x.overtemp = false ∧ x.direction = .down ∧
      x.position < min x.requested (currentLimit s .rr)) ∧
    (let s := withWindow .rr (fun x => { x with requested := 2000 }) (waiting .rr awake)
     let x := heatRest (s.now + 5) (window s .rr)
     Calm s ∧ s.motion.otherQueue = [.rr] ∧ x.direction = .down ∧ min x.requested (currentLimit s .rr) ≤ x.position) ∧
    (let s := withWindow .rr (fun x => { x with overtemp := true }) (waiting .rr awake)
     Calm s ∧ s.motion.otherQueue = [.rr] ∧ (heatRest (s.now + 5) (window s .rr)).overtemp = true) :=
  ⟨⟨(steady_of (by decide +kernel)).toCalm, by decide +kernel⟩, ⟨(steady_of (by decide +kernel)).toCalm,
   by decide +kernel⟩,
   ⟨(steady_of (by decide +kernel)).toCalm, by decide +kernel⟩, (steady_of (by decide +kernel)).toCalm, by decide +kernel⟩

/-- A held closing entry of an own switch, hot, at the head before RR's; an opening one, hot; a fresh voltage of 89; and
an operation's entry with its step. -/
theorem witness_grant_by_class :
    let turn (f : Window → Window) : State :=
      { withWindow .fl f (waiting .fl awake) with
        motion := { awake.motion with switchQueue := [.fl], otherQueue := [.rr] } }
    let press (dir : Direction) (x : Window) : Window :=
      { x with
        origin := some .ownSwitch, held := true, direction := dir, requested := if dir = .up then 0 else 4400, hot := true
        heat := 20000, heatStamp := 1000 }
    let hot (s : State) : Bool := (heatRest (s.now + 5) (window s .fl)).hot
    (let s := turn (press .up)
     Calm s ∧ s.motion.switchQueue ++ s.motion.otherQueue = [.fl, .rr] ∧ (channel s .fl).reported = true ∧
      (window s .fl).state = .waiting ∧ hot s = true ∧ (window s .fl).held = true ∧ min 0 (currentLimit s .fl) = 0) ∧
    (let s := turn (press .down)
     Calm s ∧ (window s .fl).direction = .down ∧ hot s = true) ∧
    (let s := { waiting .fl awake with ctx := { awake.ctx with voltage := 89, voltageFresh := some 1005 } }
     Calm s ∧ hot s = false ∧ s.ctx.voltage < 90 ∧ s.now + 5 ≤ 1005) ∧
    (let op := stepping [(.fl, .issued)] 1
     let s := { withWindow .fl (fun x => { x with origin := some .operation }) (waiting .fl awake) with
        op := { awake.op with active := some op } }
     Calm s ∧ StepOut .fl op s ∧ s.tx.length < 16) :=
  ⟨⟨(steady_of (by decide +kernel)).toCalm, by decide +kernel⟩, ⟨(steady_of (by decide +kernel)).toCalm,
   by decide +kernel⟩, ⟨(steady_of (by decide +kernel)).toCalm, by decide +kernel⟩,
   (steady_of (by decide +kernel)).toCalm,
   ⟨rfl, by decide, rfl, rfl, rfl, ⟨_, .head _, rfl, rfl⟩, by decide +kernel, by decide +kernel⟩, by decide +kernel⟩

/-- The voltage fresh at 135 and the speed fresh at 0, a run past blanking: an excess at its third report, and a sample
1 below the ceiling of an unnormalized window. -/
theorem witness_pinch :
    let s := pinching
    (∃ d, s.ctx.voltageFresh = some d ∧ s.now ≤ d) ∧ 118 = max 60 (min 180 s.ctx.voltage) ∧
    ((∃ d, s.ctx.speedFresh = some d ∧ s.now ≤ d) ∧ s.ctx.speed < 20) ∧ (window s .rl).state = .movingManual ∧
    (window s .rl).direction = .up ∧ (window s .rl).lastDrive = .up ∧ (window s .rl).stopDue = false ∧
    (window s .rl).origin = some .driverPack ∧ (windowCfg s .rl).blanking ≤ (window s .rl).runCounter ∧
    (windowCfg s .rl).blanking < 255 ∧ s.faults.length = 14 ∧ (window s .rl).normalized = true ∧
    (windowCfg s .rl).topMargin ≤ 1222 - 11 ∧ 1222 - 11 ≤ min (windowCfg s .rl).span (windowCfg s .rl).travel ∧
    (windowCfg s .rl).debounce ≤ min 255 ((window s .rl).debounce + 1) ∧
    31 + ((windowCfg s .rl).tBase + 0) < min 255 ((60 * 135 + 118 / 2) / 118) ∧
    ¬((windowCfg s .rl).ceiling ≤ 149) ∧ (windowCfg s .rl).ceiling ≤ 150 :=
  ⟨⟨_, rfl, by decide +kernel⟩, by decide +kernel, ⟨⟨_, rfl, by decide +kernel⟩, by decide +kernel⟩, by decide +kernel⟩

/-- Zone 15 with a sample of 38 and zone 0 with none, a run that started at P = 200. -/
theorem witness_adaptation :
    let s := withWindow .rl (fun x => { x with startPosition := 200, maxima := List.replicate 15 none ++ [some 38] })
      (closing .rl .ownSwitch awake)
    (window s .rl).normalized = true ∧ (window s .rl).clearPending = false ∧ 200 ≤ (window s .rl).startPosition ∧
    (s.cfg.profiles.get .rl)[15]? = some 30 ∧ (window s .rl).maxima[15]? = some (some 38) ∧
    (s.cfg.profiles.get .rl)[0]? = some 30 ∧ (window s .rl).maxima[0]? = some none := by decide +kernel

/-! ### Keys, bus and lines -/

/-- The forward distances 32 = W across the wrap, 0, and 32769. -/
theorem witness_replay :
    twoFobs.stage = .run ∧ twoFobs.cfg.fobs[1]? = some activeFob ∧ twoFobs.fobRun[1]? = some ⟨none, false⟩ ∧
    activeFob.state = .active ∧ activeFob.remoteAllowed = true ∧ activeFob.accepted = some 1048575 ∧
    (∀ j g, j < 1 → twoFobs.cfg.fobs[j]? = some g → g.state ≠ .empty → g.serial ≠ 77) ∧ twoFobs.faults.length = 14 ∧
    (31 + 1048576 - 1048575) % 1048576 = twoFobs.cfg.key.forwardWindow ∧
    (1048575 + 1048576 - 1048575) % 1048576 = 0 ∧ (32768 + 1048576 - 1048575) % 1048576 = 32769 ∧
    twoFobs.cfg.key.forwardWindow ≤ 255 := by
  refine ⟨rfl, rfl, rfl, rfl, rfl, rfl, fun j g h e _ => ?_, by decide +kernel⟩
  obtain rfl : j = 0 := by omega
  obtain rfl : blockedFob = g := Option.some.inj e
  decide

/-- Entry 0 blank and entry 1 as told, the others blank. -/
def ruled (r : Rule) : State := withCfg (fun t => { t with rules := [Rule.blank, r] ++ t.rules.drop 2 }) awake

/-- An entry that takes 120h to 12Fh with at least two bytes. -/
def matching : Rule :=
  { Rule.blank with
    valid := true, base := 0x120, mask := 0x7F0, minLength := 2, width := 12, lowBit := 4, num := 3, den := 2 }

/-- No entry matches; then each action at entry 1: DROP, both CONTEXT fields, TRAP with room and full, PASS. -/
theorem witness_body_frame :
    (Steady awake ∧ (0x123 : CanId) ≠ awake.mgmt.base ∧
      (∀ r ∈ awake.cfg.rules, ¬(r.valid = true ∧ (0x123 : CanId) &&& r.mask = r.base &&& r.mask ∧ r.minLength ≤ 2)) ∧
      awake.cfg.frame.passDefault = false) ∧
    (∀ action argument,
      let r : Rule := { matching with action := action, argument := argument }
      (ruled r).cfg.rules[1]? = some r ∧ (r.valid = true ∧ (0x123 : CanId) &&& r.mask = r.base &&& r.mask ∧
        r.minLength ≤ 2) ∧
      (∀ j g, j < 1 → (ruled r).cfg.rules[j]? = some g →
        ¬(g.valid = true ∧ (0x123 : CanId) &&& g.mask = g.base &&& g.mask ∧ g.minLength ≤ 2)) ∧
      r.wake = false ∧ r.keepAwake = false ∧ (ruled r).counts.hits[1]? = some 0) ∧
    (let s := withCfg (fun t => { t with car := { t.car with driveAwaySpeed := 0 } })
        (ruled { matching with action := .context, argument := 0 })
     Steady s ∧ s.cfg.car.driveAwaySpeed = 0) ∧
    (let s := { ruled { matching with action := .context, argument := 0 } with
        ctx := { awake.ctx with speed := 14, speedFresh := some 1005 } }
     let opened := withClosure .fl (fun k => { k with sensed := .unlocked }) s
     Steady s ∧ LockReady s ∧ s.cfg.car.driveAwaySpeed = 15 ∧ s.now + 5 ≤ 1005 ∧
      (∀ c, (closure s c).latch = .shut) ∧ s.group.driveAwayArmed = true ∧ ¬Drives .lockAll s ∧
      Steady opened ∧ LockReady opened ∧ Drives .lockAll opened) ∧
    (let s := ruled { matching with action := .trap }
     Steady s ∧ s.trap.held.length < 4 ∧ s.tx.length < 16 ∧ ∀ g ∈ s.trap.held, g.ticket ≠ s.trap.ticketCounter) ∧
    (let s := { ruled { matching with action := .trap } with
        trap := ⟨[heldFor 1, heldFor 2, heldFor 3, heldFor 4], 8⟩ }
     Steady s ∧ 4 ≤ s.trap.held.length ∧ s.faults.length = 14) ∧
    (let s := ruled { matching with action := .pass, argument := 0x1F }
     Steady s ∧ ∀ c, (channel s c).link ≠ .lost ∧ s.cfg.modes.get c ≠ .forcedOff ∧ (s.pass.get c).length < 2) := by
  refine ⟨⟨awake_steady, by decide +kernel, by decide +kernel, rfl⟩, fun action argument => ⟨rfl, ?_,
    fun j g h e => ?_, rfl, rfl, rfl⟩,
    ⟨steady_of (by decide +kernel), by decide +kernel⟩,
    ⟨steady_of (by decide +kernel), ready_to_lock (alert_of (by decide +kernel)) (by decide +kernel), by decide +kernel,
     by decide +kernel, each_closure (by decide +kernel), rfl, by unfold Drives SomeToDrive; decide +kernel,
     steady_of (by decide +kernel), ready_to_lock (alert_of (by decide +kernel)) (by decide +kernel), .fl,
     by decide +kernel⟩,
    ⟨steady_of (by decide +kernel), by decide +kernel⟩,
     ⟨steady_of (by decide +kernel), by decide +kernel⟩,
    steady_of (by decide +kernel), each_closure (by decide +kernel)⟩
  · exact ⟨rfl, (by decide +kernel : (0x123 : CanId) &&& 0x7F0 = 0x120 &&& 0x7F0), Nat.le_refl 2⟩
  · obtain rfl : j = 0 := by omega
    obtain rfl : Rule.blank = g := Option.some.inj e
    decide

/-- An entry with each flag on a part in AWAKE, in PARKED and in DEEP; no entry and a Default Disposition of PASS; and a
PASS entry for FR, whose queue is full. -/
theorem witness_flags_and_pass :
    (let r : Rule := { matching with wake := true, keepAwake := true }
     (ruled r).cfg.rules[1]? = some r ∧ Steady (ruled r) ∧
      (∀ s ∈ [parked, deep], (withCfg (fun t => { t with rules := (ruled r).cfg.rules }) s).cfg.rules[1]? = some r)) ∧
    (Asleep parked ∧ Settled 5 parked ∧ Asleep deep ∧ Settled 5 deep ∧ parked.counts.hits[1]? = some 0) ∧
    (Steady passing ∧ (∀ r ∈ passing.cfg.rules, r.valid = false) ∧ passing.cfg.frame.passDefault = true) ∧
    (TakesCopy 2 .fr passing ∧ 2 ≤ (passing.pass.get .fr).length ∧ (∀ d, d ≠ .fr → ¬TakesCopy 2 d passing) ∧
      passing.faults.length = 14) :=
  ⟨⟨rfl, steady_of (by decide +kernel), by decide +kernel⟩,
   ⟨parked_asleep, settled_of (by decide +kernel), deep_asleep, settled_of (by decide +kernel), by decide +kernel⟩,
   ⟨steady_of (by decide +kernel), by decide +kernel, rfl⟩, by decide +kernel, by decide +kernel,
   each_closure (by decide +kernel), by decide +kernel⟩

/-- FL and TG away from every target: lock kinds of a rule, with its other requests. -/
theorem witness_rule_requests :
    (let s := withClosure .tg (fun k => { k with sensed := .between }) flOpen
     LockReady s ∧ Drives .lockAll s ∧ Drives .deadlockAll s ∧ Drives .unlockTailgate s ∧
      (closure s .tg).target ≠ .unlocked) ∧
    (LockReady awake ∧ Drives .unlockAll awake ∧ Drives .unlockDriver awake ∧
      (515 % 16, LockKind.unlockDriver) ∈
        [(1, LockKind.lockAll), (2, .unlockAll), (3, .unlockDriver), (4, .deadlockAll), (5, .unlockTailgate)] ∧
      515 / 512 % 2 = 1) ∧
    ((11 + 16 * 8) % 16 = 11 ∧ (11 + 16 * 8) / 16 % 16 = 2 ^ windowCode .rr ∧ WindowFree .rr awake ∧
      (let requested (p : Nat) := (min 100 p * (windowCfg awake .rr).travel + 50) / 100
       (window awake .rr).position < min (requested 200) (currentLimit awake .rr) ∧
        requested 200 ≤ (windowCfg awake .rr).travel ∧ requested 0 = 0 ∧ requested 45 < (window awake .rr).position)) ∧
    (let s := opening .rr .body awake
     (window s .rr).clearPending = false ∧ (window s .rr).state = .movingAuto ∧ (window s .rr).origin = some .body ∧
      s.cfg.modes.get .rr ≠ .forcedOff) ∧
    ((13 + 1024 * 3) % 16 = 13 ∧ (withGroup (fun g => { g with crashHold := some 5 }) awake).group.crashHold.isSome ∧
      awake.op.active = none ∧ awake.cfg.descriptors.length = 4) :=
  ⟨⟨ready_to_lock (alert_of (by decide +kernel)) (by decide +kernel), ⟨.fl, by decide +kernel⟩, ⟨.fl, by decide +kernel⟩,
    ⟨.tg, by decide +kernel⟩, by decide +kernel⟩,
   ⟨ready_to_lock awake_alert (by decide +kernel), ⟨.fl, by decide +kernel⟩, ⟨.fl, by decide +kernel⟩,
    by decide +kernel⟩,
   ⟨rfl, rfl, free_of (by decide +kernel), by decide +kernel⟩, by decide +kernel, by decide +kernel⟩

/-- A LOCK search of FR in slot 2 with tag 9; fob 1 may act; a response to it with fob 1 outside, inside, neither, or an
error, and one to tag 5. -/
theorem witness_search_response :
    let y : SearchSlot := ⟨.fr, .lock, 9, 1200, .handle⟩
    let s := { withClosure .fr (fun k => { k with sensed := .unlocked }) twoFobs with
      search := { awake.search with slots := [none, none, some y, none] } }
    readSearchResponse [0x09, 2, 0] = some ⟨9, false, 2, 0⟩ ∧ readSearchResponse [0x89, 0, 0] = some ⟨9, true, 0, 0⟩ ∧
    OnlySlot 2 y s ∧ Steady s ∧ LockReady s ∧ Drives .lockAll s ∧ s.tx.length < 16 ∧
    (2 / 2 ^ 1 % 2 = 1 ∧ s.cfg.fobs[1]? = some activeFob ∧ activeFob.state = .active ∧
      activeFob.passiveAllowed = true ∧ ¬(2 / 2 ^ 0 % 2 = 1)) ∧
    (∀ k, ¬(0 / 2 ^ k % 2 = 1)) ∧ (∀ y ∈ s.search.slots, ∀ z, y = some z → z.tag ≠ 5) ∧ s.faults.length = 14 := by
  refine ⟨by decide +kernel, by decide +kernel, ⟨rfl, fun m hm ne z hz => ?_⟩, steady_of (by decide +kernel),
    ready_to_lock (alert_of (by decide +kernel)) (by decide +kernel), ⟨.fr, by decide +kernel⟩, by decide +kernel,
    ⟨by decide, rfl, by decide, by decide, by decide⟩, by simp, ?_, by decide +kernel⟩
  · simp at hm
    rcases m with _ | _ | _ | _ | m
    · cases hz
    · cases hz
    · exact absurd rfl ne
    · cases hz
    · omega
  · rintro y h z rfl
    simp at h
    simp [h]

/-- Fob 1 with accepted counter FFFFFh: a press 32 ahead of each button, the windows of a fob open to the last ms; and a
held button at repeat 8 after 7, past its start at 255, and short of it. -/
theorem witness_fob_press_and_repeat :
    (let t : Telegram := ⟨77, 31, .lock, 0, false⟩
     readTelegram [77, 0, 0, 0, 31, 0, 0x10, 0] = some t ∧ twoFobs.cfg.fobs[1]? = some activeFob ∧
      twoFobs.fobRun[1]? = some ⟨none, false⟩ ∧ activeFob.serial = t.serial ∧ activeFob.accepted = some 1048575 ∧
      (∀ j g, j < 1 → twoFobs.cfg.fobs[j]? = some g → g.state ≠ .empty → g.serial ≠ t.serial) ∧
      (t.counter + 1048576 - 1048575) % 1048576 = twoFobs.cfg.key.forwardWindow ∧ LockReady twoFobs ∧
      Drives .unlockAll twoFobs ∧ Drives .deadlockAll twoFobs ∧ activeFob.mode = .all ∧
      twoFobs.group.doubleLock = none) ∧
    (let s := withGroup (fun g => { g with doubleLock := some ⟨1, 1005⟩, driverFirst := some 1005 }) twoFobs
     LockReady s ∧ (∃ w, s.group.doubleLock = some w ∧ w.fob = 1 ∧ s.now + 5 ≤ w.deadline) ∧
      ∃ e, s.group.driverFirst = some e ∧ s.now + 5 ≤ e) ∧
    (let h : Hold := ⟨1, .unlock, 1048575, 7, false, 1005, false⟩
     let s := withCfg (fun t => { t with descriptors := t.descriptors.map fun d => { d with enabled := false } })
       { twoFobs with key := { twoFobs.key with hold := some h } }
     Steady s ∧ h.counter = 1048575 ∧ s.now + 5 ≤ h.deadline ∧ h.lastCounted < 8 ∧ activeFob.comfortAllowed = true ∧
      (∃ d, s.cfg.descriptors[1]? = some d ∧ d.enabled = false) ∧ s.group.crashHold = none ∧ s.op.active = none) ∧
    (let s := { twoFobs with
        key := { twoFobs.key with hold := some ⟨1, .lock, 1048575, 254, true, 1005, false⟩ }
        op := { twoFobs.op with active := some { activeOp with source := .fob 1, descriptor := 0 } } }
     Steady s ∧ activeOp.lease = some 1300 ∧ s.now + 5 ≤ 1300 ∧ s.group.crashHold = none) ∧
    (let h : Hold := ⟨1, .lock, 1048575, 7, false, 1005, true⟩
     let s := { twoFobs with key := { twoFobs.key with hold := some h } }
     Steady s ∧ s.key.hold = some h ∧ h.operationStarted = false ∧ h.comfortCleared = true) := by
  refine ⟨⟨by decide +kernel, rfl, rfl, rfl, rfl, fun j g h e _ => ?_, by decide +kernel,
      ready_to_lock (alert_of (by decide +kernel)) (by decide +kernel), ⟨.fl, by decide +kernel⟩,
      ⟨.fl, by decide +kernel⟩, rfl, rfl⟩,
    ⟨ready_to_lock (alert_of (by decide +kernel)) (by decide +kernel), ⟨_, rfl, rfl, by decide +kernel⟩, _, rfl,
      by decide +kernel⟩,
    ⟨steady_of (by decide +kernel), rfl, by decide +kernel, by decide, rfl, ⟨_, rfl, by decide +kernel⟩, rfl, rfl⟩,
    ⟨steady_of (by decide +kernel), rfl, by decide +kernel, rfl⟩, steady_of (by decide +kernel), rfl, rfl, rfl⟩
  obtain rfl : j = 0 := by omega
  obtain rfl : blockedFob = g := Option.some.inj e
  decide

/-- A full queue with a frame being sent; the port SILENT; and the lowest identifier behind a higher one, twice. -/
theorem witness_transmission :
    (let s := { awake with tx := List.replicate 16 { frame 5 with started := true } }
     Calm s ∧ s.stage = .run ∧ s.port = .active ∧ s.faults.length = 14) ∧
    (Calm { awake with port := .silent 900 } ∧ ({ awake with port := .silent 900 } : State).port = .silent 900) ∧
    (let s := { awake with tx := [frame 5, frame 4, frame 4, frame 9] }
     Calm s ∧ s.stage = .run ∧ s.port = .active ∧ s.tx = [frame 5] ++ frame 4 :: [frame 4, frame 9] ∧
      (∀ g ∈ s.tx, g.started = false) ∧ (∀ g ∈ [frame 5], (frame 4).id < g.id) ∧
      (∀ g ∈ [frame 4, frame 9], (frame 4).id ≤ g.id)) :=
  ⟨⟨(steady_of (by decide +kernel)).toCalm, by decide +kernel⟩, ⟨(steady_of (by decide +kernel)).toCalm, rfl⟩,
   (steady_of (by decide +kernel)).toCalm,
   by decide +kernel⟩

/-- RUN→RUN, RUN→OFF, OFF→RUN in AWAKE with the retained deadline present, and in PARKED and in DEEP. -/
theorem witness_ignition :
    Steady awake ∧ awake.cfg.car.retainedTime ≠ 0 ∧
    (let s := { waitingToPark with motion := { waitingToPark.motion with retained := some 1100 } }
     s.stage = .run ∧ s.ctx.state = .awake ∧ s.ctx.ignition = .off ∧ ∀ c, (channel s c).rate = chosenRate s c) ∧
    (parked.stage = .run ∧ parked.ctx.ignition = .off ∧ parked.ctx.state = .parked) ∧ deep.ctx.state = .deep :=
  ⟨awake_steady, by decide +kernel, ⟨rfl, rfl, rfl, each_closure (by decide +kernel)⟩, by decide +kernel,
   by decide +kernel⟩

/-- One line's enable and mode. -/
def lined (l : WakeLine) (enable : Bool) (mode : LineMode) : State :=
  withCfg (fun t => { t with lines := t.lines.set l ⟨enable, mode⟩ }) awake

theorem witness_wake_lines :
    (Steady (lined .ign false .rising) ∧ ((lined .ign false .rising).cfg.lines.get .ign).mode = .rising ∧
      ((lined .ign false .rising).cfg.lines.get .ign).enable = false) ∧
    (Steady (lined .ign true .high) ∧ ((lined .ign true .high).cfg.lines.get .ign).enable = true ∧
      ((lined .ign true .high).lines.get .ign).pending = false) ∧
    (let s := lineAt (.door .rr) ⟨true, .low⟩ true .low
     Steady s ∧ (s.cfg.lines.get (.door .rr)).mode = .low ∧ (s.lines.get (.door .rr)).pending = true) ∧
    (let s := lined (.door .rl) true .falling
     Steady s ∧ (s.cfg.lines.get (.door .rl)).enable = true ∧ s.cfg.key.passive = true ∧
      s.search.slots = [none, none, none, none] ∧ s.search.tagCounter < 16 ∧ s.tx.length < 16) ∧
    (parked.stage = .run ∧ parked.ctx.state = .parked ∧ (parked.cfg.lines.get .ign).mode = .rising ∧
      (parked.cfg.lines.get .ign).enable = true ∧ 0 < parked.cfg.car.parkDelay) ∧
    (Steady (lined (.door .rl) true .high) ∧ ((lined (.door .rl) true .high).cfg.lines.get (.door .rl)).mode = .high) :=
  ⟨⟨steady_of (by decide +kernel), by decide +kernel⟩, ⟨steady_of (by decide +kernel), by decide +kernel⟩,
   ⟨steady_of (by decide +kernel), by decide +kernel⟩, ⟨steady_of (by decide +kernel), by decide +kernel⟩,
   by decide +kernel, steady_of (by decide +kernel), by decide +kernel⟩

end Sys2Proof.Machine.Tests
end

section
/-!
PROOFS. CLEAR_FAULTS (R206).
-/

namespace Sys2Proof.Machine

/-- The counts that CLEAR_FAULTS clears play no part in the choice of the rates (R176). -/
theorem clearFaults_alert {s : State} (a : Alert s) : Alert (clearFaults s) := by
  refine ⟨a.run, a.awake, a.parkDelay, fun c => ?_⟩
  have rate := a.rates c
  simp only [channel, clearFaults, Five.get_mapWith] at rate ⊢
  exact rate

/-- Settles O11: CLEAR_FAULTS is a request of an alert part whose effect is `clearFaults` and whose answer is OK. -/
theorem clearFaultsClearsTheCounts : Obligations.ClearFaultsClearsTheCounts := by
  intro s dt alert room
  exact answersActive_replied (r := .clearFaults) (t := clearFaults s) rfl alert (by simp) rfl
    (clearFaults_alert alert) room

end Sys2Proof.Machine
end

section
/-!
PROOFS. The custody of the protection record (R204): the image, the lock cell, the working record, the record a save
writes, and whether LOAD runs. The operations of the eight blocks leave all five alone, one lemma for each operation;
that holds of a park save too, because the record that a save writes is settled before it begins. Start-up, the end of
a save, PROTECT and a power loss alone change them.
-/

namespace Sys2Proof.Machine

/-- What R204 speaks of. -/
structure Custody where
  image : StoreImage
  cell : Option Protection
  working : Protection
  /-- The protection record that the running save writes, or that a save beginning now would write. -/
  pledge : Protection
  loading : Bool

/-- The record of the running save's snapshot, or of the snapshot a save would take (R204, R208). -/
def pledgeOf (store : Store) (working : Protection) : Protection :=
  match store.snapshot with
  | some image => image.protection
  | none => store.lockCell.getD working

def custodyOf (store : Store) (working : Protection) (stage : Stage) : Custody :=
  ⟨store.image, store.lockCell, working, pledgeOf store working, stage == .load⟩

/-- The custody of a state. -/
def custody (s : State) : Custody := custodyOf s.store s.cfg.protection s.stage

@[simp] theorem custody_fold (s : State) : custodyOf s.store s.cfg.protection s.stage = custody s := rfl

@[simp] theorem custody_mk
    (pending now draws pins strapPins stage listenEnd cfg closures children group release timed windows motion
    fobRun key search op counts trap pass tx port nextStatus channels ctx lines mgmt faults store) :
    custody
      ⟨pending, now, draws, pins, strapPins, stage, listenEnd, cfg, closures, children, group, release, timed,
       windows, motion, fobRun, key, search, op, counts, trap, pass, tx, port, nextStatus, channels, ctx, lines,
       mgmt, faults, store⟩ =
      custodyOf store cfg.protection stage := rfl

/-- Of the stages LOAD alone is told apart. -/
theorem custodyOf_stage {a b : Stage} (ha : a ≠ .load) (hb : b ≠ .load) (store : Store) (p : Protection) :
    custodyOf store p a = custodyOf store p b := by simp [custodyOf, ha, hb]

@[simp] theorem foldl_custody {α : Type} {f : State → α → State}
    (h : ∀ s a, custody (f s a) = custody s) (l : List α) (s : State) :
    custody (l.foldl f s) = custody s := by
  induction l generalizing s with
  | nil => rfl
  | cons a l ih => rw [List.foldl_cons, ih, h]

@[simp] theorem reach_custody (deadline : Nat) (s : State) : custody (reach deadline s) = custody s := rfl

@[simp] theorem setMask_custody (m : Option Word) (s : State) : custody (setMask m s) = custody s := rfl

@[simp] theorem setCursor_custody (c : Cursor) (s : State) : custody (setCursor c s) = custody s := rfl

@[simp] theorem setChannel_custody (c : Closure) (ch : Channel) (s : State) :
    custody (setChannel c ch s) = custody s := by simp [setChannel]

@[simp] theorem setClosure_custody (c : Closure) (k : ClosureLock) (s : State) :
    custody (setClosure c k s) = custody s := by simp [setClosure]

@[simp] theorem setChild_custody (d : RearDoor) (k : ChildLock) (s : State) :
    custody (setChild d k s) = custody s := by simp [setChild]

@[simp] theorem setWindow_custody (w : WindowId) (x : Window) (s : State) :
    custody (setWindow w x s) = custody s := by simp [setWindow]

@[simp] theorem countFault_custody (cls : FaultClass) (who : Option Closure) (s : State) :
    custody (countFault cls who s) = custody s := by simp [countFault]

@[simp] theorem raiseTxOverflow_custody (s : State) :
    custody (raiseTxOverflow s) = custody s := by
  unfold raiseTxOverflow
  dsimp only
  (repeat' split) <;> simp

@[simp] theorem offer_custody (f : TxFrame) (s : State) :
    custody (offer f s) = custody s := by
  unfold offer
  (repeat' split) <;> simp

@[simp] theorem offerNotice_custody (data : List Byte) (s : State) :
    custody (offerNotice data s) = custody s := by simp [offerNotice]

@[simp] theorem raiseWith_custody (detail : Option PinchDetail) (cls : FaultClass) (who : Option Closure)
    (s : State) :
    custody (raiseWith detail cls who s) = custody s := by
  unfold raiseWith
  dsimp only
  (repeat' split) <;> simp

@[simp] theorem raise_custody (cls : FaultClass) (who : Option Closure) (s : State) :
    custody (raise cls who s) = custody s := by simp [raise]

@[simp] theorem recomputeIdle_custody (s : State) :
    custody (recomputeIdle s) = custody s := by simp [recomputeIdle]

@[simp] theorem activity_custody (s : State) :
    custody (activity s) = custody s := by
  unfold activity
  split <;> simp

@[simp] theorem endRunning_custody (w : WindowId) (outcome : Option MotionOutcome) (s : State) :
    custody (endRunning w outcome s) = custody s := by simp [endRunning]

@[simp] theorem endWaiting_custody (w : WindowId) (outcome : MotionOutcome) (s : State) :
    custody (endWaiting w outcome s) = custody s := by simp [endWaiting]

@[simp] theorem endMotionRecord_custody (w : WindowId) (outcome : MotionOutcome) (s : State) :
    custody (endMotionRecord w outcome s) = custody s := by
  unfold endMotionRecord
  (repeat' split) <;> simp

@[simp] theorem offerPages_custody (s : State) :
    custody (offerPages s) = custody s := by simp [offerPages]

@[simp] theorem offerPagesNow_custody (s : State) :
    custody (offerPagesNow s) = custody s := by
  unfold offerPagesNow
  split <;> simp

@[simp] theorem sentLock_custody (c : Closure) (s : State) :
    custody (sentLock c s) = custody s := by simp [sentLock]

@[simp] theorem sentChild_custody (c : Closure) (s : State) :
    custody (sentChild c s) = custody s := by
  unfold sentChild
  split <;> simp

@[simp] theorem sentRelease_custody (carried : Bool) (s : State) :
    custody (sentRelease carried s) = custody s := by simp [sentRelease]

@[simp] theorem sentPayload_custody (c : Closure) (s : State) :
    custody (sentPayload c s) = custody s := by simp [sentPayload]

@[simp] theorem sentMotor_custody (c : Closure) (motor : MotorCommand) (s : State) :
    custody (sentMotor c motor s) = custody s := by
  unfold sentMotor
  split <;> simp

@[simp] theorem noteSent_custody (c : Closure) (d : NodeDrive) (s : State) :
    custody (noteSent c d s) = custody s := by
  unfold noteSent
  (repeat' split) <;> simp

@[simp] theorem sendDrive_custody (c : Closure) (s : State) :
    custody (sendDrive c s) = custody s := by simp [sendDrive]

@[simp] theorem setRate_custody (c : Closure) (r : Rate) (s : State) :
    custody (setRate c r s) = custody s := by
  unfold setRate
  dsimp only
  (repeat' split) <;> simp

@[simp] theorem chooseRates_custody (s : State) :
    custody (chooseRates s) = custody s := by simp [chooseRates]

/-- A save that begins while none runs writes the record that was pledged (R204, R208). -/
theorem beginSave_custody {s : State} (idle : s.store.snapshot = none) : custody (beginSave s) = custody s := by
  simp [beginSave, savedTables, custody, custodyOf, pledgeOf, idle]

@[simp] theorem parkSave_custody (s : State) : custody (parkSave s) = custody s := by
  unfold parkSave
  split
  · rfl
  · next idle => exact beginSave_custody (by simpa [saving] using idle)

@[simp] theorem clearReported_custody (s : State) :
    custody (clearReported s) = custody s := by simp [clearReported]

@[simp] theorem startStatus_custody (s : State) :
    custody (startStatus s) = custody s := by simp [startStatus]

@[simp] theorem enterAwake_custody (cause : WakeCause) (s : State) :
    custody (enterAwake cause s) = custody s := by simp [enterAwake]

@[simp] theorem wake_custody (cause : WakeCause) (s : State) :
    custody (wake cause s) = custody s := by
  unfold wake
  split <;> simp

@[simp] theorem enterParked_custody (s : State) :
    custody (enterParked s) = custody s := by simp [enterParked]

@[simp] theorem enterDeep_custody (s : State) :
    custody (enterDeep s) = custody s := by simp [enterDeep]

@[simp] theorem closeHold_custody (before s : State) :
    custody (closeHold before s) = custody s := by
  unfold closeHold
  split <;> simp

@[simp] theorem closeState_custody (s : State) :
    custody (closeState s) = custody s := by
  unfold closeState
  dsimp only
  (repeat' split) <;> simp

@[simp] theorem closePages_custody (before s : State) :
    custody (closePages before s) = custody s := by
  unfold closePages
  split <;> simp

@[simp] theorem finish_custody (before s : State) :
    custody (finish before s) = custody s := by
  unfold finish
  split <;> simp

@[simp] theorem endOperation_custody (op : ActiveOp) (s : State) :
    custody (endOperation op s) = custody s := by simp [endOperation]

@[simp] theorem keepOrEnd_custody (op : ActiveOp) (s : State) :
    custody (keepOrEnd op s) = custody s := by
  unfold keepOrEnd
  split <;> simp

@[simp] theorem stopForEngine_custody (w : WindowId) (s : State) :
    custody (stopForEngine w s) = custody s := by
  unfold stopForEngine
  dsimp only
  (repeat' split) <;> simp

@[simp] theorem abort_custody (cause : AbortCause) (s : State) :
    custody (abort cause s) = custody s := by
  unfold abort
  split <;> simp

@[simp] theorem crashTest_custody (s : State) :
    custody (crashTest s) = custody s := by
  unfold crashTest
  split <;> simp

@[simp] theorem handStatus_custody (w : WindowId) (status : StepStatus) (s : State) :
    custody (handStatus w status s) = custody s := by
  unfold handStatus
  dsimp only
  (repeat' split) <;> simp

@[simp] theorem handOutcome_custody (origin : Option Origin) (w : WindowId) (outcome : MotionOutcome) (s : State) :
    custody (handOutcome origin w outcome s) = custody s := by
  unfold handOutcome
  (repeat' split) <;> simp

@[simp] theorem endMotion_custody (w : WindowId) (outcome : MotionOutcome) (s : State) :
    custody (endMotion w outcome s) = custody s := by
  unfold endMotion
  dsimp only
  (repeat' split) <;> simp

@[simp] theorem refuseWindow_custody (w : WindowId) (origin : Option Origin) (cause : WindowRefusal) (s : State) :
    custody (refuseWindow w origin cause s) = custody s := by
  unfold refuseWindow
  split <;> simp

@[simp] theorem completeAtOnce_custody (r : WindowRequest) (s : State) :
    custody (completeAtOnce r s) = custody s := by simp [completeAtOnce]

@[simp] theorem placeRequest_custody (r : WindowRequest) (dir : Direction) (s : State) :
    custody (placeRequest r dir s) = custody s := by
  unfold placeRequest
  dsimp only
  (repeat' split) <;> simp

@[simp] theorem acceptRequest_custody (r : WindowRequest) (s : State) :
    custody (acceptRequest r s) = custody s := by
  unfold acceptRequest
  dsimp only
  (repeat' split) <;> simp

@[simp] theorem checkRequest_custody (r : WindowRequest) (s : State) :
    custody (checkRequest r s) = custody s := by
  unfold checkRequest
  dsimp only
  (repeat' split) <;> simp

@[simp] theorem requestMotion_custody (r : WindowRequest) (s : State) :
    custody (requestMotion r s) = custody s := by
  unfold requestMotion
  split <;> simp

@[simp] theorem stopWindow_custody (w : WindowId) (s : State) :
    custody (stopWindow w s) = custody s := by
  unfold stopWindow
  dsimp only
  (repeat' split) <;> simp

@[simp] theorem clearNormalized_custody (w : WindowId) (s : State) :
    custody (clearNormalized w s) = custody s := by
  unfold clearNormalized
  split <;> simp

@[simp] theorem endIfReached_custody (w : WindowId) (s : State) :
    custody (endIfReached w s) = custody s := by
  unfold endIfReached
  dsimp only
  (repeat' split) <;> simp

@[simp] theorem followLimit_custody (before : State) (w : WindowId) (s : State) :
    custody (followLimit before w s) = custody s := by
  unfold followLimit
  split <;> simp

@[simp] theorem followInhibit_custody (before : State) (w : WindowId) (s : State) :
    custody (followInhibit before w s) = custody s := by
  unfold followInhibit
  dsimp only
  (repeat' split) <;> simp

@[simp] theorem followSettings_custody (before s : State) :
    custody (followSettings before s) = custody s := by simp [followSettings]

@[simp] theorem press_custody (w : WindowId) (origin : Origin) (level : Switch) (s : State) :
    custody (press w origin level s) = custody s := by
  unfold press
  dsimp only
  (repeat' split) <;> simp

@[simp] theorem releaseSwitch_custody (w : WindowId) (origin : Origin) (s : State) :
    custody (releaseSwitch w origin s) = custody s := by
  unfold releaseSwitch
  split <;> simp

@[simp] theorem makeAuto_custody (w : WindowId) (origin : Origin) (dir : Direction) (s : State) :
    custody (makeAuto w origin dir s) = custody s := by
  unfold makeAuto
  dsimp only
  (repeat' split) <;> simp

@[simp] theorem pressUnder_custody (w : WindowId) (origin : Origin) (level other : Switch) (s : State) :
    custody (pressUnder w origin level other s) = custody s := by
  unfold pressUnder
  (repeat' split) <;> simp

@[simp] theorem interpretEdge_custody (w : WindowId) (origin : Origin) (old new other : Switch) (s : State) :
    custody (interpretEdge w origin old new other s) = custody s := by
  unfold interpretEdge
  (repeat' split) <;> simp

@[simp] theorem switchEdge_custody (w : WindowId) (origin : Origin) (old new other : Switch) (s : State) :
    custody (switchEdge w origin old new other s) = custody s := by
  unfold switchEdge
  dsimp only
  (repeat' split) <;> simp

@[simp] theorem clearSuppressed_custody (w : WindowId) (level : Switch) (s : State) :
    custody (clearSuppressed w level s) = custody s := by
  unfold clearSuppressed
  split <;> simp

@[simp] theorem endHonouring_custody (s : State) :
    custody (endHonouring s) = custody s := by
  unfold endHonouring
  exact foldl_custody (fun _ _ => by dsimp only; split <;> simp) _ _

@[simp] theorem dropRetained_custody (s : State) :
    custody (dropRetained s) = custody s := by
  unfold dropRetained
  dsimp only
  (repeat' split) <;> simp

@[simp] theorem grant_custody (w : WindowId) (s : State) :
    custody (grant w s) = custody s := by
  unfold grant
  dsimp only
  (repeat' split) <;> simp

@[simp] theorem runTimeOut_custody (w : WindowId) (s : State) :
    custody (runTimeOut w s) = custody s := by simp [runTimeOut]

@[simp] theorem normalize_custody (w : WindowId) (s : State) :
    custody (normalize w s) = custody s := by simp [normalize]

@[simp] theorem crashStop_custody (s : State) :
    custody (crashStop s) = custody s := by
  unfold crashStop
  exact foldl_custody (fun _ _ => by dsimp only; split <;> simp) _ _

@[simp] theorem windowLost_custody (w : WindowId) (s : State) :
    custody (windowLost w s) = custody s := by simp [windowLost]

@[simp] theorem windowRecovered_custody (w : WindowId) (s : State) :
    custody (windowRecovered w s) = custody s := by simp [windowRecovered]

@[simp] theorem windowForcedOff_custody (w : WindowId) (s : State) :
    custody (windowForcedOff w s) = custody s := by simp [windowForcedOff]

@[simp] theorem windowOvertemp_custody (w : WindowId) (flag : Bool) (s : State) :
    custody (windowOvertemp w flag s) = custody s := by
  unfold windowOvertemp
  split <;> simp

@[simp] theorem markIssued_custody (w : WindowId) (s : State) :
    custody (markIssued w s) = custody s := by
  unfold markIssued
  split <;> simp

@[simp] theorem issueStep_custody (source : OpSource) (step : StepSpec) (s : State) :
    custody (issueStep source step s) = custody s := by
  unfold issueStep
  dsimp only
  (repeat' split) <;> simp

@[simp] theorem takeStart_custody (i : Nat) (d : Descriptor) (source : OpSource) (s : State) :
    custody (takeStart i d source s) = custody s := by simp [takeStart]

@[simp] theorem startOperation_custody (i : Nat) (source : OpSource) (s : State) :
    custody (startOperation i source s) = custody s := by
  unfold startOperation
  dsimp only
  (repeat' split) <;> simp

@[simp] theorem renewLease_custody (fob i : Nat) (s : State) :
    custody (renewLease fob i s) = custody s := by
  unfold renewLease
  dsimp only
  (repeat' split) <;> simp

@[simp] theorem cancelOperation_custody (s : State) :
    custody (cancelOperation s) = custody s := by
  unfold cancelOperation
  split <;> simp

@[simp] theorem actuateClosure_custody (kind : LockKind) (source : LockSource) (c : Closure) (s : State) :
    custody (actuateClosure kind source c s) = custody s := by simp [actuateClosure]

@[simp] theorem crashClosure_custody (c : Closure) (s : State) :
    custody (crashClosure c s) = custody s := by simp [crashClosure]

@[simp] theorem setTimed_custody (pattern : Pattern) (time : Nat) (s : State) :
    custody (setTimed pattern time s) = custody s := by simp [setTimed]

@[simp] theorem dropSteady_custody (s : State) :
    custody (dropSteady s) = custody s := by
  unfold dropSteady
  (repeat' split) <;> simp

@[simp] theorem refuseLock_custody (cause : LockRefusal) (s : State) :
    custody (refuseLock cause s) = custody s := by
  unfold refuseLock
  split <;> simp

@[simp] theorem actuate_custody (r : LockRequest) (s : State) :
    custody (actuate r s) = custody s := by
  unfold actuate
  (repeat' split) <;> simp

@[simp] theorem takeRequest_custody (r : LockRequest) (s : State) :
    custody (takeRequest r s) = custody s := by
  unfold takeRequest
  split <;> simp

@[simp] theorem checkRelease_custody (s : State) :
    custody (checkRelease s) = custody s := by
  unfold checkRelease
  dsimp only
  (repeat' split) <;> simp

@[simp] theorem releaseTailgate_custody (s : State) :
    custody (releaseTailgate s) = custody s := by
  unfold releaseTailgate
  split <;> simp

@[simp] theorem startRelock_custody (f : InFlight) (s : State) :
    custody (startRelock f s) = custody s := by
  unfold startRelock
  dsimp only
  (repeat' split) <;> simp

@[simp] theorem completeItems_custody (f : InFlight) (s : State) :
    custody (completeItems f s) = custody s := by
  unfold completeItems
  dsimp only
  (repeat' split) <;> simp

@[simp] theorem takePending_custody (s : State) :
    custody (takePending s) = custody s := by
  unfold takePending
  (repeat' split) <;> simp

@[simp] theorem completeOne_custody (s : State) : custody (completeOne s).1 = custody s := by
  unfold completeOne
  (repeat' split) <;> simp

@[simp] theorem followGroup_custody (s : State) :
    custody (followGroup s) = custody s := by
  unfold followGroup
  dsimp only
  (repeat' split) <;> simp

@[simp] theorem takeCrash_custody (s : State) :
    custody (takeCrash s) = custody s := by simp [takeCrash]

@[simp] theorem mergeOrWait_custody (r : LockRequest) (s : State) :
    custody (mergeOrWait r s) = custody s := by
  unfold mergeOrWait
  (repeat' split) <;> simp

@[simp] theorem placeLock_custody (r : LockRequest) (s : State) :
    custody (placeLock r s) = custody s := by
  unfold placeLock
  (repeat' split) <;> simp

@[simp] theorem arriveLock_custody (r : LockRequest) (s : State) :
    custody (arriveLock r s) = custody s := by
  unfold arriveLock
  (repeat' split) <;> simp

@[simp] theorem latchChanged_custody (c : Closure) (old new : Latch) (s : State) :
    custody (latchChanged c old new s) = custody s := by
  unfold latchChanged
  (repeat' split) <;> simp

@[simp] theorem lockReport_custody (c : Closure) (rep : Report) (recovery : Bool) (s : State) :
    custody (lockReport c rep recovery s) = custody s := by simp [lockReport]

@[simp] theorem lockLost_custody (c : Closure) (s : State) :
    custody (lockLost c s) = custody s := by simp [lockLost]

@[simp] theorem driveExpired_custody (c : Closure) (s : State) :
    custody (driveExpired c s) = custody s := by simp [driveExpired]

@[simp] theorem settleExpired_custody (c : Closure) (s : State) :
    custody (settleExpired c s) = custody s := by
  unfold settleExpired
  dsimp only
  (repeat' split) <;> simp

@[simp] theorem relockExpired_custody (restore : LockTarget) (s : State) :
    custody (relockExpired restore s) = custody s := by simp [relockExpired]

@[simp] theorem speedUpdate_custody (old : Nat) (oldFresh : Bool) (s : State) :
    custody (speedUpdate old oldFresh s) = custody s := by
  unfold speedUpdate
  dsimp only
  (repeat' split) <;> simp

@[simp] theorem lockIgnitionOn_custody (s : State) :
    custody (lockIgnitionOn s) = custody s := by simp [lockIgnitionOn]

@[simp] theorem refuseKeyInside_custody (s : State) :
    custody (refuseKeyInside s) = custody s := by simp [refuseKeyInside]

@[simp] theorem actuateChild_custody (d : RearDoor) (s : State) :
    custody (actuateChild d s) = custody s := by simp [actuateChild]

@[simp] theorem aimChild_custody (target : ChildTarget) (d : RearDoor) (s : State) :
    custody (aimChild target d s) = custody s := by
  unfold aimChild
  dsimp only
  (repeat' split) <;> simp

@[simp] theorem setChildTargets_custody (target : ChildTarget) (doors : List RearDoor) (s : State) :
    custody (setChildTargets target doors s) = custody s := by simp [setChildTargets]

@[simp] theorem childSetTarget_custody (d : RearDoor) (target : ChildTarget) (s : State) :
    custody (childSetTarget d target s) = custody s := by
  unfold childSetTarget
  split <;> simp

@[simp] theorem childToggle_custody (s : State) :
    custody (childToggle s) = custody s := by
  unfold childToggle
  split <;> simp

@[simp] theorem childReport_custody (d : RearDoor) (sensed : ChildSensed) (s : State) :
    custody (childReport d sensed s) = custody s := by simp [childReport]

@[simp] theorem childLost_custody (d : RearDoor) (s : State) :
    custody (childLost d s) = custody s := by simp [childLost]

@[simp] theorem childSettleExpired_custody (d : RearDoor) (s : State) :
    custody (childSettleExpired d s) = custody s := by
  unfold childSettleExpired
  dsimp only
  (repeat' split) <;> simp

@[simp] theorem setLockout_custody (flag : Bool) (s : State) :
    custody (setLockout flag s) = custody s := by simp [setLockout]

@[simp] theorem setFob_custody (i : Nat) (f : Fob) (s : State) :
    custody (setFob i f s) = custody s := by simp [setFob]

@[simp] theorem setFobRun_custody (i : Nat) (r : FobRun) (s : State) :
    custody (setFobRun i r s) = custody s := by simp [setFobRun]

@[simp] theorem setHold_custody (h : Option Hold) (s : State) :
    custody (setHold h s) = custody s := by simp [setHold]

@[simp] theorem noteTelegram_custody (t : Telegram) (i : Option Nat) (result : TelegramResult) (s : State) :
    custody (noteTelegram t i result s) = custody s := by simp [noteTelegram]

@[simp] theorem fobLock_custody (kind : LockKind) (releaseAfter : Bool) (s : State) :
    custody (fobLock kind releaseAfter s) = custody s := by
  simp [fobLock]

@[simp] theorem lockPress_custody (i : Nat) (s : State) :
    custody (lockPress i s) = custody s := by simp [lockPress]

@[simp] theorem unlockPress_custody (i : Nat) (s : State) :
    custody (unlockPress i s) = custody s := by
  unfold unlockPress
  split <;> simp

@[simp] theorem pressButton_custody (i : Nat) (button : Button) (s : State) :
    custody (pressButton i button s) = custody s := by
  unfold pressButton
  split <;> simp

@[simp] theorem acceptPress_custody (i : Nat) (t : Telegram) (s : State) :
    custody (acceptPress i t s) = custody s := by simp [acceptPress]

@[simp] theorem firstPress_custody (i : Nat) (t : Telegram) (s : State) :
    custody (firstPress i t s) = custody s := by
  unfold firstPress
  dsimp only
  (repeat' split) <;> simp

@[simp] theorem countRepeat_custody (i : Nat) (t : Telegram) (h : Hold) (s : State) :
    custody (countRepeat i t h s) = custody s := by
  unfold countRepeat
  dsimp only
  (repeat' split) <;> simp

@[simp] theorem repeatTelegram_custody (i : Nat) (t : Telegram) (s : State) :
    custody (repeatTelegram i t s) = custody s := by
  unfold repeatTelegram
  (repeat' split) <;> simp

@[simp] theorem takeTelegram_custody (t : Telegram) (s : State) :
    custody (takeTelegram t s) = custody s := by
  unfold takeTelegram
  (repeat' split) <;> simp

@[simp] theorem setSlot_custody (n : Nat) (x : Option SearchSlot) (s : State) :
    custody (setSlot n x s) = custody s := by simp [setSlot]

@[simp] theorem closeSlot_custody (n : Nat) (x : SearchSlot) (outcome : SearchOutcome) (who : Option Nat)
    (s : State) :
    custody (closeSlot n x outcome who s) = custody s := by
  unfold closeSlot
  split <;> simp

@[simp] theorem openSlot_custody (n : Nat) (c : Closure) (p : Purpose) (trigger : Trigger) (s : State) :
    custody (openSlot n c p trigger s) = custody s := by simp [openSlot]

@[simp] theorem touch_custody (c : Closure) (p : Purpose) (trigger : Trigger) (s : State) :
    custody (touch c p trigger s) = custody s := by
  unfold touch
  (repeat' split) <;> simp

@[simp] theorem releaseButton_custody (trigger : Trigger) (s : State) :
    custody (releaseButton trigger s) = custody s := by
  unfold releaseButton
  split <;> simp

@[simp] theorem handleEvents_custody (c : Closure) (rep : Report) (s : State) :
    custody (handleEvents c rep s) = custody s := by
  unfold handleEvents
  (repeat' split) <;> simp

@[simp] theorem searchOutcome_custody (n : Nat) (x : SearchSlot) (outside inside : Nat) (s : State) :
    custody (searchOutcome n x outside inside s) = custody s := by
  unfold searchOutcome
  split <;> simp

@[simp] theorem takeResponse_custody (r : SearchResponse) (s : State) :
    custody (takeResponse r s) = custody s := by
  unfold takeResponse
  (repeat' split) <;> simp

@[simp] theorem closeAllSlots_custody (s : State) :
    custody (closeAllSlots s) = custody s := by
  unfold closeAllSlots
  exact foldl_custody (fun _ _ => by split <;> simp) _ _

@[simp] theorem lineTouch_custody (c : Closure) (before : OpState) (s : State) :
    custody (lineTouch c before s) = custody s := by
  unfold lineTouch
  (repeat' split) <;> simp

@[simp] theorem detect_custody (line : WakeLine) (s : State) :
    custody (detect line s) = custody s := by
  unfold detect
  dsimp only
  (repeat' split) <;> simp

@[simp] theorem judgeLevel_custody (line : WakeLine) (s : State) :
    custody (judgeLevel line s) = custody s := by
  unfold judgeLevel
  split <;> simp

@[simp] theorem lineLevel_custody (line : WakeLine) (level : Level) (s : State) :
    custody (lineLevel line level s) = custody s := by
  unfold lineLevel
  dsimp only
  (repeat' split) <;> simp

@[simp] theorem clearWakeLine_custody (line : WakeLine) (s : State) :
    custody (clearWakeLine line s) = custody s := by
  unfold clearWakeLine
  dsimp only
  (repeat' split) <;> simp

@[simp] theorem countHit_custody (i : Nat) (s : State) :
    custody (countHit i s) = custody s := by simp [countHit]

@[simp] theorem writeSpeed_custody (value : Nat) (s : State) :
    custody (writeSpeed value s) = custody s := by
  unfold writeSpeed
  dsimp only
  (repeat' split) <;> simp

@[simp] theorem writeVoltage_custody (value : Nat) (s : State) :
    custody (writeVoltage value s) = custody s := by simp [writeVoltage]

@[simp] theorem passTo_custody (f : PassFrame) (c : Closure) (s : State) :
    custody (passTo f c s) = custody s := by
  unfold passTo
  (repeat' split) <;> simp

@[simp] theorem passFrame_custody (mask : Nat) (f : PassFrame) (s : State) :
    custody (passFrame mask f s) = custody s := by
  unfold passFrame
  split <;> simp

@[simp] theorem trapFrame_custody (i : Nat) (id : CanId) (data : List Byte) (s : State) :
    custody (trapFrame i id data s) = custody s := by
  unfold trapFrame
  (repeat' split) <;> simp

@[simp] theorem ruleRequest_custody (r : Rule) (data : List Byte) (s : State) :
    custody (ruleRequest r data s) = custody s := by
  unfold ruleRequest
  dsimp only
  (repeat' split) <;> simp

@[simp] theorem handFlags_custody (r : Rule) (s : State) :
    custody (handFlags r s) = custody s := by
  unfold handFlags
  (repeat' split) <;> simp

@[simp] theorem performAction_custody (i : Nat) (r : Rule) (id : CanId) (data : List Byte) (s : State) :
    custody (performAction i r id data s) = custody s := by
  unfold performAction
  (repeat' split) <;> simp

@[simp] theorem defaultDisposition_custody (id : CanId) (data : List Byte) (s : State) :
    custody (defaultDisposition id data s) = custody s := by
  unfold defaultDisposition
  dsimp only
  (repeat' split) <;> simp

@[simp] theorem matchFrame_custody (start : Nat) (id : CanId) (data : List Byte) (s : State) :
    custody (matchFrame start id data s) = custody s := by
  unfold matchFrame
  split <;> simp

@[simp] theorem freeTrap_custody (ticket : Nat) (s : State) :
    custody (freeTrap ticket s) = custody s := by simp [freeTrap]

@[simp] theorem releaseFrame_custody (f : HeldFrame) (s : State) :
    custody (releaseFrame f s) = custody s := by simp [releaseFrame]

@[simp] theorem expireFrame_custody (f : HeldFrame) (s : State) :
    custody (expireFrame f s) = custody s := by simp [expireFrame]

@[simp] theorem beginTransmission_custody (s : State) :
    custody (beginTransmission s) = custody s := by
  unfold beginTransmission
  (repeat' split) <;> simp

@[simp] theorem acknowledge_custody (s : State) :
    custody (acknowledge s) = custody s := by simp [acknowledge]

@[simp] theorem abandonAttempt_custody (s : State) :
    custody (abandonAttempt s) = custody s := by simp [abandonAttempt]

@[simp] theorem enterSilent_custody (s : State) : custody (enterSilent s) = custody s := by simp [enterSilent]

@[simp] theorem takePinch_custody (w : WindowId) (cause : PinchCause) (zone current : Nat) (s : State) :
    custody (takePinch w cause zone current s) = custody s := by simp [takePinch]

@[simp] theorem setProfile_custody (w : WindowId) (profile : List Nat) (s : State) :
    custody (setProfile w profile s) = custody s := by simp [setProfile]

@[simp] theorem endStop_custody (w : WindowId) (s : State) :
    custody (endStop w s) = custody s := by
  unfold endStop
  dsimp only
  (repeat' split) <;> simp

@[simp] theorem carryOut_custody (w : WindowId) (zone current : Nat) (decision : Decision) (s : State) :
    custody (carryOut w zone current decision s) = custody s := by
  unfold carryOut
  split <;> simp

@[simp] theorem closingReport_custody (w : WindowId) (d i : Nat) (s : State) :
    custody (closingReport w d i s) = custody s := by
  unfold closingReport
  dsimp only
  (repeat' split) <;> simp

@[simp] theorem openingReport_custody (w : WindowId) (d : Nat) (s : State) :
    custody (openingReport w d s) = custody s := by
  unfold openingReport
  dsimp only
  (repeat' split) <;> simp

@[simp] theorem reversalReport_custody (w : WindowId) (d : Nat) (s : State) :
    custody (reversalReport w d s) = custody s := by
  unfold reversalReport
  dsimp only
  (repeat' split) <;> simp

@[simp] theorem coastReport_custody (w : WindowId) (dir : Direction) (d : Nat) (s : State) :
    custody (coastReport w dir d s) = custody s := by simp [coastReport]

@[simp] theorem motorData_custody (w : WindowId) (d i : Nat) (s : State) :
    custody (motorData w d i s) = custody s := by
  unfold motorData
  dsimp only
  (repeat' split) <;> simp

@[simp] theorem windowReport_custody (w : WindowId) (rep : Report) (s : State) :
    custody (windowReport w rep s) = custody s := by simp [windowReport]

theorem sense_custody {s : State} (h : s.stage ≠ .load) : custody (sense s) = custody s := by
  simpa [sense] using custodyOf_stage (by decide) h s.store s.cfg.protection

@[simp] theorem idleForcedOff_custody (s : State) :
    custody (idleForcedOff s) = custody s := by simp [idleForcedOff]

theorem enterRun_custody {s : State} (h : s.stage ≠ .load) : custody (enterRun s) = custody s := by
  have stage := custodyOf_stage (a := .run) (by decide) h s.store s.cfg.protection
  rw [custody_fold] at stage
  unfold enterRun
  dsimp only
  split <;> simp [stage]

@[simp] theorem pollCheck_custody (s : State) : custody (pollCheck s) = custody s := by
  unfold pollCheck
  split
  · next due =>
    obtain ⟨poll, _⟩ : s.stage = .poll ∧ _ := by simpa using due
    rw [enterRun_custody (by simp [sense]), sense_custody (by simp [poll])]
  · rfl

@[simp] theorem lockSwitchEdge_custody (source : LockSource) (old new : LockSwitch) (s : State) :
    custody (lockSwitchEdge source old new s) = custody s := by
  unfold lockSwitchEdge
  split <;> simp

@[simp] theorem childButtonEdge_custody (old new : Bool) (s : State) :
    custody (childButtonEdge old new s) = custody s := by
  unfold childButtonEdge
  split <;> simp

@[simp] theorem lockoutButtonEdge_custody (old new : Bool) (s : State) :
    custody (lockoutButtonEdge old new s) = custody s := by
  unfold lockoutButtonEdge
  (repeat' split) <;> simp

@[simp] theorem packEdges_custody (c : Closure) (old rep : Report) (s : State) :
    custody (packEdges c old rep s) = custody s := by simp [packEdges]

@[simp] theorem ownEdge_custody (c : Closure) (old rep : Report) (s : State) :
    custody (ownEdge c old rep s) = custody s := by
  unfold ownEdge
  split <;> simp

@[simp] theorem takeEdges_custody (c : Closure) (old : Option Report) (rep : Report) (s : State) :
    custody (takeEdges c old rep s) = custody s := by
  unfold takeEdges
  (repeat' split) <;> simp

@[simp] theorem takeFaults_custody (c : Closure) (old : Option Report) (rep : Report) (s : State) :
    custody (takeFaults c old rep s) = custody s := by
  unfold takeFaults
  (repeat' split) <;> simp

@[simp] theorem takeUplink_custody (c : Closure) (rep : Report) (s : State) :
    custody (takeUplink c rep s) = custody s := by
  unfold takeUplink
  (repeat' split) <;> simp

@[simp] theorem takeLocks_custody (c : Closure) (rep : Report) (recovery : Bool) (s : State) :
    custody (takeLocks c rep recovery s) = custody s := by
  unfold takeLocks
  split <;> simp

@[simp] theorem takeMotor_custody (c : Closure) (rep : Report) (s : State) :
    custody (takeMotor c rep s) = custody s := by
  unfold takeMotor
  split <;> simp

@[simp] theorem recoverNode_custody (c : Closure) (s : State) :
    custody (recoverNode c s) = custody s := by
  unfold recoverNode
  (repeat' split) <;> simp

@[simp] theorem goodReport_custody (c : Closure) (rep : Report) (s : State) :
    custody (goodReport c rep s) = custody s := by simp [goodReport]

@[simp] theorem dropRelease_custody (c : Closure) (s : State) :
    custody (dropRelease c s) = custody s := by
  unfold dropRelease
  split <;> simp

@[simp] theorem declareLost_custody (c : Closure) (s : State) :
    custody (declareLost c s) = custody s := by
  unfold declareLost
  (repeat' split) <;> simp

@[simp] theorem missedReport_custody (c : Closure) (s : State) :
    custody (missedReport c s) = custody s := by
  unfold missedReport
  dsimp only
  (repeat' split) <;> simp

@[simp] theorem cycleEnds_custody (c : Closure) (s : State) :
    custody (cycleEnds c s) = custody s := by
  unfold cycleEnds
  dsimp only
  (repeat' split) <;> simp

@[simp] theorem handForcedOff_custody (c : Closure) (s : State) :
    custody (handForcedOff c s) = custody s := by
  unfold handForcedOff
  (repeat' split) <;> simp

@[simp] theorem setMode_custody (c : Closure) (mode : PowerMode) (s : State) :
    custody (setMode c mode s) = custody s := by
  unfold setMode
  dsimp only
  (repeat' split) <;> simp

@[simp] theorem setCar_custody (c : CarSettings) (s : State) :
    custody (setCar c s) = custody s := by simp [setCar]

@[simp] theorem moveDeep_custody (s : State) :
    custody (moveDeep s) = custody s := by
  unfold moveDeep
  (repeat' split) <;> simp

@[simp] theorem setWindowCfg_custody (w : WindowId) (x : WindowSettings) (s : State) :
    custody (setWindowCfg w x s) = custody s := by simp [setWindowCfg]

@[simp] theorem endHoldOf_custody (i : Nat) (s : State) :
    custody (endHoldOf i s) = custody s := by
  unfold endHoldOf
  (repeat' split) <;> simp

@[simp] theorem barHoldOf_custody (i : Nat) (s : State) :
    custody (barHoldOf i s) = custody s := by
  unfold barHoldOf
  (repeat' split) <;> simp

@[simp] theorem fobChanged_custody (i : Nat) (old new : Fob) (s : State) :
    custody (fobChanged i old new s) = custody s := by
  unfold fobChanged
  (repeat' split) <;> simp

@[simp] theorem setRule_custody (i : Nat) (new : Rule) (s : State) :
    custody (setRule i new s) = custody s := by simp [setRule]

@[simp] theorem setFrame_custody (f : FrameSettings) (s : State) :
    custody (setFrame f s) = custody s := by simp [setFrame]

@[simp] theorem clearFaults_custody (s : State) :
    custody (clearFaults s) = custody s := by simp [clearFaults]

@[simp] theorem ignitionChanged_custody (level : Ignition) (s : State) :
    custody (ignitionChanged level s) = custody s := by
  unfold ignitionChanged setRetained
  dsimp only
  (repeat' split) <;> simp

@[simp] theorem lineDetection_custody (line : WakeLine) (s : State) :
    custody (lineDetection line s) = custody s := by
  unfold lineDetection
  dsimp only
  (repeat' split) <;> simp

end Sys2Proof.Machine
end

section
/-!
PROOFS. The custody of the protection record under the management requests: no WRITE reaches it, a SAVE begins with the
pledged record, and PROTECT alone changes it.
-/

namespace Sys2Proof.Machine

/-! ## Writes (R199): no table of a WRITE holds the protection record -/

/-- An answer of an owner that leaves the custody alone. -/
def WriteKeeps (s : State) (a : WriteAnswer) : Prop := ∀ t, a = .ok t → custody t = custody s

@[simp] theorem writeKeeps_ok {s t : State} : WriteKeeps s (.ok t) ↔ custody t = custody s := by
  simp [WriteKeeps]

@[simp] theorem writeKeeps_error (s : State) (r : Result) : WriteKeeps s (.error r) := by simp [WriteKeeps]

theorem writeKeeps_inRange {s t : State} (h : custody t = custody s) (ok : Bool) : WriteKeeps s (inRange ok t) := by
  unfold inRange
  split <;> simp [h]

theorem writeCar0_keeps (v : Nat) (s : State) : WriteKeeps s (writeCar0 v s) := writeKeeps_inRange (by simp) _

theorem writeCar1_keeps (v : Nat) (s : State) : WriteKeeps s (writeCar1 v s) := writeKeeps_inRange (by simp) _

theorem writeWindow0_keeps (w : WindowId) (v : Nat) (s : State) : WriteKeeps s (writeWindow0 w v s) := by
  unfold writeWindow0
  dsimp only
  split
  · simp
  · refine writeKeeps_inRange ?_ _
    split <;> simp

theorem writeWindow1_keeps (w : WindowId) (v : Nat) (s : State) : WriteKeeps s (writeWindow1 w v s) :=
  writeKeeps_inRange (by simp) _

theorem writeWindow2_keeps (w : WindowId) (v : Nat) (s : State) : WriteKeeps s (writeWindow2 w v s) :=
  writeKeeps_inRange (by simp) _

theorem writeWindow3_keeps (w : WindowId) (v : Nat) (s : State) : WriteKeeps s (writeWindow3 w v s) := by
  unfold writeWindow3
  split
  · simp
  · exact writeKeeps_inRange (by simp) _

theorem writeMode_keeps (c : Closure) (v : Nat) (s : State) : WriteKeeps s (writeMode c v s) := by
  unfold writeMode
  split <;> simp

theorem writeClosureSettings_keeps (index word v : Nat) (s : State) :
    WriteKeeps s (writeClosureSettings index word v s) := by
  unfold writeClosureSettings
  dsimp only
  (repeat' split) <;>
    simp [writeCar0_keeps, writeCar1_keeps, writeWindow0_keeps, writeWindow1_keeps, writeWindow2_keeps,
      writeWindow3_keeps, writeMode_keeps]

theorem writeProfiles_keeps (index word v : Nat) (s : State) : WriteKeeps s (writeProfiles index word v s) :=
  writeKeeps_inRange (by simp) _

theorem writeFob_keeps (i : Nat) (new : Fob) (s : State) : WriteKeeps s (writeFob i new s) := by
  unfold writeFob
  split <;> simp

theorem writeKeySettings_keeps (v : Nat) (s : State) : WriteKeeps s (writeKeySettings v s) := by
  unfold writeKeySettings
  refine writeKeeps_inRange ?_ _
  split <;> simp

theorem writeFobs_keeps (index word v : Nat) (s : State) : WriteKeeps s (writeFobs index word v s) := by
  unfold writeFobs
  dsimp only
  (repeat' split) <;> simp [writeFob_keeps, writeKeySettings_keeps]

theorem writeOperations_keeps (index word v : Nat) (s : State) : WriteKeeps s (writeOperations index word v s) := by
  unfold writeOperations
  dsimp only
  (repeat' split) <;> simp

theorem writeFrameSettings_keeps (word v : Nat) (s : State) : WriteKeeps s (writeFrameSettings word v s) := by
  unfold writeFrameSettings
  dsimp only
  split <;> simp [writeKeeps_inRange]

theorem writeRules_keeps (index word v : Nat) (s : State) : WriteKeeps s (writeRules index word v s) := by
  unfold writeRules
  split
  · split
    · unfold writeRule0
      split <;> simp [writeKeeps_inRange]
    · exact writeKeeps_inRange (by simp) _
    · exact writeKeeps_inRange (by simp) _
    · simp
  · exact writeFrameSettings_keeps word v s

theorem writeLine_keeps (index v : Nat) (s : State) : WriteKeeps s (writeLine index v s) := by simp [writeLine]

theorem writeManagement_keeps (index v : Nat) (s : State) : WriteKeeps s (writeManagement index v s) := by
  unfold writeManagement
  split
  · exact writeKeeps_inRange (by simp) _
  · simp [writeReport]

theorem ownerWrite_keeps (c : Cursor) (v : Nat) (s : State) : WriteKeeps s (ownerWrite c v s) := by
  unfold ownerWrite
  split
  · exact writeClosureSettings_keeps c.index c.word v s
  · exact writeProfiles_keeps c.index c.word v s
  · exact writeFobs_keeps c.index c.word v s
  · exact writeOperations_keeps c.index c.word v s
  · exact writeRules_keeps c.index c.word v s
  · exact writeLine_keeps c.index v s
  · exact writeManagement_keeps c.index v s
  · simp

theorem writeAt_keeps (c : Cursor) (v : Word) (s : State) : WriteKeeps s (writeAt c v s) := by
  unfold writeAt
  split
  · simp
  · split
    · simp
    · exact ownerWrite_keeps c v.toNat s

/-! ## Requests (R198 to R208) -/

@[simp] theorem serveSelect_custody (c : Cursor) (s : State) : custody (serveSelect c s).state = custody s := by
  unfold serveSelect
  split <;> simp [reply]

@[simp] theorem serveRead_custody (s : State) : custody (serveRead s).state = custody s := by
  unfold serveRead
  dsimp only
  split <;> simp [reply]

@[simp] theorem serveWrite_custody (value : Word) (s : State) : custody (serveWrite value s).state = custody s := by
  unfold serveWrite
  dsimp only
  split
  · simp [reply]
  · next t accepted => simpa using writeAt_keeps _ _ _ t accepted

@[simp] theorem serveRelease_custody (ticket : Nat) (s : State) :
    custody (serveRelease ticket s).state = custody s := by
  unfold serveRelease
  split <;> simp [reply]

@[simp] theorem serveDiscard_custody (ticket : Nat) (s : State) :
    custody (serveDiscard ticket s).state = custody s := by
  unfold serveDiscard
  split <;> simp [reply]

@[simp] theorem serveClearNormalized_custody (code : Nat) (s : State) :
    custody (serveClearNormalized code s).state = custody s := by
  unfold serveClearNormalized
  (repeat' split) <;> simp [reply]

@[simp] theorem serveRequest_custody (kind : RequestKind) (s : State) :
    custody (serveRequest kind s).state = custody s := by
  unfold serveRequest
  (repeat' split) <;> simp [reply]

@[simp] theorem serveClearWake_custody (lines : Nat) (s : State) :
    custody (serveClearWake lines s).state = custody s := by simp [serveClearWake, reply]

@[simp] theorem serveSave_custody (s : State) : custody (serveSave s).state = custody s := by
  unfold serveSave
  split
  · rfl
  · next free =>
    obtain ⟨idle, _⟩ : s.store.snapshot = none ∧ s.store.parkKept = false := by simpa [saveBusy, saving] using free
    exact beginSave_custody idle

/-- PROTECT changes nothing once the lock cell is set. -/
theorem serveProtect_locked {s : State} (h : s.store.lockCell ≠ none) (a b c : Nat) :
    (serveProtect a b c s).state = s := by
  unfold serveProtect
  rw [if_pos (by simpa [Option.isSome_iff_ne_none] using h)]
  rfl

/-- PROTECT replaces the working record alone while the lock cell is empty. -/
theorem serveProtect_open {s : State} (h : s.store.lockCell = none) (a b c : Nat) :
    (serveProtect a b c s).state =
      { s with cfg := { s.cfg with protection := ⟨regionFlagsOf a, regionFlagsOf b, bitOf c 0⟩ } } := by
  unfold serveProtect
  rw [if_neg (by simp [h])]
  rfl

/-- Every request but PROTECT leaves the custody alone. -/
theorem serve_custody {r : ManagementRequest} (h : ∀ a b c, r ≠ .protect a b c) (s : State) :
    custody (serve r s).state = custody s := by
  cases r with
  | protect a b c => exact absurd rfl (h a b c)
  | _ => simp [serve, reply, serveFaults]

@[simp] theorem answer_custody (r : ManagementRequest) (x : Reply) : custody (answer r x) = custody x.state := by
  simp [answer]

end Sys2Proof.Machine
end

section
/-!
PROOFS. The lock cell (R204): what a step can do to the custody, said once, and the statement read off it.
-/

namespace Sys2Proof.Machine

/-- After a LOAD the working record is the lock cell's, or the one read where the cell is empty; what was read is the
image wherever that is good (R204, R207). -/
structure LoadedFrom (store : Store) (new : Custody) : Prop where
  cell : new.cell = store.lockCell
  working : ∃ read : Tables,
    (∀ image, store.image = .good image → read = image) ∧ new.working = store.lockCell.getD read.protection
  pledge : new.pledge = store.lockCell.getD new.working

/-- The three things a step can do, by the store and the stage before it: the cell stays, no LOAD begins, and a save that
begins while the cell is set carries its record; or a save completes with a good verify; or a LOAD begins. -/
inductive CustodyChange (store : Store) (stage : Stage) (new : Custody) : Prop
  | plain (cell : new.cell = store.lockCell)
      (pledge : ∀ p, store.snapshot = none → store.lockCell = some p → new.pledge = p)
      (loading : new.loading = true → stage = .load)
  | saved (image : Tables) (running : store.snapshot = some image)
      (cell : new.cell =
        (store.lockCell <|> if image.protection.lock then some image.protection else none))
      (written : new.image = .good image) (loading : new.loading = true → stage = .load)
  | loaded (loaded : LoadedFrom store new)

theorem custody_pledge_of_cell {s : State} {p : Protection} (idle : s.store.snapshot = none)
    (set : s.store.lockCell = some p) : (custody s).pledge = p := by
  simp [custody, custodyOf, pledgeOf, idle, set]

theorem custody_pledge_of_snapshot {s : State} {image : Tables} (h : s.store.snapshot = some image) :
    (custody s).pledge = image.protection := by
  simp [custody, custodyOf, pledgeOf, h]

theorem custody_loading {s : State} : (custody s).loading = true ↔ s.stage = .load := by simp [custody, custodyOf]

namespace CustodyChange

theorem of_kept {s t : State} (h : custody t = custody s) : CustodyChange s.store s.stage (custody t) := by
  rw [h]
  exact .plain rfl (fun _ => custody_pledge_of_cell) custody_loading.mp

variable {store : Store} {stage : Stage} {new : Custody}

theorem cell_stays {p : Protection} (h : CustodyChange store stage new) (set : store.lockCell = some p) :
    new.cell = some p := by
  cases h with
  | plain cell => rw [cell, set]
  | saved image running cell => simp [cell, set]
  | loaded loaded => rw [loaded.cell, set]

/-- A save that begins once the cell is set carries its record. -/
theorem pledge_of_cell {p : Protection} (h : CustodyChange store stage new) (idle : store.snapshot = none)
    (set : store.lockCell = some p) : new.pledge = p := by
  cases h with
  | plain _ pledge => exact pledge p idle set
  | saved image running => simp [idle] at running
  | loaded loaded => simp [loaded.pledge, set]

/-- An empty cell is set by a verified save of a locked record alone. -/
theorem set_by_save {p : Protection} (h : CustodyChange store stage new) (empty : store.lockCell = none)
    (set : new.cell = some p) :
    ∃ image, store.snapshot = some image ∧ image.protection.lock = true ∧ p = image.protection ∧
      new.image = .good image := by
  cases h with
  | plain cell => simp [cell, empty] at set
  | saved image running cell written =>
    rw [cell, empty] at set
    by_cases lock : image.protection.lock = true
    · exact ⟨image, running, lock, by simpa [lock, eq_comm] using set, written⟩
    · simp [lock] at set
  | loaded loaded => simp [loaded.cell, empty] at set

theorem loadedFrom (h : CustodyChange store stage new) (before : stage ≠ .load) (after : new.loading = true) :
    LoadedFrom store new := by
  cases h with
  | plain _ _ loading => exact absurd (loading after) before
  | saved _ _ _ _ loading => exact absurd (loading after) before
  | loaded loaded => exact loaded

end CustodyChange

theorem LoadedFrom.working_of_cell {store : Store} {new : Custody} {p : Protection} (h : LoadedFrom store new)
    (set : store.lockCell = some p) : new.working = p := by
  obtain ⟨read, _, working⟩ := h.working
  simp [working, set]

theorem LoadedFrom.working_of_image {store : Store} {new : Custody} {image : Tables} (h : LoadedFrom store new)
    (empty : store.lockCell = none) (good : store.image = .good image) : new.working = image.protection := by
  obtain ⟨read, same, working⟩ := h.working
  simp [working, empty, same image good]

/-! ## Start-up -/

theorem loadStage_custody (kind : ResetKind) (tables : Tables) (s t : State) :
    custody (loadStage kind tables s t) = custodyOf t.store tables.protection .load := by
  unfold loadStage
  dsimp only
  split <;> simp <;> rfl

/-- A good image is what a LOAD reads (R207). -/
theorem readImage_good {s : State} {image : Tables} (h : s.store.image = .good image) : readImage s = some image := by
  simp [readImage, h]

/-- A LOAD from the cold part, with any tables whose protection record is the loaded one. -/
theorem loadStage_loadedFrom {kind : ResetKind} {tables : Tables} {s t : State} (store : t.store = (cold s).store)
    (record : tables.protection = (loadedTables s).protection) :
    LoadedFrom s.store (custody (loadStage kind tables s t)) := by
  rw [loadStage_custody, store, record]
  refine ⟨rfl, ⟨(readImage s).getD .factory, fun image good => ?_, rfl⟩, rfl⟩
  rw [readImage_good good, Option.getD_some]

theorem powerOn_loadedFrom (straps : Straps) (s : State) : LoadedFrom s.store (custody (powerOn straps s)) :=
  loadStage_loadedFrom (s := { s with strapPins := straps }) rfl rfl

theorem restart_loadedFrom (s : State) : LoadedFrom s.store (custody (restart s)) := loadStage_loadedFrom rfl rfl

/-- Leaving LOAD touches none of the records. -/
theorem CustodyChange.of_stage {s t : State} {stage : Stage} (other : stage ≠ .load)
    (h : custody t = custodyOf s.store s.cfg.protection stage) : CustodyChange s.store s.stage (custody t) := by
  rw [h]
  exact .plain rfl (fun _ idle set => custody_pledge_of_cell (s := s) idle set)
    (fun loading => absurd (by simpa [custodyOf] using loading) other)

theorem beginListen_change (s : State) : CustodyChange s.store s.stage (custody (beginListen s)) :=
  .of_stage (stage := .listen) (by decide) (by simp [beginListen])

theorem beginPoll_change (s : State) : CustodyChange s.store s.stage (custody (beginPoll s)) :=
  .of_stage (stage := .poll) (by decide) (by simp [beginPoll])

/-- A power loss leaves the lock cell, and ends a running save. -/
theorem cold_change (image : StoreImage) (s : State) :
    CustodyChange s.store s.stage (custody (cold { s with store := { s.store with image := image } })) :=
  .plain rfl (fun _ _ set => custody_pledge_of_cell rfl set) (fun loading => absurd loading (by simp [cold, custodyOf]))

/-! ## The end of a save -/

theorem startKept_custody {s : State} (idle : s.store.snapshot = none) : custody (startKept s) = custody s := by
  unfold startKept
  split
  · exact beginSave_custody idle
  · rfl

theorem raise_store (cls : FaultClass) (who : Option Closure) (s : State) : (raise cls who s).store = s.store := by
  simpa [lessTraffic] using congrArg State.store (raise_rest cls who s)

theorem saveFailed_custody (image : Tables) (s : State) :
    custody (startKept (saveFailed image s)) =
      custodyOf { s.store with
        image := .unknown (imageCandidates s.store.image ++ [image]), snapshot := none, lastResult := some false }
        s.cfg.protection s.stage := by
  rw [startKept_custody (by simp [saveFailed, raise_store])]
  simp [saveFailed]

/-- The end of a save, good or failed, with the kept park save that it may begin. -/
theorem saveEnds_change {s : State} {image : Tables} (running : s.store.snapshot = some image) (verified : Bool) :
    CustodyChange s.store s.stage
      (custody (startKept (if verified then saveGood image s else saveFailed image s))) := by
  cases verified with
  | true =>
    rw [if_pos rfl, startKept_custody (s := saveGood image s) rfl]
    exact .saved image running rfl rfl custody_loading.mp
  | false =>
    rw [if_neg (by decide), saveFailed_custody]
    exact .plain rfl (fun _ idle => by simp [idle] at running) custody_loading.mp

/-! ## Commands -/

theorem bitOf_toNat (b : Byte) (n : Nat) : bitOf b.toNat n = b.getLsbD n := by
  rw [BitVec.getLsbD, Nat.testBit_eq_decide_div_mod_eq]
  rfl

theorem manage_protect_open {s : State} (run : s.stage = .run) (empty : s.store.lockCell = none) (a b c : Nat) :
    custody (manage (.protect a b c) s) =
      custodyOf s.store ⟨regionFlagsOf a, regionFlagsOf b, bitOf c 0⟩ s.stage := by
  rw [manage_run run (by simp), answer_custody]
  show custody (serveProtect a b c (setMask none s)).state = _
  rw [serveProtect_open (s := setMask none s) empty]
  rfl

theorem serve_change (r : ManagementRequest) (s : State) :
    CustodyChange s.store s.stage (custody (serve r s).state) := by
  cases r with
  | protect a b c =>
    by_cases empty : s.store.lockCell = none
    · simp only [serve, serveProtect_open empty]
      exact .plain rfl (fun _ _ set => by simp [empty] at set) custody_loading.mp
    · simp only [serve, serveProtect_locked empty]
      exact .of_kept rfl
  | _ => exact .of_kept (serve_custody (by simp) s)

theorem manage_change (r : ManagementRequest) (s : State) :
    CustodyChange s.store s.stage (custody (manage r s)) := by
  unfold manage
  split
  · exact .of_kept rfl
  · have masked : (maskAfter r s).store = s.store ∧ (maskAfter r s).stage = s.stage := by
      unfold maskAfter
      split <;> exact ⟨rfl, rfl⟩
    rw [← masked.1, ← masked.2]
    generalize maskAfter r s = u
    dsimp only
    split
    · split
      · exact .loaded (restart_loadedFrom u)
      · simpa using serve_change r u
    · split
      · simpa using serve_change r u
      · exact .of_kept (by simp [reply])

theorem receiveFrame_change (id : CanId) (data : List Byte) (s : State) :
    CustodyChange s.store s.stage (custody (receiveFrame id data s)) := by
  unfold receiveFrame
  split
  · split
    · exact manage_change _ s
    · exact .of_kept (by simp)
  · exact .of_kept rfl

theorem atDeadline_custody {f : State → State} (h : ∀ u, custody (f u) = custody u) (deadline : Option Nat)
    (s : State) : custody (atDeadline deadline f s) = custody s := by
  unfold atDeadline
  split
  · exact h _
  · rfl

section
variable {dt : Nat} {f : State → State} {s t : State}

theorem perform_custody (h : perform dt f s = .next t) (supplied : s.stage ≠ .off) :
    custody t = custody (f (elapse dt s)) := by
  rw [perform_supplied dt f supplied] at h
  cases h
  exact finish_custody _ _

theorem perform_change (h : perform dt f s = .next t)
    (effect : ∀ u : State, CustodyChange u.store u.stage (custody (f u))) :
    CustodyChange s.store s.stage (custody t) := by
  by_cases off : s.stage = .off
  · rw [perform_off dt f off] at h
    cases h
    exact .of_kept rfl
  · rw [perform_custody h off]
    exact effect (elapse dt s)

theorem perform_kept (h : perform dt f s = .next t) (effect : ∀ u, custody (f u) = custody u) :
    CustodyChange s.store s.stage (custody t) := perform_change h fun u => .of_kept (effect u)

end

/-- What a command can do to the custody: start-up, the end of a save, a power loss and the management requests each by
its own lemma, and every other row leaves it alone. -/
theorem exec_change {i : Instr} {s t : State} (h : exec i s = .next t) :
    CustodyChange s.store s.stage (custody t) := by
  cases i with
  | powerOn dt a b c =>
    cases h
    exact .loaded (powerOn_loadedFrom ⟨a, b, c⟩ (elapse dt s))
  | loadComplete =>
    simp only [exec, execLoadComplete] at h
    refine perform_change h fun u => ?_
    split
    · exact beginListen_change u
    · exact .of_kept rfl
  | listenEnd =>
    simp only [exec, execListenEnd] at h
    refine perform_change h fun u => ?_
    unfold atDeadline
    split
    · next d _ => exact beginPoll_change (reach d u)
    · exact .of_kept rfl
  | powerLoss dt extent =>
    simp only [exec, execPowerLoss] at h
    exact perform_change h fun u => cold_change (tornImage extent u.store) u
  | saveComplete dt verified =>
    simp only [exec, execSaveComplete] at h
    refine perform_change h fun u => ?_
    split
    · next image running => exact saveEnds_change running verified
    · exact .of_kept rfl
  | bodyFrameReceived dt id data => exact perform_change h (receiveFrame_change id data)
  | unknownRequest dt data =>
    simp only [exec, execUnknownRequest] at h
    exact perform_change h fun u => receiveFrame_change u.mgmt.base data u
  | select | read | write | writeTravel | writeOpenLimit | writeChildOpenLimit | writeWindowLockout | writeParameters
  | writeChannelPowerMode | writeParkDelay | writeDeepDelay | writeProfiles | writeFobs | writePassiveSettings
  | writeOperations | writeRules | writeWakeLines | writeManagement | mask | release | discard | lockAll | unlockAll
  | unlockDriver | deadlockAll | unlockTailgate | releaseTailgate | crashUnlock | crashClear | childSet
  | clearNormalized | windowMove | windowStop | operationStart | operationCancel | clearWake | faults | clearFaults
  | save | protect | restart | status => exact perform_change h (manage_change _)
  | linkCycleEnd | driveDeadline | settleDeadline | childSettleDeadline | refillDeadline | releaseDeadline
  | driverFirstWindowExpiry | doubleLockWindowExpiry | timedPatternDeadline | retainedDeadline
  | normalizationHoldDeadline | runTimeLimit | candidateDeadline | holdDeadline | leaseDeadline
  | speedFreshnessDeadline | voltageFreshnessDeadline | deepDeadline =>
    exact perform_kept h fun u => atDeadline_custody (fun _ => by simp) _ u
  | beginTransmission | frameAcknowledged | transmissionFailed | wakeLineDetection =>
    exact perform_kept h fun u => by simp
  | nodeReport | motionGrant | pendingRequestTaken | busOff | portActiveReturn | relockDeadline | searchDeadline
  | trapExpiry | statusPeriod | idleDeadline | parkSave | ignitionTransition | wakeLineLevelChange =>
    simp only [exec, execNodeReport, execMotionGrant, execPendingRequestTaken, execBusOff, execPortActiveReturn,
      execRelockDeadline, execSearchDeadline, execTrapExpiry, execStatusPeriod, execIdleDeadline, execParkSave,
      execIgnitionTransition, execWakeLineLevelChange] at h
    refine perform_kept h fun u => ?_
    (repeat' split) <;> simp

/-- What a step can do to the custody. -/
theorem step_change {s t : State} (h : step s = .next t) : CustodyChange s.store s.stage (custody t) := by
  unfold step at h
  split at h
  · next i rest _ => exact exec_change (s := { s with pending := rest }) h
  · cases h
    exact .of_kept rfl

theorem step_front {i : Instr} {rest : List Instr} {s : State} (front : s.pending = i :: rest) :
    step s = exec i { s with pending := rest } := by
  simp [step, front]

/-! ## R204 -/

/-- A LOAD begins in the step, by whichever command. -/
theorem step_loadedFrom {s t : State} (h : step s = .next t)
    (loads : s.stage ≠ .load ∧ t.stage = .load ∨ ∃ dt a b c rest, s.pending = .powerOn dt a b c :: rest) :
    LoadedFrom s.store (custody t) := by
  rcases loads with ⟨before, after⟩ | ⟨dt, a, b, c, rest, front⟩
  · exact (step_change h).loadedFrom before (custody_loading.mpr after)
  · rw [step_front front] at h
    cases h
    exact powerOn_loadedFrom ⟨a, b, c⟩ (elapse dt { s with pending := rest })

/-- A save of a locked record that completes with a good verify sets an empty cell. -/
theorem exec_saveComplete_sets {dt : Nat} {s t : State} {image : Tables} (h : exec (.saveComplete dt true) s = .next t)
    (supplied : s.stage ≠ .off) (running : s.store.snapshot = some image) (empty : s.store.lockCell = none)
    (lock : image.protection.lock = true) : t.store.lockCell = some image.protection := by
  simp only [exec, execSaveComplete] at h
  have ended : custody t = custody (startKept (saveGood image (elapse dt s))) := by
    rw [perform_custody h supplied]
    simp [running]
  rw [startKept_custody (s := saveGood image (elapse dt s)) rfl] at ended
  have cell : t.store.lockCell = (saveGood image (elapse dt s)).store.lockCell := congrArg Custody.cell ended
  simp [cell, saveGood, empty, lock]

/-- The working lock flag bars no PROTECT while the cell is empty (R203). -/
theorem exec_protect_lock {dt : Nat} {r w l : Byte} {s t : State} (h : exec (.protect dt r w l) s = .next t)
    (run : s.stage = .run) (empty : s.store.lockCell = none) : t.cfg.protection.lock = l.getLsbD 0 := by
  have taken : custody t = _ :=
    (perform_custody h (by simp [run])).trans (manage_protect_open (s := elapse dt s) run empty _ _ _)
  have record : t.cfg.protection = ⟨regionFlagsOf r.toNat, regionFlagsOf w.toNat, bitOf l.toNat 0⟩ :=
    congrArg Custody.working taken
  rw [record]
  exact bitOf_toNat l 0

/-- Settles O7: every part is read off the inversion lemma of a step, but for the two commands it names. -/
theorem lockCellIsForGood : Obligations.LockCellIsForGood := by
  intro s t h
  have change := step_change h
  refine ⟨fun p set => ⟨change.cell_stays set, fun loads => (step_loadedFrom h loads).working_of_cell set,
    fun image idle begun => ?_⟩, fun empty => ⟨fun p set => change.set_by_save empty set, ?_, ?_, ?_⟩⟩
  · exact (custody_pledge_of_snapshot begun).symm.trans (change.pledge_of_cell idle set)
  · intro dt rest image front supplied running lock
    rw [step_front front] at h
    exact exec_saveComplete_sets h supplied running empty lock
  · exact fun image loads good => (step_loadedFrom h loads).working_of_image empty good
  · intro dt r w l rest front alert
    rw [step_front front] at h
    exact exec_protect_lock h alert.run empty

end Sys2Proof.Machine
end

section
/-!
PROOFS. The limits (R5, R44, R58, R154, R158, R160) and the soundness of the Operation Engine (R129, R137), carried through
the operations of the eight blocks in one pass, one lemma for each operation. Neither invariant needs the other, so `Kept`
says of each under what condition it is meant: the statements ask for one at a time.
-/

namespace Sys2Proof.Machine

/-- The limits hold if `P`, and the Operation Engine is sound if `Q`. -/
structure Kept (P Q : Prop) (s : State) : Prop where
  bounded : P → Bounded s
  sound : Q → OperationsSound s

/-- `Kept` in the fields it reads: the tokens, the crash hold, the two buffers and the Pass Queues, the motor slots, the
windows with their settings, and the Active Operation. -/
structure KeptOf (P Q : Prop) (tokens : Nat) (hold : Option Nat) (tx : List TxFrame) (held : List HeldFrame)
    (pass : Five (List PassFrame)) (slots : List Slot) (windows : Four Window) (cfg : Four WindowSettings)
    (active : Option ActiveOp) : Prop where
  tokens : P → tokens ≤ Config.tokenMax
  tx : P → tx.length ≤ Config.txPlaces
  held : P → held.length ≤ Config.trapPlaces
  pass : P → ∀ c, (pass.get c).length ≤ Config.passPlaces
  slots : P → slots.length ≤ Config.motorSlots
  positions : P → ∀ w, (windows.get w).position ≤ (cfg.get w).travel
  stopped : Q → hold.isSome → active = none
  counted : Q → ∀ op, active = some op → op.remaining = notEnded op.steps

section
variable {P Q : Prop} {s : State}

@[simp] theorem kept_fold :
    KeptOf P Q s.group.tokens s.group.crashHold s.tx s.trap.held s.pass s.motion.slots s.windows s.cfg.windows
      s.op.active ↔ Kept P Q s :=
  ⟨fun h => ⟨fun p => ⟨h.tokens p, h.tx p, h.held p, h.pass p, h.slots p, h.positions p⟩,
      fun q => ⟨h.stopped q, h.counted q⟩⟩,
    fun h => ⟨fun p => (h.bounded p).tokens, fun p => (h.bounded p).tx, fun p => (h.bounded p).trap,
      fun p => (h.bounded p).pass, fun p => (h.bounded p).slots, fun p => (h.bounded p).positions,
      fun q => (h.sound q).stopped, fun q => (h.sound q).counted⟩⟩

@[simp] theorem kept_mk
    {pending now draws pins strapPins stage listenEnd cfg closures children group release timed windows motion
    fobRun key search op counts trap pass tx port nextStatus channels ctx lines mgmt faults store} :
    Kept P Q
      ⟨pending, now, draws, pins, strapPins, stage, listenEnd, cfg, closures, children, group, release, timed,
       windows, motion, fobRun, key, search, op, counts, trap, pass, tx, port, nextStatus, channels, ctx, lines,
       mgmt, faults, store⟩ ↔
      KeptOf P Q group.tokens group.crashHold tx trap.held pass motion.slots windows cfg.windows op.active :=
  kept_fold.symm

/-! ## One field changed -/

@[simp] theorem keptOf_tokens {n : Nat} (h : Kept P Q s) (le : n ≤ s.group.tokens ∨ n ≤ Config.tokenMax) :
    KeptOf P Q n s.group.crashHold s.tx s.trap.held s.pass s.motion.slots s.windows s.cfg.windows s.op.active :=
  { kept_fold.mpr h with tokens := fun p => le.elim (·.trans (h.bounded p).tokens) id }

@[simp] theorem keptOf_hold {hold : Option Nat} (h : Kept P Q s) (less : hold.isSome → s.group.crashHold.isSome) :
    KeptOf P Q s.group.tokens hold s.tx s.trap.held s.pass s.motion.slots s.windows s.cfg.windows s.op.active :=
  { kept_fold.mpr h with stopped := fun q some => (h.sound q).stopped (less some) }

@[simp] theorem keptOf_tx {tx : List TxFrame} (h : Kept P Q s)
    (le : tx.length ≤ s.tx.length ∨ tx.length ≤ Config.txPlaces) :
    KeptOf P Q s.group.tokens s.group.crashHold tx s.trap.held s.pass s.motion.slots s.windows s.cfg.windows
      s.op.active :=
  { kept_fold.mpr h with tx := fun p => le.elim (·.trans (h.bounded p).tx) id }

@[simp] theorem keptOf_held {held : List HeldFrame} (h : Kept P Q s)
    (le : held.length ≤ s.trap.held.length ∨ held.length ≤ Config.trapPlaces) :
    KeptOf P Q s.group.tokens s.group.crashHold s.tx held s.pass s.motion.slots s.windows s.cfg.windows
      s.op.active :=
  { kept_fold.mpr h with held := fun p => le.elim (·.trans (h.bounded p).trap) id }

/-- One Pass Queue changed. -/
@[simp] theorem keptOf_pass {c : Closure} {queue : List PassFrame} (h : Kept P Q s)
    (le : queue.length ≤ (s.pass.get c).length ∨ queue.length ≤ Config.passPlaces) :
    KeptOf P Q s.group.tokens s.group.crashHold s.tx s.trap.held (s.pass.set c queue) s.motion.slots s.windows
      s.cfg.windows s.op.active := by
  refine { kept_fold.mpr h with pass := fun p d => ?_ }
  by_cases same : d = c
  · subst same
    simpa using le.elim (·.trans ((h.bounded p).pass d)) id
  · simpa [Five.get_set_other same] using (h.bounded p).pass d

@[simp] theorem keptOf_slots {slots : List Slot} (h : Kept P Q s)
    (le : slots.length ≤ s.motion.slots.length ∨ slots.length ≤ Config.motorSlots) :
    KeptOf P Q s.group.tokens s.group.crashHold s.tx s.trap.held s.pass slots s.windows s.cfg.windows s.op.active :=
  { kept_fold.mpr h with slots := fun p => le.elim (·.trans (h.bounded p).slots) id }

/-- One window changed: its position is no further than it was, or within its travel. -/
@[simp] theorem keptOf_window {w : WindowId} {x : Window} (h : Kept P Q s)
    (le : x.position ≤ (window s w).position ∨ x.position ≤ (windowCfg s w).travel) :
    KeptOf P Q s.group.tokens s.group.crashHold s.tx s.trap.held s.pass s.motion.slots (s.windows.set w x)
      s.cfg.windows s.op.active := by
  refine { kept_fold.mpr h with positions := fun p v => ?_ }
  by_cases same : v = w
  · subst same
    simpa [windowCfg] using le.elim (·.trans ((h.bounded p).positions v)) id
  · simpa [window, windowCfg, Four.get_set_other same] using (h.bounded p).positions v

/-- Every window changed, none of their positions. -/
@[simp] theorem keptOf_windows {f : WindowId → Window → Window} (h : Kept P Q s)
    (same : ∀ w x, (f w x).position = x.position) :
    KeptOf P Q s.group.tokens s.group.crashHold s.tx s.trap.held s.pass s.motion.slots (s.windows.mapWith f)
      s.cfg.windows s.op.active :=
  { kept_fold.mpr h with positions := fun p w => by simpa [same, window, windowCfg] using (h.bounded p).positions w }

@[simp] theorem keptOf_inactive (h : Kept P Q s) :
    KeptOf P Q s.group.tokens s.group.crashHold s.tx s.trap.held s.pass s.motion.slots s.windows s.cfg.windows
      none :=
  { kept_fold.mpr h with stopped := fun _ _ => rfl, counted := fun _ _ none => by cases none }

/-- The Active Operation changed, with its count, while no crash hold is set. -/
theorem keptOf_active {op : ActiveOp} (h : Kept P Q s) (free : Q → s.group.crashHold = none)
    (counted : Q → op.remaining = notEnded op.steps) :
    KeptOf P Q s.group.tokens s.group.crashHold s.tx s.trap.held s.pass s.motion.slots s.windows s.cfg.windows
      (some op) :=
  { kept_fold.mpr h with
    stopped := fun q some => by simp [free q] at some
    counted := fun q _ same => by cases same; exact counted q }

theorem ite_kept {c : Prop} [Decidable c] {t u : State} (ht : Kept P Q t) (hu : Kept P Q u) :
    Kept P Q (if c then t else u) := by
  split <;> assumption

theorem foldl_kept {α : Type} {f : State → α → State} {l : List α} (h : Kept P Q s)
    (step : ∀ u a, Kept P Q u → Kept P Q (f u a)) : Kept P Q (l.foldl f s) := by
  induction l generalizing s with
  | nil => exact h
  | cons a l ih => exact ih (step s a h)

/-! ## The position under each change of a window record -/

@[simp] theorem heatUp_position (now : Nat) (x : Window) : (heatUp now x).position = x.position := rfl

@[simp] theorem heatDecay_position (now : Nat) (x : Window) : (heatDecay now x).position = x.position := rfl

@[simp] theorem heatRest_position (now : Nat) (x : Window) : (heatRest now x).position = x.position := by
  unfold heatRest
  split <;> rfl

@[simp] theorem leaveFault_position (x : Window) : (leaveFault x).position = x.position := by
  unfold leaveFault
  split <;> rfl

@[simp] theorem turned_position (before : Direction) (x : Window) : (turned before x).position = x.position := by
  unfold turned
  split <;> rfl

@[simp] theorem takenOver_position (r : WindowRequest) (dir : Direction) (state : WindowState) (x : Window) :
    (takenOver r dir state x).position = x.position := rfl

@[simp] theorem drivenRecord_position (now : Nat) (cmd : MotorCommand) (x : Window) :
    (drivenRecord now cmd x).position = x.position := by
  unfold drivenRecord
  dsimp only
  split <;> rfl

@[simp] theorem countReport_position (d blanking : Nat) (x : Window) :
    (countReport d blanking x).position = x.position := rfl

@[simp] theorem debounceStep_position (current profile threshold : Nat) (x : Window) :
    (debounceStep current profile threshold x).position = x.position := rfl

@[simp] theorem collectSample_position (d zone current : Nat) (x : Window) :
    (collectSample d zone current x).position = x.position := by
  unfold collectSample
  split <;> rfl

@[simp] theorem pinchedRecord_position (p : WindowSettings) (cause : PinchCause) (x : Window) :
    (pinchedRecord p cause x).position = x.position := rfl

@[simp] theorem unnormalize_position (travel : Nat) (x : Window) : (unnormalize travel x).position = travel := rfl

/-- A pending clear puts P at travel; otherwise the end of a motion leaves it (R57, R63). -/
theorem endedRecord_position (travel : Nat) (outcome : Option MotionOutcome) (x : Window) :
    (endedRecord travel outcome x).position ≤ x.position ∨ (endedRecord travel outcome x).position ≤ travel := by
  unfold endedRecord
  dsimp only
  split
  · exact .inr le_rfl
  · exact .inl le_rfl

/-- Stage A keeps P within travel (R72). -/
theorem integrate_position (dir : Direction) (d travel : Nat) (x : Window) :
    (integrate dir d travel x).position ≤ x.position ∨ (integrate dir d travel x).position ≤ travel := by
  cases dir with
  | up => exact .inl (Nat.sub_le _ _)
  | down => exact .inr (Nat.min_le_left _ _)

/-! ## The operations -/

@[simp] theorem setChannel_kept (c : Closure) (ch : Channel) (h : Kept P Q s) :
    Kept P Q (setChannel c ch s) := by simp [h, setChannel]

@[simp] theorem setClosure_kept (c : Closure) (k : ClosureLock) (h : Kept P Q s) :
    Kept P Q (setClosure c k s) := by simp [h, setClosure]

@[simp] theorem setChild_kept (d : RearDoor) (k : ChildLock) (h : Kept P Q s) :
    Kept P Q (setChild d k s) := by simp [h, setChild]

@[simp] theorem setWindow_kept {w : WindowId} {x : Window} (h : Kept P Q s)
    (le : x.position ≤ (window s w).position ∨ x.position ≤ (windowCfg s w).travel) : Kept P Q (setWindow w x s) := by
  simp [setWindow, h, le]

@[simp] theorem countFault_kept (cls : FaultClass) (who : Option Closure) (h : Kept P Q s) :
    Kept P Q (countFault cls who s) := by simp [h, countFault]

theorem enqueue_shortens {f : TxFrame} {q r : List TxFrame} (h : enqueue f q = some r) :
    r.length ≤ q.length ∨ r.length ≤ Config.txPlaces := by
  by_cases full : q.length ≤ Config.txPlaces
  · exact .inr (enqueue_length h full)
  · unfold enqueue at h
    split at h
    · cases h; exact .inl (by simp)
    · split at h
      · omega
      · cases h

@[simp] theorem raiseTxOverflow_kept (h : Kept P Q s) : Kept P Q (raiseTxOverflow s) := by
  unfold raiseTxOverflow
  dsimp only
  split
  · simp [h]
  · split
    · next taken => exact kept_mk.mpr (keptOf_tx (countFault_kept _ _ h) (enqueue_shortens taken))
    · simp [h]

@[simp] theorem offer_kept (f : TxFrame) (h : Kept P Q s) : Kept P Q (offer f s) := by
  unfold offer
  split
  · split
    · next taken => exact kept_mk.mpr (keptOf_tx h (enqueue_shortens taken))
    · simp [h]
  · exact h

@[simp] theorem offerNotice_kept (data : List Byte) (h : Kept P Q s) :
    Kept P Q (offerNotice data s) := by simp [h, offerNotice]

@[simp] theorem raiseWith_kept (detail : Option PinchDetail) (cls : FaultClass) (who : Option Closure) (h : Kept P Q s) :
    Kept P Q (raiseWith detail cls who s) := by
  unfold raiseWith
  dsimp only
  (repeat' split) <;> simp [h]

@[simp] theorem raise_kept (cls : FaultClass) (who : Option Closure) (h : Kept P Q s) :
    Kept P Q (raise cls who s) := by simp [h, raise]

@[simp] theorem recomputeIdle_kept (h : Kept P Q s) : Kept P Q (recomputeIdle s) := by simp [h, recomputeIdle]

@[simp] theorem activity_kept (h : Kept P Q s) : Kept P Q (activity s) := by
  unfold activity
  split <;> simp [h]

theorem endSlot_length (w : WindowId) (off : Bool) (slots : List Slot) :
    (endSlot w off slots).length ≤ slots.length := by
  unfold endSlot
  split
  · exact List.length_filter_le _ _
  · simp

@[simp] theorem endRunning_kept (w : WindowId) (outcome : Option MotionOutcome) (h : Kept P Q s) :
    Kept P Q (endRunning w outcome s) :=
  kept_mk.mpr (keptOf_slots (setWindow_kept h (endedRecord_position _ _ _)) (.inl (endSlot_length _ _ _)))

@[simp] theorem dequeue_slots (w : WindowId) (m : Motion) : (dequeue w m).slots = m.slots := rfl

@[simp] theorem enqueueMotion_slots (w : WindowId) (switchClass : Bool) (m : Motion) :
    (enqueueMotion w switchClass m).slots = m.slots := by
  unfold enqueueMotion
  split <;> rfl

@[simp] theorem requeue_slots (r : WindowRequest) (old : Option Origin) (m : Motion) :
    (requeue r old m).slots = m.slots := by
  unfold requeue
  split <;> simp

@[simp] theorem endWaiting_kept (w : WindowId) (outcome : MotionOutcome) (h : Kept P Q s) :
    Kept P Q (endWaiting w outcome s) :=
  kept_mk.mpr (keptOf_slots (setWindow_kept h (.inl le_rfl)) (.inl le_rfl))

@[simp] theorem endMotionRecord_kept (w : WindowId) (outcome : MotionOutcome) (h : Kept P Q s) :
    Kept P Q (endMotionRecord w outcome s) := by
  unfold endMotionRecord
  (repeat' split) <;> simp [h]

@[simp] theorem offerPages_kept (h : Kept P Q s) : Kept P Q (offerPages s) :=
  foldl_kept h fun _ _ hu => offer_kept _ hu

@[simp] theorem offerPagesNow_kept (h : Kept P Q s) : Kept P Q (offerPagesNow s) := by
  unfold offerPagesNow
  split <;> simp [h]

@[simp] theorem sentLock_kept (c : Closure) (h : Kept P Q s) : Kept P Q (sentLock c s) := by simp [h, sentLock]

@[simp] theorem sentChild_kept (c : Closure) (h : Kept P Q s) : Kept P Q (sentChild c s) := by
  unfold sentChild
  split <;> simp [h]

@[simp] theorem sentRelease_kept (carried : Bool) (h : Kept P Q s) :
    Kept P Q (sentRelease carried s) := by simp [h, sentRelease]

@[simp] theorem sentPayload_kept (c : Closure) (h : Kept P Q s) :
    Kept P Q (sentPayload c s) := by simp [h, sentPayload]

@[simp] theorem sentMotor_kept (c : Closure) (motor : MotorCommand) (h : Kept P Q s) :
    Kept P Q (sentMotor c motor s) := by
  unfold sentMotor
  split
  · exact h
  · refine kept_mk.mpr (keptOf_slots (setWindow_kept h (.inl (by simp))) (.inl ?_))
    split
    · exact List.length_filter_le _ _
    · exact le_rfl

@[simp] theorem noteSent_kept (c : Closure) (d : NodeDrive) (h : Kept P Q s) : Kept P Q (noteSent c d s) := by
  unfold noteSent
  split
  · exact sentMotor_kept _ _ (sentPayload_kept _ (sentRelease_kept _ (sentChild_kept _ (sentLock_kept _ h))))
  · exact sentMotor_kept _ _ h

@[simp] theorem sendDrive_kept (c : Closure) (h : Kept P Q s) : Kept P Q (sendDrive c s) := by simp [h, sendDrive]

@[simp] theorem setRate_kept (c : Closure) (r : Rate) (h : Kept P Q s) : Kept P Q (setRate c r s) := by
  unfold setRate
  dsimp only
  (repeat' split) <;> simp [h]

@[simp] theorem chooseRates_kept (h : Kept P Q s) : Kept P Q (chooseRates s) :=
  foldl_kept h fun _ _ hu => setRate_kept _ _ hu

@[simp] theorem beginSave_kept (h : Kept P Q s) : Kept P Q (beginSave s) := by simp [h, beginSave]

@[simp] theorem parkSave_kept (h : Kept P Q s) : Kept P Q (parkSave s) := by
  unfold parkSave
  split <;> simp [h]

@[simp] theorem clearReported_kept (h : Kept P Q s) : Kept P Q (clearReported s) := by simp [h, clearReported]

@[simp] theorem startStatus_kept (h : Kept P Q s) : Kept P Q (startStatus s) := by simp [h, startStatus]

@[simp] theorem enterAwake_kept (cause : WakeCause) (h : Kept P Q s) : Kept P Q (enterAwake cause s) := by
  unfold enterAwake
  refine startStatus_kept (kept_mk.mpr (keptOf_windows (clearReported_kept (activity_kept ?_)) (by simp)))
  simp [h]

@[simp] theorem wake_kept (cause : WakeCause) (h : Kept P Q s) : Kept P Q (wake cause s) := by
  unfold wake
  split <;> simp [h]

/-- What every request from RUN on does first (R187, R192). -/
@[simp] theorem wake_activity_kept (cause : WakeCause) (h : Kept P Q s) : Kept P Q (wake cause (activity s)) :=
  wake_kept cause (activity_kept h)

@[simp] theorem enterParked_kept (h : Kept P Q s) : Kept P Q (enterParked s) :=
  parkSave_kept (offerPages_kept (chooseRates_kept (by simp [h])))

@[simp] theorem enterDeep_kept (h : Kept P Q s) : Kept P Q (enterDeep s) := chooseRates_kept (by simp [h])

@[simp] theorem closeHold_kept (before : State) (h : Kept P Q s) : Kept P Q (closeHold before s) := by
  unfold closeHold
  split <;> simp [h]

@[simp] theorem closeState_kept (h : Kept P Q s) : Kept P Q (closeState s) := by
  unfold closeState
  dsimp only
  (repeat' split) <;> simp [h]

@[simp] theorem closePages_kept (before : State) (h : Kept P Q s) : Kept P Q (closePages before s) := by
  unfold closePages
  split <;> simp [h]

@[simp] theorem finish_kept (before : State) (h : Kept P Q s) : Kept P Q (finish before s) := by
  unfold finish
  split
  · exact closePages_kept _ (chooseRates_kept (closeState_kept (closeHold_kept _ h)))
  · exact h

@[simp] theorem endOperation_kept (op : ActiveOp) (h : Kept P Q s) : Kept P Q (endOperation op s) :=
  offerNotice_kept _ (kept_mk.mpr (keptOf_inactive h))

/-- A count of the open steps is kept, unless crash hold is set. -/
theorem keepOrEnd_kept {op : ActiveOp} (h : Kept P Q s) (free : Q → s.group.crashHold = none)
    (counted : Q → op.remaining = notEnded op.steps) : Kept P Q (keepOrEnd op s) := by
  unfold keepOrEnd
  split
  · exact endOperation_kept op h
  · exact kept_mk.mpr (keptOf_active h free counted)

@[simp] theorem stopForEngine_kept (w : WindowId) (h : Kept P Q s) : Kept P Q (stopForEngine w s) := by
  unfold stopForEngine
  dsimp only
  (repeat' split) <;> simp [h]

@[simp] theorem abort_kept (cause : AbortCause) (h : Kept P Q s) : Kept P Q (abort cause s) := by
  unfold abort
  split
  · exact h
  · exact endOperation_kept _ (foldl_kept h fun _ _ hu => stopForEngine_kept _ hu)

@[simp] theorem crashTest_kept (h : Kept P Q s) : Kept P Q (crashTest s) := by
  unfold crashTest
  split <;> simp [h]

theorem Kept.free {op : ActiveOp} (h : Kept P Q s) (present : s.op.active = some op) (q : Q) :
    s.group.crashHold = none := by
  by_contra set
  have none := (h.sound q).stopped (Option.isSome_iff_ne_none.mpr set)
  simp [present] at none

theorem markStep_open {w : WindowId} {status : StepStatus} {steps marked : List OpStep}
    (h : markStep w status steps = some marked) : 0 < notEnded steps := by
  induction steps generalizing marked with
  | nil => simp [markStep] at h
  | cons x rest ih =>
    unfold markStep at h
    split at h
    · next here =>
      obtain ⟨_, isOpen⟩ : x.window = w ∧ stepEnded x.status = false := by simpa using here
      simp [notEnded, isOpen]
    · obtain ⟨after, marks, _⟩ := Option.map_eq_some_iff.mp h
      exact (ih marks).trans_le (by simp [notEnded, List.countP_cons])

/-- The marked step was open; with an ended status it no longer counts. -/
theorem markStep_count {w : WindowId} {status : StepStatus} {steps marked : List OpStep}
    (h : markStep w status steps = some marked) (ended : stepEnded status = true) :
    notEnded marked = notEnded steps - 1 := by
  induction steps generalizing marked with
  | nil => simp [markStep] at h
  | cons x rest ih =>
    unfold markStep at h
    split at h
    · next here =>
      cases h
      obtain ⟨_, isOpen⟩ : x.window = w ∧ stepEnded x.status = false := by simpa using here
      simp [notEnded, ended, isOpen]
    · next other =>
      obtain ⟨after, marks, rfl⟩ := Option.map_eq_some_iff.mp h
      have one := ih marks
      have positive := markStep_open marks
      simp only [notEnded, List.countP_cons] at one positive ⊢
      split <;> omega

/-- A status of an ended step, handed to the engine (R129, R132). -/
theorem handStatus_kept (w : WindowId) {status : StepStatus} (ended : stepEnded status = true) (h : Kept P Q s) :
    Kept P Q (handStatus w status s) := by
  unfold handStatus
  have tested := crashTest_kept h
  dsimp only
  generalize crashTest s = t at tested ⊢
  split
  · exact tested
  · next op present =>
    split
    · exact tested
    · next steps marks =>
      have free := tested.free present
      have counted (q : Q) : op.remaining - 1 = notEnded steps := by
        rw [markStep_count marks ended, (tested.sound q).counted op present]
      split
      · exact abort_kept _ (kept_mk.mpr (keptOf_active tested free counted))
      · exact keepOrEnd_kept tested free counted

theorem outcomeStatus_ended {outcome : MotionOutcome} {status : StepStatus} (h : outcomeStatus outcome = some status) :
    stepEnded status = true := by
  cases outcome <;> cases h <;> rfl

@[simp] theorem handOutcome_kept (origin : Option Origin) (w : WindowId) (outcome : MotionOutcome) (h : Kept P Q s) :
    Kept P Q (handOutcome origin w outcome s) := by
  unfold handOutcome
  split
  · split
    · next given => exact handStatus_kept w (outcomeStatus_ended given) h
    · exact h
  · exact h

@[simp] theorem endMotion_kept (w : WindowId) (outcome : MotionOutcome) (h : Kept P Q s) :
    Kept P Q (endMotion w outcome s) := by
  unfold endMotion
  dsimp only
  split <;> simp [h]

@[simp] theorem refuseWindow_kept (w : WindowId) (origin : Option Origin) (cause : WindowRefusal) (h : Kept P Q s) :
    Kept P Q (refuseWindow w origin cause s) := by
  have written : Kept P Q (setWindow w { window s w with lastRefusal := some cause } s) :=
    setWindow_kept h (.inl le_rfl)
  unfold refuseWindow
  dsimp only
  split
  · exact handStatus_kept w rfl written
  · exact written

@[simp] theorem completeAtOnce_kept (r : WindowRequest) (h : Kept P Q s) : Kept P Q (completeAtOnce r s) := by
  unfold completeAtOnce
  exact handOutcome_kept _ _ _ (setWindow_kept (endMotion_kept _ _ h) (.inl le_rfl))

/-- A motion record changed in nothing that `Kept` reads but its windows. -/
theorem setWindow_motion_kept {w : WindowId} {x : Window} {m : Motion} (h : Kept P Q s)
    (le : x.position ≤ (window s w).position) (slots : m.slots = s.motion.slots) :
    Kept P Q { setWindow w x s with motion := m } :=
  kept_mk.mpr (keptOf_slots (setWindow_kept h (.inl le)) (.inl (by simp [slots])))

@[simp] theorem placeRequest_kept (r : WindowRequest) (dir : Direction) (h : Kept P Q s) :
    Kept P Q (placeRequest r dir s) := by
  unfold placeRequest
  dsimp only
  split
  · exact handOutcome_kept _ _ _ (setWindow_motion_kept h (by simp) (by simp))
  · split
    · simp [h]
    · exact setWindow_motion_kept h (by simp) (by simp)

@[simp] theorem acceptRequest_kept (r : WindowRequest) (h : Kept P Q s) : Kept P Q (acceptRequest r s) := by
  unfold acceptRequest
  dsimp only
  split <;> simp [h]

@[simp] theorem checkRequest_kept (r : WindowRequest) (h : Kept P Q s) : Kept P Q (checkRequest r s) := by
  unfold checkRequest
  dsimp only
  (repeat' split) <;> simp [h]

@[simp] theorem requestMotion_kept (r : WindowRequest) (h : Kept P Q s) : Kept P Q (requestMotion r s) := by
  unfold requestMotion
  split <;> simp [h]

@[simp] theorem stopWindow_kept (w : WindowId) (h : Kept P Q s) : Kept P Q (stopWindow w s) := by
  unfold stopWindow
  dsimp only
  (repeat' split) <;> simp [h]

@[simp] theorem clearNormalized_kept (w : WindowId) (h : Kept P Q s) : Kept P Q (clearNormalized w s) := by
  unfold clearNormalized
  split
  · simp [h]
  · exact setWindow_kept (endMotion_kept _ _ h) (.inr le_rfl)

@[simp] theorem endIfReached_kept (w : WindowId) (h : Kept P Q s) : Kept P Q (endIfReached w s) := by
  unfold endIfReached
  dsimp only
  (repeat' split) <;> simp [h]

@[simp] theorem followLimit_kept (before : State) (w : WindowId) (h : Kept P Q s) :
    Kept P Q (followLimit before w s) := by
  unfold followLimit
  split <;> simp [h]

@[simp] theorem followInhibit_kept (before : State) (w : WindowId) (h : Kept P Q s) :
    Kept P Q (followInhibit before w s) := by
  unfold followInhibit
  dsimp only
  (repeat' split) <;> simp [h]

@[simp] theorem followSettings_kept (before : State) (h : Kept P Q s) : Kept P Q (followSettings before s) :=
  foldl_kept h fun _ _ hu => followInhibit_kept _ _ (followLimit_kept _ _ hu)

@[simp] theorem press_kept (w : WindowId) (origin : Origin) (level : Switch) (h : Kept P Q s) :
    Kept P Q (press w origin level s) := by
  unfold press
  dsimp only
  (repeat' split) <;> simp [h]

@[simp] theorem releaseSwitch_kept (w : WindowId) (origin : Origin) (h : Kept P Q s) :
    Kept P Q (releaseSwitch w origin s) := by
  unfold releaseSwitch
  split <;> simp [h]

@[simp] theorem makeAuto_kept (w : WindowId) (origin : Origin) (dir : Direction) (h : Kept P Q s) :
    Kept P Q (makeAuto w origin dir s) := by
  unfold makeAuto
  dsimp only
  (repeat' split) <;> simp [h]

@[simp] theorem pressUnder_kept (w : WindowId) (origin : Origin) (level other : Switch) (h : Kept P Q s) :
    Kept P Q (pressUnder w origin level other s) := by
  unfold pressUnder
  (repeat' split) <;> simp [h]

@[simp] theorem interpretEdge_kept (w : WindowId) (origin : Origin) (old new other : Switch) (h : Kept P Q s) :
    Kept P Q (interpretEdge w origin old new other s) := by
  unfold interpretEdge
  (repeat' split) <;> simp [h]

@[simp] theorem switchEdge_kept (w : WindowId) (origin : Origin) (old new other : Switch) (h : Kept P Q s) :
    Kept P Q (switchEdge w origin old new other s) := by
  unfold switchEdge
  dsimp only
  (repeat' split) <;> simp [h]

@[simp] theorem clearSuppressed_kept (w : WindowId) (level : Switch) (h : Kept P Q s) :
    Kept P Q (clearSuppressed w level s) := by
  unfold clearSuppressed
  split <;> simp [h]

@[simp] theorem endHonouring_kept (h : Kept P Q s) : Kept P Q (endHonouring s) :=
  foldl_kept h fun _ _ hu => by dsimp only; split <;> simp [hu]

@[simp] theorem dropRetained_kept (h : Kept P Q s) : Kept P Q (dropRetained s) := by
  unfold dropRetained
  dsimp only
  (repeat' split) <;> simp [h]

/-- A grant takes a free slot (R58). -/
theorem grant_kept (w : WindowId) (free : s.motion.slots.length < Config.motorSlots) (h : Kept P Q s) :
    Kept P Q (grant w s) := by
  unfold grant
  have rested : Kept P Q (setWindow w (heatRest s.now (window s w)) s) := by simp [h]
  have room : (setWindow w (heatRest s.now (window s w)) s).motion.slots.length < Config.motorSlots := free
  dsimp only
  generalize setWindow w (heatRest s.now (window s w)) s = t at rested room ⊢
  split
  · exact refuseWindow_kept _ _ _ (setWindow_motion_kept rested (by simp) rfl)
  · split
    · simp [rested]
    · exact kept_mk.mpr (keptOf_slots (setWindow_kept rested (.inl le_rfl)) (.inr (by simpa using room)))

@[simp] theorem runTimeOut_kept (w : WindowId) (h : Kept P Q s) : Kept P Q (runTimeOut w s) := by simp [h, runTimeOut]

@[simp] theorem normalize_kept (w : WindowId) (h : Kept P Q s) : Kept P Q (normalize w s) := by simp [h, normalize]

@[simp] theorem crashStop_kept (h : Kept P Q s) : Kept P Q (crashStop s) :=
  foldl_kept h fun _ _ hu => by dsimp only; split <;> simp [hu]

@[simp] theorem windowLost_kept (w : WindowId) (h : Kept P Q s) : Kept P Q (windowLost w s) := by simp [h, windowLost]

@[simp] theorem windowRecovered_kept (w : WindowId) (h : Kept P Q s) :
    Kept P Q (windowRecovered w s) := by simp [h, windowRecovered]

@[simp] theorem windowForcedOff_kept (w : WindowId) (h : Kept P Q s) :
    Kept P Q (windowForcedOff w s) := by simp [h, windowForcedOff]

@[simp] theorem windowOvertemp_kept (w : WindowId) (flag : Bool) (h : Kept P Q s) :
    Kept P Q (windowOvertemp w flag s) := by
  unfold windowOvertemp
  split <;> simp [h]

/-- ISSUED is as open as PENDING (R129). -/
theorem notEnded_issued (w : WindowId) (steps : List OpStep) :
    notEnded (steps.map fun x => if x.window == w && x.status == .pending then { x with status := .issued } else x) =
      notEnded steps := by
  unfold notEnded
  rw [List.countP_map]
  refine List.countP_congr fun x _ => ?_
  dsimp only [Function.comp]
  split
  · next waits =>
    obtain ⟨_, pending⟩ : x.window = w ∧ x.status = .pending := by simpa using waits
    simp [pending, stepEnded]
  · rfl

@[simp] theorem markIssued_kept (w : WindowId) (h : Kept P Q s) : Kept P Q (markIssued w s) := by
  unfold markIssued
  split
  · exact h
  · next op present =>
    refine kept_mk.mpr (keptOf_active h (h.free present) fun q => ?_)
    rw [notEnded_issued]
    exact (h.sound q).counted op present

@[simp] theorem issueStep_kept (source : OpSource) (step : StepSpec) (h : Kept P Q s) :
    Kept P Q (issueStep source step s) := by
  unfold issueStep
  dsimp only
  split
  · exact handStatus_kept _ rfl h
  · simp [h]

theorem offerNotice_group (data : List Byte) (s : State) : (offerNotice data s).group = s.group := by
  simpa [lessTraffic] using congrArg State.group (offerNotice_rest data s)

theorem stopForEngine_group (w : WindowId) (s : State) : (stopForEngine w s).group = s.group := by
  have noted : (activity s).group = s.group := by
    unfold activity recomputeIdle
    split <;> rfl
  unfold stopForEngine endMotionRecord endWaiting endRunning
  dsimp only
  (repeat' split) <;> simp [noted]

theorem foldl_group {α : Type} {f : State → α → State} (h : ∀ u a, (f u a).group = u.group) (l : List α) (s : State) :
    (l.foldl f s).group = s.group := by
  induction l generalizing s with
  | nil => rfl
  | cons a l ih => exact (ih (f s a)).trans (h s a)

/-- An abort touches no record of the lock group. -/
theorem abort_group (cause : AbortCause) (s : State) : (abort cause s).group = s.group := by
  unfold abort endOperation
  split
  · rfl
  · rw [offerNotice_group]
    exact foldl_group (fun _ _ => stopForEngine_group _ _) _ _

theorem offerNotice_op (data : List Byte) (s : State) : (offerNotice data s).op = s.op := by
  simpa [lessTraffic] using congrArg State.op (offerNotice_rest data s)

/-- No operation is present after an abort (R134). -/
theorem abort_inactive (cause : AbortCause) (s : State) : (abort cause s).op.active = none := by
  unfold abort endOperation
  split
  · assumption
  · rw [offerNotice_op]

/-- A record as it starts counts every step, all of them PENDING (R131). -/
theorem newOperation_counts (i : Nat) (d : Descriptor) (source : OpSource) (now : Nat) :
    (newOperation i d source now).remaining = notEnded (newOperation i d source now).steps := by
  simp [newOperation, notEnded, List.countP_map, Function.comp_def, stepEnded]

/-- A start that is taken while no crash hold is set (R130 A, R131). -/
theorem takeStart_kept (i : Nat) (d : Descriptor) (source : OpSource) (free : s.group.crashHold = none)
    (h : Kept P Q s) : Kept P Q (takeStart i d source s) := by
  unfold takeStart
  refine foldl_kept (kept_mk.mpr (keptOf_active (abort_kept _ h) (fun _ => ?_) fun _ => newOperation_counts _ _ _ _))
    fun _ _ hu => issueStep_kept _ _ hu
  rw [abort_group, free]

theorem decideStart_started {i : Nat} {d : Descriptor} {source : OpSource} (h : decideStart i d source s = .started) :
    s.group.crashHold = none := by
  unfold decideStart at h
  split at h
  · cases h
  · next free => simpa using free

theorem moveLease_counts (now : Nat) (op : ActiveOp) :
    (moveLease now op).remaining = op.remaining ∧ (moveLease now op).steps = op.steps := by
  unfold moveLease
  split <;> exact ⟨rfl, rfl⟩

theorem moveLease_kept {op : ActiveOp} (h : Kept P Q s) (present : s.op.active = some op) (now : Nat) :
    Kept P Q { s with op := { s.op with active := some (moveLease now op) } } := by
  refine kept_mk.mpr (keptOf_active h (h.free present) fun q => ?_)
  rw [(moveLease_counts now op).1, (moveLease_counts now op).2]
  exact (h.sound q).counted op present

@[simp] theorem startOperation_kept (i : Nat) (source : OpSource) (h : Kept P Q s) :
    Kept P Q (startOperation i source s) := by
  unfold startOperation
  split
  · exact h
  · split
    · exact h
    · next d _ =>
      have tested : Kept P Q (crashTest (activity s)) := by simp [h]
      dsimp only
      generalize crashTest (activity s) = t at tested ⊢
      split
      · next started => exact takeStart_kept _ _ _ (decideStart_started started) (by simp [tested])
      · cases present : t.op.active with
        | none => simpa [present] using keptOf_inactive tested
        | some op => simpa [present] using moveLease_kept tested present t.now
      · simp [tested]

@[simp] theorem renewLease_kept (fob i : Nat) (h : Kept P Q s) : Kept P Q (renewLease fob i s) := by
  unfold renewLease
  have tested := crashTest_kept h
  dsimp only
  generalize crashTest s = t at tested ⊢
  split
  · exact tested
  · next op present =>
    split
    · exact moveLease_kept tested present t.now
    · exact tested

@[simp] theorem cancelOperation_kept (h : Kept P Q s) : Kept P Q (cancelOperation s) := by
  unfold cancelOperation
  split
  · exact abort_kept _ (crashTest_kept (activity_kept h))
  · exact h

@[simp] theorem actuateClosure_kept (kind : LockKind) (source : LockSource) (c : Closure) (h : Kept P Q s) :
    Kept P Q (actuateClosure kind source c s) := by simp [h, actuateClosure]

@[simp] theorem crashClosure_kept (c : Closure) (h : Kept P Q s) :
    Kept P Q (crashClosure c s) := by simp [h, crashClosure]

@[simp] theorem setTimed_kept (pattern : Pattern) (time : Nat) (h : Kept P Q s) :
    Kept P Q (setTimed pattern time s) := by simp [h, setTimed]

@[simp] theorem dropSteady_kept (h : Kept P Q s) : Kept P Q (dropSteady s) := by
  unfold dropSteady
  (repeat' split) <;> simp [h]

@[simp] theorem refuseLock_kept (cause : LockRefusal) (h : Kept P Q s) : Kept P Q (refuseLock cause s) := by
  unfold refuseLock
  split <;> simp [h]

@[simp] theorem actuate_kept (r : LockRequest) (h : Kept P Q s) : Kept P Q (actuate r s) := by
  unfold actuate
  refine foldl_kept ?_ fun _ _ hu => actuateClosure_kept _ _ _ hu
  split <;> simp [h, consumeToken]

@[simp] theorem takeRequest_kept (r : LockRequest) (h : Kept P Q s) : Kept P Q (takeRequest r s) := by
  unfold takeRequest
  split <;> simp [h]

@[simp] theorem checkRelease_kept (h : Kept P Q s) : Kept P Q (checkRelease s) := by
  unfold checkRelease
  dsimp only
  (repeat' split) <;> simp [h]

@[simp] theorem releaseTailgate_kept (h : Kept P Q s) : Kept P Q (releaseTailgate s) := by
  unfold releaseTailgate
  split <;> simp [h]

@[simp] theorem startRelock_kept (f : InFlight) (h : Kept P Q s) : Kept P Q (startRelock f s) := by
  unfold startRelock
  dsimp only
  (repeat' split) <;> simp [h]

@[simp] theorem completeItems_kept (f : InFlight) (h : Kept P Q s) : Kept P Q (completeItems f s) := by
  unfold completeItems
  dsimp only
  (repeat' split) <;> simp [h]

@[simp] theorem takePending_kept (h : Kept P Q s) : Kept P Q (takePending s) := by
  unfold takePending
  (repeat' split) <;> simp [h]

@[simp] theorem completeOne_kept (h : Kept P Q s) : Kept P Q ((completeOne s).1) := by
  unfold completeOne
  (repeat' split) <;> simp [h]

@[simp] theorem followGroup_kept (h : Kept P Q s) : Kept P Q (followGroup s) := by
  have taken : Kept P Q (completeOne (takePending (completeOne s).1)).1 :=
    completeOne_kept (takePending_kept (completeOne_kept h))
  unfold followGroup
  dsimp only
  (repeat' split) <;> simp [taken]

/-- An abort makes the engine sound whatever went before it (R134, R137). -/
theorem kept_of_abort {cause : AbortCause} (h : Kept P False s) : Kept P Q (abort cause s) :=
  ⟨(abort_kept cause h).bounded, fun _ => ⟨fun _ => abort_inactive _ _, fun _ present => by simp [abort_inactive] at present⟩⟩

theorem Kept.holding (h : Kept P False s) (hold : Option Nat) :
    KeptOf P False s.group.tokens hold s.tx s.trap.held s.pass s.motion.slots s.windows s.cfg.windows s.op.active :=
  { kept_fold.mpr h with stopped := False.elim }

/-- A crash unlock sets the hold, and aborts what runs before anything else reads the engine (R19, R137). -/
@[simp] theorem takeCrash_kept (h : Kept P Q s) : Kept P Q (takeCrash s) := by
  have limits : Kept P False s := ⟨h.bounded, False.elim⟩
  unfold takeCrash
  refine followGroup_kept (crashStop_kept (kept_of_abort ?_))
  exact foldl_kept (dropSteady_kept (kept_mk.mpr (limits.holding _))) fun _ _ hu => crashClosure_kept _ hu

@[simp] theorem mergeOrWait_kept (r : LockRequest) (h : Kept P Q s) : Kept P Q (mergeOrWait r s) := by
  unfold mergeOrWait
  (repeat' split) <;> simp [h]

@[simp] theorem placeLock_kept (r : LockRequest) (h : Kept P Q s) : Kept P Q (placeLock r s) := by
  unfold placeLock
  (repeat' split) <;> simp [h]

@[simp] theorem arriveLock_kept (r : LockRequest) (h : Kept P Q s) : Kept P Q (arriveLock r s) := by
  have woken : Kept P Q (wake .request (activity s)) := wake_kept _ (activity_kept h)
  unfold arriveLock
  (repeat' split) <;> simp [h, woken]

@[simp] theorem latchChanged_kept (c : Closure) (old new : Latch) (h : Kept P Q s) :
    Kept P Q (latchChanged c old new s) := by
  have ajar : Kept P Q
      (let t := setClosure c { closure s c with openedSinceUnlock := true } s
       { t with group := { t.group with relockTimer := none, driveAwayArmed := true } }) := by
    simp [h]
  unfold latchChanged
  have told := ite_kept (c := c == .fl || c == .fr) (dropRetained_kept ajar) ajar
  have first := ite_kept (c := new == .ajar) told h
  have second := ite_kept (c := old == .unknown || new == .unknown) first (activity_kept first)
  have third := ite_kept (c := old == .ajar || new == .ajar) (recomputeIdle_kept second) second
  exact ite_kept h (ite_kept (wake_kept _ third) third)

@[simp] theorem lockReport_kept (c : Closure) (rep : Report) (recovery : Bool) (h : Kept P Q s) :
    Kept P Q (lockReport c rep recovery s) := by simp [h, lockReport]

@[simp] theorem lockLost_kept (c : Closure) (h : Kept P Q s) : Kept P Q (lockLost c s) := by simp [h, lockLost]

@[simp] theorem driveExpired_kept (c : Closure) (h : Kept P Q s) :
    Kept P Q (driveExpired c s) := by simp [h, driveExpired]

@[simp] theorem settleExpired_kept (c : Closure) (h : Kept P Q s) : Kept P Q (settleExpired c s) := by
  have stood (k : ClosureLock) : Kept P Q (setTimed .fast 10000 (raise .lockFault (some c) (setClosure c k s))) :=
    setTimed_kept _ _ (raise_kept _ _ (setClosure_kept _ _ h))
  unfold settleExpired
  dsimp only
  (repeat' split) <;> simp [h, stood]

@[simp] theorem relockExpired_kept (restore : LockTarget) (h : Kept P Q s) :
    Kept P Q (relockExpired restore s) := by simp [h, relockExpired]

@[simp] theorem speedUpdate_kept (old : Nat) (oldFresh : Bool) (h : Kept P Q s) :
    Kept P Q (speedUpdate old oldFresh s) := by
  unfold speedUpdate
  dsimp only
  (repeat' split) <;> simp [h]

@[simp] theorem lockIgnitionOn_kept (h : Kept P Q s) : Kept P Q (lockIgnitionOn s) := by
  unfold lockIgnitionOn
  refine kept_mk.mpr (keptOf_hold h ?_)
  split
  · split <;> simp [*]
  · simp

@[simp] theorem refuseKeyInside_kept (h : Kept P Q s) : Kept P Q (refuseKeyInside s) := by simp [h, refuseKeyInside]

@[simp] theorem actuateChild_kept (d : RearDoor) (h : Kept P Q s) :
    Kept P Q (actuateChild d s) := by simp [h, actuateChild]

@[simp] theorem aimChild_kept (target : ChildTarget) (d : RearDoor) (h : Kept P Q s) :
    Kept P Q (aimChild target d s) := by
  unfold aimChild
  dsimp only
  (repeat' split) <;> simp [h]

@[simp] theorem setChildTargets_kept (target : ChildTarget) (doors : List RearDoor) (h : Kept P Q s) :
    Kept P Q (setChildTargets target doors s) :=
  followSettings_kept _ (foldl_kept h fun _ _ hu => aimChild_kept _ _ hu)

@[simp] theorem childSetTarget_kept (d : RearDoor) (target : ChildTarget) (h : Kept P Q s) :
    Kept P Q (childSetTarget d target s) := by
  unfold childSetTarget
  split <;> simp [h]

@[simp] theorem childToggle_kept (h : Kept P Q s) : Kept P Q (childToggle s) := by
  unfold childToggle
  split <;> simp [h]

@[simp] theorem childReport_kept (d : RearDoor) (sensed : ChildSensed) (h : Kept P Q s) :
    Kept P Q (childReport d sensed s) := by simp [h, childReport]

@[simp] theorem childLost_kept (d : RearDoor) (h : Kept P Q s) : Kept P Q (childLost d s) := by simp [h, childLost]

@[simp] theorem childSettleExpired_kept (d : RearDoor) (h : Kept P Q s) : Kept P Q (childSettleExpired d s) := by
  unfold childSettleExpired
  dsimp only
  (repeat' split) <;> simp [h]

@[simp] theorem setLockout_kept (flag : Bool) (h : Kept P Q s) :
    Kept P Q (setLockout flag s) := by simp [h, setLockout]

@[simp] theorem setFob_kept (i : Nat) (f : Fob) (h : Kept P Q s) : Kept P Q (setFob i f s) := by simp [h, setFob]

@[simp] theorem setFobRun_kept (i : Nat) (r : FobRun) (h : Kept P Q s) :
    Kept P Q (setFobRun i r s) := by simp [h, setFobRun]

@[simp] theorem setHold_kept (hold : Option Hold) (h : Kept P Q s) : Kept P Q (setHold hold s) := by simp [setHold, h]

@[simp] theorem noteTelegram_kept (t : Telegram) (i : Option Nat) (result : TelegramResult) (h : Kept P Q s) :
    Kept P Q (noteTelegram t i result s) := by simp [h, noteTelegram]

@[simp] theorem fobLock_kept (kind : LockKind) (releaseAfter : Bool) (h : Kept P Q s) :
    Kept P Q (fobLock kind releaseAfter s) := by
  simp [h, fobLock]

@[simp] theorem lockPress_kept (i : Nat) (h : Kept P Q s) : Kept P Q (lockPress i s) := by simp [h, lockPress]

@[simp] theorem unlockPress_kept (i : Nat) (h : Kept P Q s) : Kept P Q (unlockPress i s) := by
  unfold unlockPress
  split <;> simp [h]

@[simp] theorem pressButton_kept (i : Nat) (button : Button) (h : Kept P Q s) :
    Kept P Q (pressButton i button s) := by
  unfold pressButton
  split <;> simp [h]

@[simp] theorem acceptPress_kept (i : Nat) (t : Telegram) (h : Kept P Q s) : Kept P Q (acceptPress i t s) :=
  pressButton_kept _ _ (wake_kept _ (activity_kept (setHold_kept _ (setFobRun_kept _ _ (setFob_kept _ _ h)))))

@[simp] theorem firstPress_kept (i : Nat) (t : Telegram) (h : Kept P Q s) : Kept P Q (firstPress i t s) := by
  unfold firstPress
  have noted (result : TelegramResult) : Kept P Q (noteTelegram t (some i) result s) := noteTelegram_kept _ _ _ h
  dsimp only
  split <;> simp [noted]

@[simp] theorem countRepeat_kept (i : Nat) (t : Telegram) (hold : Hold) (h : Kept P Q s) :
    Kept P Q (countRepeat i t hold s) := by
  have moved (x : Option Hold) (r : FobRun) :
      Kept P Q (setHold x (setFobRun i r (noteTelegram t (some i) .repeatCounted s))) :=
    setHold_kept _ (setFobRun_kept _ _ (noteTelegram_kept _ _ _ h))
  unfold countRepeat
  dsimp only
  (repeat' split) <;> simp [moved]

@[simp] theorem repeatTelegram_kept (i : Nat) (t : Telegram) (h : Kept P Q s) : Kept P Q (repeatTelegram i t s) := by
  unfold repeatTelegram
  (repeat' split) <;> simp [h]

@[simp] theorem takeTelegram_kept (t : Telegram) (h : Kept P Q s) : Kept P Q (takeTelegram t s) := by
  unfold takeTelegram
  (repeat' split) <;> simp [h]

@[simp] theorem setSlot_kept (n : Nat) (x : Option SearchSlot) (h : Kept P Q s) :
    Kept P Q (setSlot n x s) := by simp [h, setSlot]

@[simp] theorem closeSlot_kept (n : Nat) (x : SearchSlot) (outcome : SearchOutcome) (who : Option Nat) (h : Kept P Q s) :
    Kept P Q (closeSlot n x outcome who s) := by
  unfold closeSlot
  split <;> simp [h]

@[simp] theorem openSlot_kept (n : Nat) (c : Closure) (p : Purpose) (trigger : Trigger) (h : Kept P Q s) :
    Kept P Q (openSlot n c p trigger s) :=
  wake_kept _ (activity_kept (offer_kept _ (setSlot_kept _ _ (by simp [h]))))

@[simp] theorem touch_kept (c : Closure) (p : Purpose) (trigger : Trigger) (h : Kept P Q s) :
    Kept P Q (touch c p trigger s) := by
  unfold touch
  (repeat' split) <;> simp [h]

@[simp] theorem releaseButton_kept (trigger : Trigger) (h : Kept P Q s) : Kept P Q (releaseButton trigger s) := by
  unfold releaseButton
  split <;> simp [h]

@[simp] theorem handleEvents_kept (c : Closure) (rep : Report) (h : Kept P Q s) :
    Kept P Q (handleEvents c rep s) := by
  unfold handleEvents
  (repeat' split) <;> simp [h]

@[simp] theorem searchOutcome_kept (n : Nat) (x : SearchSlot) (outside inside : Nat) (h : Kept P Q s) :
    Kept P Q (searchOutcome n x outside inside s) := by
  unfold searchOutcome
  split <;> simp [h]

@[simp] theorem takeResponse_kept (r : SearchResponse) (h : Kept P Q s) : Kept P Q (takeResponse r s) := by
  unfold takeResponse
  (repeat' split) <;> simp [h]

@[simp] theorem closeAllSlots_kept (h : Kept P Q s) : Kept P Q (closeAllSlots s) :=
  foldl_kept h fun _ _ hu => by split <;> simp [hu]

@[simp] theorem lineTouch_kept (c : Closure) (before : OpState) (h : Kept P Q s) :
    Kept P Q (lineTouch c before s) := by
  unfold lineTouch
  (repeat' split) <;> simp [h]

@[simp] theorem detect_kept (line : WakeLine) (h : Kept P Q s) : Kept P Q (detect line s) := by
  have pending : Kept P Q { s with lines := s.lines.set line { s.lines.get line with pending := true } } := by
    simp [h]
  unfold detect
  dsimp only
  split
  · split
    · exact wake_activity_kept _ pending
    · exact lineTouch_kept _ _ (wake_activity_kept _ pending)
  · exact pending

@[simp] theorem judgeLevel_kept (line : WakeLine) (h : Kept P Q s) : Kept P Q (judgeLevel line s) := by
  unfold judgeLevel
  split <;> simp [h]

@[simp] theorem lineLevel_kept (line : WakeLine) (level : Level) (h : Kept P Q s) :
    Kept P Q (lineLevel line level s) := by
  unfold lineLevel
  dsimp only
  (repeat' split) <;> simp [h]

@[simp] theorem clearWakeLine_kept (line : WakeLine) (h : Kept P Q s) : Kept P Q (clearWakeLine line s) := by
  unfold clearWakeLine
  dsimp only
  (repeat' split) <;> simp [h]

@[simp] theorem countHit_kept (i : Nat) (h : Kept P Q s) : Kept P Q (countHit i s) := by simp [h, countHit]

@[simp] theorem writeSpeed_kept (value : Nat) (h : Kept P Q s) : Kept P Q (writeSpeed value s) := by
  unfold writeSpeed
  dsimp only
  (repeat' split) <;> simp [h]

@[simp] theorem writeVoltage_kept (value : Nat) (h : Kept P Q s) :
    Kept P Q (writeVoltage value s) := by simp [h, writeVoltage]

@[simp] theorem passTo_kept (f : PassFrame) (c : Closure) (h : Kept P Q s) : Kept P Q (passTo f c s) := by
  unfold passTo
  split
  · exact h
  · split
    · next room => exact kept_mk.mpr (keptOf_pass h (.inr (by simpa using room)))
    · exact raise_kept _ _ h

@[simp] theorem passFrame_kept (mask : Nat) (f : PassFrame) (h : Kept P Q s) : Kept P Q (passFrame mask f s) := by
  unfold passFrame
  split
  · exact foldl_kept h fun _ _ hu => passTo_kept _ _ hu
  · exact h

@[simp] theorem trapFrame_kept (i : Nat) (id : CanId) (data : List Byte) (h : Kept P Q s) :
    Kept P Q (trapFrame i id data s) := by
  unfold trapFrame
  split
  · exact h
  · split
    · exact raise_kept _ _ h
    · next room =>
      exact offerNotice_kept _ (kept_mk.mpr (keptOf_held h (.inr (by simpa using Nat.lt_of_not_ge room))))

@[simp] theorem ruleRequest_kept (r : Rule) (data : List Byte) (h : Kept P Q s) :
    Kept P Q (ruleRequest r data s) := by
  unfold ruleRequest
  dsimp only
  split
  · exact arriveLock_kept _ h
  · split
    · exact releaseTailgate_kept h
    · exact foldl_kept h fun _ _ hu => requestMotion_kept _ hu
    · exact foldl_kept h fun _ _ hu => stopWindow_kept _ hu
    · exact startOperation_kept _ _ h
    · exact cancelOperation_kept h
    · exact h

@[simp] theorem handFlags_kept (r : Rule) (h : Kept P Q s) : Kept P Q (handFlags r s) := by
  unfold handFlags
  (repeat' split) <;> simp [h]

@[simp] theorem performAction_kept (i : Nat) (r : Rule) (id : CanId) (data : List Byte) (h : Kept P Q s) :
    Kept P Q (performAction i r id data s) := by
  unfold performAction
  (repeat' split) <;> simp [h]

@[simp] theorem defaultDisposition_kept (id : CanId) (data : List Byte) (h : Kept P Q s) :
    Kept P Q (defaultDisposition id data s) := by
  unfold defaultDisposition
  dsimp only
  (repeat' split) <;> simp [h]

@[simp] theorem matchFrame_kept (start : Nat) (id : CanId) (data : List Byte) (h : Kept P Q s) :
    Kept P Q (matchFrame start id data s) := by
  unfold matchFrame
  split
  · exact performAction_kept _ _ _ _ (handFlags_kept _ (countHit_kept _ h))
  · exact defaultDisposition_kept _ _ h

@[simp] theorem freeTrap_kept (ticket : Nat) (h : Kept P Q s) : Kept P Q (freeTrap ticket s) :=
  kept_mk.mpr (keptOf_held h (.inl (List.length_filter_le _ _)))

@[simp] theorem releaseFrame_kept (f : HeldFrame) (h : Kept P Q s) :
    Kept P Q (releaseFrame f s) := by simp [h, releaseFrame]

@[simp] theorem expireFrame_kept (f : HeldFrame) (h : Kept P Q s) :
    Kept P Q (expireFrame f s) := by simp [h, expireFrame]

theorem markStarted_length (id : CanId) (q : List TxFrame) : (markStarted id q).length = q.length := by
  induction q with
  | nil => rfl
  | cons f rest ih =>
    unfold markStarted
    split <;> simp [ih]

@[simp] theorem beginTransmission_kept (h : Kept P Q s) : Kept P Q (beginTransmission s) := by
  unfold beginTransmission
  split
  · split
    · exact kept_mk.mpr (keptOf_tx h (.inl (markStarted_length _ _).le))
    · exact h
  · exact h

@[simp] theorem acknowledge_kept (h : Kept P Q s) : Kept P Q (acknowledge s) :=
  kept_mk.mpr (keptOf_tx h (.inl (List.length_filter_le _ _)))

@[simp] theorem abandonAttempt_kept (h : Kept P Q s) : Kept P Q (abandonAttempt s) := by simp [h, abandonAttempt]

@[simp] theorem enterSilent_kept (h : Kept P Q s) : Kept P Q (enterSilent s) := by simp [h, enterSilent]

@[simp] theorem takePinch_kept (w : WindowId) (cause : PinchCause) (zone current : Nat) (h : Kept P Q s) :
    Kept P Q (takePinch w cause zone current s) := by
  unfold takePinch
  exact raiseWith_kept _ _ _ (handOutcome_kept _ _ _ (setWindow_kept h (.inl (by simp))))

@[simp] theorem setProfile_kept (w : WindowId) (profile : List Nat) (h : Kept P Q s) :
    Kept P Q (setProfile w profile s) := by simp [h, setProfile]

@[simp] theorem endStop_kept (w : WindowId) (h : Kept P Q s) : Kept P Q (endStop w s) := by
  unfold endStop
  refine endMotion_kept _ _ (setWindow_kept ?_ (.inl (Nat.zero_le _)))
  split
  · exact setProfile_kept _ _ h
  · exact h

@[simp] theorem carryOut_kept (w : WindowId) (zone current : Nat) (decision : Decision) (h : Kept P Q s) :
    Kept P Q (carryOut w zone current decision s) := by
  unfold carryOut
  split <;> simp [h]

@[simp] theorem closingReport_kept (w : WindowId) (d i : Nat) (h : Kept P Q s) :
    Kept P Q (closingReport w d i s) := by
  have moved {x : Window} (same : x.position = (integrate .up d (windowCfg s w).travel (window s w)).position) :
      Kept P Q (setWindow w x s) := setWindow_kept h (same ▸ integrate_position _ _ _ _)
  unfold closingReport
  refine endIfReached_kept _ (ite_kept (carryOut_kept _ _ _ _ (moved ?_)) (moved ?_))
  · rw [collectSample_position, debounceStep_position]
    split <;> simp
  · split <;> simp

@[simp] theorem openingReport_kept (w : WindowId) (d : Nat) (h : Kept P Q s) : Kept P Q (openingReport w d s) := by
  unfold openingReport
  have moved := setWindow_kept (w := w) h
    (show (countReport d (windowCfg s w).blanking
      (integrate .down d (windowCfg s w).travel (window s w))).position ≤ _ ∨ _ from integrate_position .down d _ _)
  exact ite_kept (endMotion_kept _ _ moved) (endIfReached_kept _ moved)

@[simp] theorem reversalReport_kept (w : WindowId) (d : Nat) (h : Kept P Q s) : Kept P Q (reversalReport w d s) := by
  unfold reversalReport
  have moved (n : Nat) := setWindow_kept (w := w)
    (x := { countReport d (windowCfg s w).blanking (integrate .down d (windowCfg s w).travel (window s w)) with
      reversalRipple := n }) h (by simpa using integrate_position .down d _ _)
  exact ite_kept (endRunning_kept _ _ (moved _)) (moved _)

@[simp] theorem coastReport_kept (w : WindowId) (dir : Direction) (d : Nat) (h : Kept P Q s) :
    Kept P Q (coastReport w dir d s) := setWindow_kept h (integrate_position _ _ _ _)

@[simp] theorem motorData_kept (w : WindowId) (d i : Nat) (h : Kept P Q s) : Kept P Q (motorData w d i s) := by
  unfold motorData
  dsimp only
  (repeat' split) <;> simp [h]

@[simp] theorem windowReport_kept (w : WindowId) (rep : Report) (h : Kept P Q s) :
    Kept P Q (windowReport w rep s) := by
  unfold windowReport
  refine motorData_kept _ _ _ (setWindow_kept h (.inl ?_))
  split <;> simp

@[simp] theorem idleForcedOff_kept (h : Kept P Q s) : Kept P Q (idleForcedOff s) := by
  refine kept_mk.mpr (keptOf_windows h fun w x => ?_)
  split <;> simp

theorem sense_kept (h : Kept P Q s) : Kept P Q (sense s) := by simp [h, sense]

@[simp] theorem enterRun_kept (h : Kept P Q s) : Kept P Q (enterRun s) := by
  unfold enterRun
  have entered : Kept P Q
      { s with
        stage := .run
        ctx := { s.ctx with state := .awake, ignition := ignitionOf s.pins.ign, lastWake := none } } := by simp [h]
  have offered := startStatus_kept (idleForcedOff_kept (chooseRates_kept (clearReported_kept (activity_kept entered))))
  exact offerNotice_kept _ (ite_kept (takeCrash_kept (by simp [offered])) offered)

@[simp] theorem pollCheck_kept (h : Kept P Q s) : Kept P Q (pollCheck s) := by
  unfold pollCheck
  exact ite_kept (enterRun_kept (sense_kept h)) h

@[simp] theorem lockSwitchEdge_kept (source : LockSource) (old new : LockSwitch) (h : Kept P Q s) :
    Kept P Q (lockSwitchEdge source old new s) := by
  unfold lockSwitchEdge
  split <;> simp [h]

@[simp] theorem childButtonEdge_kept (old new : Bool) (h : Kept P Q s) : Kept P Q (childButtonEdge old new s) := by
  unfold childButtonEdge
  split <;> simp [h]

@[simp] theorem lockoutButtonEdge_kept (old new : Bool) (h : Kept P Q s) :
    Kept P Q (lockoutButtonEdge old new s) := by
  unfold lockoutButtonEdge
  (repeat' split) <;> simp [h]

@[simp] theorem packEdges_kept (c : Closure) (old rep : Report) (h : Kept P Q s) :
    Kept P Q (packEdges c old rep s) :=
  lockSwitchEdge_kept _ _ _ (lockoutButtonEdge_kept _ _ (childButtonEdge_kept _ _ (lockSwitchEdge_kept _ _ _
    (foldl_kept h fun _ _ hu => switchEdge_kept _ _ _ _ _ hu))))

@[simp] theorem ownEdge_kept (c : Closure) (old rep : Report) (h : Kept P Q s) : Kept P Q (ownEdge c old rep s) := by
  unfold ownEdge
  split <;> simp [h]

@[simp] theorem takeEdges_kept (c : Closure) (old : Option Report) (rep : Report) (h : Kept P Q s) :
    Kept P Q (takeEdges c old rep s) := by
  have taken (o : Report) := ite_kept (c := running s)
    (ownEdge_kept c o rep (ite_kept (c := c == driverClosure s) (packEdges_kept c o rep h) h)) h
  unfold takeEdges
  cases old with
  | none => cases closureWindow c <;> simp [h]
  | some o => cases closureWindow c with
    | none => exact taken o
    | some w => exact clearSuppressed_kept _ _ (taken o)

@[simp] theorem takeFaults_kept (c : Closure) (old : Option Report) (rep : Report) (h : Kept P Q s) :
    Kept P Q (takeFaults c old rep s) := by
  unfold takeFaults
  (repeat' split) <;> simp [h]

@[simp] theorem takeUplink_kept (c : Closure) (rep : Report) (h : Kept P Q s) : Kept P Q (takeUplink c rep s) := by
  unfold takeUplink
  (repeat' split) <;> simp [h]

@[simp] theorem takeLocks_kept (c : Closure) (rep : Report) (recovery : Bool) (h : Kept P Q s) :
    Kept P Q (takeLocks c rep recovery s) := by
  have locked := lockReport_kept c rep recovery h
  unfold takeLocks
  refine followGroup_kept ?_
  cases closureRear c with
  | none => exact locked
  | some d => exact childReport_kept _ _ locked

@[simp] theorem takeMotor_kept (c : Closure) (rep : Report) (h : Kept P Q s) : Kept P Q (takeMotor c rep s) := by
  unfold takeMotor
  split <;> simp [h]

@[simp] theorem recoverNode_kept (c : Closure) (h : Kept P Q s) : Kept P Q (recoverNode c s) := by
  unfold recoverNode
  (repeat' split) <;> simp [h]

@[simp] theorem goodReport_kept (c : Closure) (rep : Report) (h : Kept P Q s) : Kept P Q (goodReport c rep s) := by
  have counted := recoverNode_kept c (setChannel_kept c (countGood rep (channel s c)) h)
  have moved (recovery : Bool) := takeMotor_kept c rep (takeLocks_kept c rep recovery counted)
  have seen (recovery : Bool) (old : Option Report) := takeEdges_kept c old rep (takeFaults_kept c old rep (moved recovery))
  have handled (recovery : Bool) (old : Option Report) := takeUplink_kept c rep (handleEvents_kept c rep (seen recovery old))
  exact pollCheck_kept (followGroup_kept (setChannel_kept _ _ (handled _ _)))

@[simp] theorem dropRelease_kept (c : Closure) (h : Kept P Q s) : Kept P Q (dropRelease c s) := by
  unfold dropRelease
  split <;> simp [h]

/-- A node declared LOST: its own records first, then the group, its window and its Pass Queue (R173). -/
@[simp] theorem declareLost_kept (c : Closure) (h : Kept P Q s) : Kept P Q (declareLost c s) := by
  have dropped (ch : Channel) := dropRelease_kept c (lockLost_kept c (setChannel_kept c ch h))
  have pass {t : State} (ht : Kept P Q t) : Kept P Q { t with pass := t.pass.set c [] } :=
    kept_mk.mpr (keptOf_pass ht (.inl (Nat.zero_le _)))
  have followed (ch : Channel) : Kept P Q
      (followGroup (match closureRear c with
        | some d => childLost d (dropRelease c (lockLost c (setChannel c ch s)))
        | none => dropRelease c (lockLost c (setChannel c ch s)))) := by
    refine followGroup_kept ?_
    cases closureRear c <;> simp [dropped]
  unfold declareLost
  refine raise_kept _ _ (pass ?_)
  cases closureWindow c with
  | none => exact followed _
  | some w => exact windowLost_kept _ (followed _)

@[simp] theorem missedReport_kept (c : Closure) (h : Kept P Q s) : Kept P Q (missedReport c s) := by
  unfold missedReport
  exact ite_kept (setChannel_kept _ _ h) (ite_kept (declareLost_kept _ (setChannel_kept _ _ h)) (setChannel_kept _ _ h))

@[simp] theorem cycleEnds_kept (c : Closure) (h : Kept P Q s) : Kept P Q (cycleEnds c s) := by
  have missed := ite_kept (c := (channel s c).answered) h (pollCheck_kept (missedReport_kept c h))
  exact ite_kept missed (sendDrive_kept _ missed)

@[simp] theorem handForcedOff_kept (c : Closure) (h : Kept P Q s) : Kept P Q (handForcedOff c s) := by
  have freed {t : State} (ht : Kept P Q t) : Kept P Q
      { t with
        pass := t.pass.set c []
        motion := { t.motion with slots := t.motion.slots.filter fun sl => windowClosure sl.window != c } } :=
    kept_mk.mpr (keptOf_slots (s := { t with pass := t.pass.set c [] })
      (kept_mk.mpr (keptOf_pass ht (.inl (Nat.zero_le _)))) (.inl (List.length_filter_le _ _)))
  unfold handForcedOff
  refine freed (followGroup_kept ?_)
  cases closureWindow c <;> cases closureRear c <;> simp only
  case none.none => exact setClosure_kept _ _ h
  case none.some => exact setChild_kept _ _ (setClosure_kept _ _ h)
  case some.none w => exact setClosure_kept _ _ (windowForcedOff_kept w h)
  case some.some w d => exact setChild_kept _ _ (setClosure_kept _ _ (windowForcedOff_kept w h))

@[simp] theorem setMode_kept (c : Closure) (mode : PowerMode) (h : Kept P Q s) : Kept P Q (setMode c mode s) := by
  unfold setMode
  dsimp only
  (repeat' split) <;> simp [h]

@[simp] theorem setCar_kept (c : CarSettings) (h : Kept P Q s) : Kept P Q (setCar c s) := by simp [h, setCar]

@[simp] theorem moveDeep_kept (h : Kept P Q s) : Kept P Q (moveDeep s) := by
  unfold moveDeep
  (repeat' split) <;> simp [h]

/-- The settings of a window changed, but not its travel. -/
theorem setWindowCfg_kept {w : WindowId} {x : WindowSettings} (h : Kept P Q s)
    (fits : P → (window s w).position ≤ x.travel) : Kept P Q (setWindowCfg w x s) := by
  refine kept_mk.mpr { kept_fold.mpr h with positions := fun p v => ?_ }
  by_cases same : v = w
  · subst same
    simpa [window] using fits p
  · simpa [window, windowCfg, Four.get_set_other same] using (h.bounded p).positions v

@[simp] theorem endHoldOf_kept (i : Nat) (h : Kept P Q s) : Kept P Q (endHoldOf i s) := by
  unfold endHoldOf
  (repeat' split) <;> simp [h]

@[simp] theorem barHoldOf_kept (i : Nat) (h : Kept P Q s) : Kept P Q (barHoldOf i s) := by
  unfold barHoldOf
  (repeat' split) <;> simp [h]

@[simp] theorem fobChanged_kept (i : Nat) (old new : Fob) (h : Kept P Q s) : Kept P Q (fobChanged i old new s) := by
  unfold fobChanged
  split
  · exact endHoldOf_kept _ (setFobRun_kept _ _ (setFob_kept _ _ h))
  · split
    · exact endHoldOf_kept _ (setFobRun_kept _ _ (setFob_kept _ _ h))
    · exact ite_kept (barHoldOf_kept _ (setFob_kept _ _ h)) (setFob_kept _ _ h)

@[simp] theorem setRule_kept (i : Nat) (new : Rule) (h : Kept P Q s) :
    Kept P Q (setRule i new s) := by simp [h, setRule]

@[simp] theorem setFrame_kept (f : FrameSettings) (h : Kept P Q s) : Kept P Q (setFrame f s) := by simp [h, setFrame]

@[simp] theorem clearFaults_kept (h : Kept P Q s) : Kept P Q (clearFaults s) := by simp [h, clearFaults]

theorem setRetained_kept (h : Kept P Q s) : Kept P Q (setRetained s) := by
  unfold setRetained
  exact ite_kept (endHonouring_kept h) (by simp [h])

@[simp] theorem ignitionChanged_kept (level : Ignition) (h : Kept P Q s) : Kept P Q (ignitionChanged level s) := by
  unfold ignitionChanged
  cases level with
  | run => exact wake_kept _ (dropRetained_kept (lockIgnitionOn_kept (activity_kept h)))
  | off => exact setRetained_kept (activity_kept h)

@[simp] theorem lineDetection_kept (line : WakeLine) (h : Kept P Q s) : Kept P Q (lineDetection line s) := by
  unfold lineDetection
  dsimp only
  (repeat' split) <;> simp [h]
end
end Sys2Proof.Machine
end

section
/-!
PROOFS. The limits and the soundness of the Operation Engine under WRITEs, management requests, start-up and every command;
the statements about a step.
-/

namespace Sys2Proof.Machine

section
variable {P Q : Prop} {s : State}

/-! ## Writes (R199) -/

/-- An answer of an owner that keeps both invariants. -/
def WriteKept (P Q : Prop) (a : WriteAnswer) : Prop := ∀ t, a = .ok t → Kept P Q t

@[simp] theorem writeKept_ok {t : State} : WriteKept P Q (.ok t) ↔ Kept P Q t := by simp [WriteKept]

@[simp] theorem writeKept_error (r : Result) : WriteKept P Q (.error r) := by simp [WriteKept]

theorem writeKept_inRange {t : State} {ok : Bool} (h : Kept P Q t) : WriteKept P Q (inRange ok t) := by
  unfold inRange
  split <;> simp [h]

theorem writeCar0_kept (v : Nat) (h : Kept P Q s) : WriteKept P Q (writeCar0 v s) :=
  writeKept_inRange (followSettings_kept _ (setCar_kept _ h))

theorem writeCar1_kept (v : Nat) (h : Kept P Q s) : WriteKept P Q (writeCar1 v s) :=
  writeKept_inRange (closeState_kept (moveDeep_kept (recomputeIdle_kept (setCar_kept _ h))))

/-- A WRITE of Travel puts P at the new travel; any other leaves travel as it is (R44). -/
theorem writeWindow0_kept (w : WindowId) (v : Nat) (h : Kept P Q s) : WriteKept P Q (writeWindow0 w v s) := by
  unfold writeWindow0
  dsimp only
  split
  · simp
  · refine writeKept_inRange (followLimit_kept _ _ ?_)
    split
    · next same => exact setWindowCfg_kept h fun p => by simpa [same] using (h.bounded p).positions w
    · refine kept_mk.mpr { kept_fold.mpr h with positions := fun p u => ?_ }
      by_cases here : u = w
      · subst here
        simp [travelChanged]
      · simpa [window, windowCfg, Four.get_set_other here] using (h.bounded p).positions u

/-- Settings of a window that leave its travel. -/
theorem setWindowCfg_same_kept {w : WindowId} {x : WindowSettings} (h : Kept P Q s)
    (same : x.travel = (windowCfg s w).travel) : Kept P Q (setWindowCfg w x s) :=
  setWindowCfg_kept h fun p => same ▸ (h.bounded p).positions w

theorem writeWindow3_kept (w : WindowId) (v : Nat) (h : Kept P Q s) : WriteKept P Q (writeWindow3 w v s) := by
  unfold writeWindow3
  split
  · simpa using h
  · exact writeKept_inRange (followLimit_kept _ _ (by simp [h]))

theorem writeMode_kept (c : Closure) (v : Nat) (h : Kept P Q s) : WriteKept P Q (writeMode c v s) := by
  unfold writeMode
  split <;> simp [h]

theorem writeClosureSettings_kept (index word v : Nat) (h : Kept P Q s) :
    WriteKept P Q (writeClosureSettings index word v s) := by
  have margins (w : WindowId) : WriteKept P Q (writeWindow1 w v s) :=
    writeKept_inRange (setWindowCfg_same_kept h rfl)
  have limits (w : WindowId) : WriteKept P Q (writeWindow2 w v s) :=
    writeKept_inRange (setWindowCfg_same_kept h rfl)
  unfold writeClosureSettings
  dsimp only
  (repeat' split) <;>
    simp [writeCar0_kept, writeCar1_kept, writeWindow0_kept, margins, limits, writeWindow3_kept, writeMode_kept, h]

theorem writeFob_kept (i : Nat) (new : Fob) (h : Kept P Q s) : WriteKept P Q (writeFob i new s) := by
  unfold writeFob
  split <;> simp [h]

theorem writeKeySettings_kept (v : Nat) (h : Kept P Q s) : WriteKept P Q (writeKeySettings v s) := by
  unfold writeKeySettings
  exact writeKept_inRange (ite_kept (closeAllSlots_kept (by simp [h])) (by simp [h]))

theorem writeFobs_kept (index word v : Nat) (h : Kept P Q s) : WriteKept P Q (writeFobs index word v s) := by
  unfold writeFobs
  dsimp only
  (repeat' split) <;> simp [writeFob_kept, writeKeySettings_kept, h]

theorem writeOperations_kept (index word v : Nat) (h : Kept P Q s) :
    WriteKept P Q (writeOperations index word v s) := by
  unfold writeOperations
  dsimp only
  (repeat' split) <;> simp [h]

theorem writeRules_kept (index word v : Nat) (h : Kept P Q s) : WriteKept P Q (writeRules index word v s) := by
  unfold writeRules writeRule0 writeFrameSettings
  dsimp only
  (repeat' split) <;> simp [writeKept_inRange, writeRule1, writeRule2, h]

theorem writeManagement_kept (index v : Nat) (h : Kept P Q s) : WriteKept P Q (writeManagement index v s) := by
  unfold writeManagement
  split
  · exact writeKept_inRange (by simp [h])
  · simp [writeReport, h]

theorem ownerWrite_kept (c : Cursor) (v : Nat) (h : Kept P Q s) : WriteKept P Q (ownerWrite c v s) := by
  unfold ownerWrite
  split
  · exact writeClosureSettings_kept c.index c.word v h
  · exact writeKept_inRange (setProfile_kept _ _ h)
  · exact writeFobs_kept c.index c.word v h
  · exact writeOperations_kept c.index c.word v h
  · exact writeRules_kept c.index c.word v h
  · exact writeKept_ok.mpr (judgeLevel_kept _ (by simp [h]))
  · exact writeManagement_kept c.index v h
  · simp

theorem writeAt_kept (c : Cursor) (v : Word) (h : Kept P Q s) : WriteKept P Q (writeAt c v s) := by
  unfold writeAt
  split
  · simp
  · split
    · simp
    · exact ownerWrite_kept c v.toNat h

/-! ## Requests (R198 to R208) -/

@[simp] theorem setCursor_kept (c : Cursor) (h : Kept P Q s) : Kept P Q (setCursor c s) := by simp [setCursor, h]

@[simp] theorem setMask_kept (m : Option Word) (h : Kept P Q s) : Kept P Q (setMask m s) := by simp [setMask, h]

theorem serveWrite_kept (value : Word) (h : Kept P Q s) : Kept P Q (serveWrite value s).state := by
  unfold serveWrite
  dsimp only
  split
  · simp [reply, h]
  · next t accepted => exact setCursor_kept _ (writeAt_kept _ _ (setMask_kept _ h) t accepted)

theorem serveClearNormalized_kept (code : Nat) (h : Kept P Q s) : Kept P Q (serveClearNormalized code s).state := by
  unfold serveClearNormalized
  split
  · exact foldl_kept h fun _ _ hu => clearNormalized_kept _ hu
  · split <;> simp [reply, h]

theorem serveRequest_kept (kind : RequestKind) (h : Kept P Q s) : Kept P Q (serveRequest kind s).state := by
  unfold serveRequest
  (repeat' split) <;> simp [reply, h, serveClearNormalized_kept]

/-- Every request but RESTART keeps both invariants. -/
theorem serve_kept (r : ManagementRequest) (h : Kept P Q s) : Kept P Q (serve r s).state := by
  cases r with
  | write v => exact serveWrite_kept v h
  | request kind => exact serveRequest_kept kind h
  | clearWake lines => exact foldl_kept h fun _ _ hu => clearWakeLine_kept _ hu
  | select | read | release | discard | save | protect =>
    simp only [serve, serveSelect, serveRead, serveRelease, serveDiscard, serveSave, serveProtect]
    split <;> simp [reply, h]
  | mask | faults | clearFaults | restart | status | unknown => simp [serve, reply, serveFaults, h]

@[simp] theorem answer_kept {r : ManagementRequest} {x : Reply} (h : Kept P Q x.state) : Kept P Q (answer r x) :=
  wake_activity_kept _ (offer_kept _ h)

/-! ## Start-up (R207, R210, R211) -/

/-- Without a supply nothing is held and no operation is present; P stands at the travel of the factory defaults. -/
theorem cold_kept (s : State) : Kept P Q (cold s) := by
  refine kept_mk.mpr ⟨fun _ => le_rfl, fun _ => Nat.zero_le _, fun _ => Nat.zero_le _, fun _ c => ?_,
    fun _ => Nat.zero_le _, fun _ w => ?_, fun _ _ => rfl, fun _ _ none => by cases none⟩
  · cases c <;> exact Nat.zero_le _
  · cases w <;> exact le_rfl

theorem loadStage_kept {kind : ResetKind} {tables : Tables} {t : State}
    (h : Kept P Q { t with cfg := tables }) : Kept P Q (loadStage kind tables s t) := by
  have loaded : KeptOf P Q t.group.tokens t.group.crashHold t.tx t.trap.held t.pass t.motion.slots t.windows
      tables.windows t.op.active := kept_mk.mp h
  unfold loadStage
  exact ite_kept (raise_kept _ _ (kept_mk.mpr loaded)) (kept_mk.mpr loaded)

theorem powerOn_kept (straps : Straps) : Kept P Q (powerOn straps s) := by
  refine loadStage_kept (kept_mk.mpr { kept_fold.mpr (cold_kept s) with positions := fun _ w => ?_ })
  simp [Window.reset]

/-- Across a restart P stays within the travel that the image gives (R44, R69). -/
theorem restartWindow_position {oldTravel travel now : Nat} {x : Window} (within : x.position ≤ oldTravel) :
    (restartWindow oldTravel travel now x).position ≤ travel := by
  unfold restartWindow unnormalize
  dsimp only
  split
  · next same =>
    subst same
    split
    · exact le_rfl
    · exact within
  · exact le_rfl

theorem restart_kept (h : Kept P Q s) : Kept P Q (restart s) := by
  refine loadStage_kept (kept_mk.mpr { kept_fold.mpr (cold_kept s) with
    tokens := fun p => (h.bounded p).tokens, positions := fun p w => ?_, stopped := fun _ _ => rfl })
  rw [Four.get_mapWith]
  exact restartWindow_position ((h.bounded p).positions w)

theorem takeRestart_kept (h : Kept P Q s) : Kept P Q (takeRestart s) :=
  kept_mk.mpr (keptOf_tx (restart_kept h) (.inr (by simp)))

theorem manage_kept (r : ManagementRequest) (h : Kept P Q s) : Kept P Q (manage r s) := by
  have masked : Kept P Q (maskAfter r s) := by
    unfold maskAfter
    split <;> simp [h]
  unfold manage
  refine ite_kept h (ite_kept (ite_kept (takeRestart_kept masked) (answer_kept (serve_kept r masked)))
    (ite_kept (answer_kept (serve_kept r masked)) (answer_kept ?_)))
  simp [reply, masked]

theorem receiveFrame_kept (id : CanId) (data : List Byte) (h : Kept P Q s) : Kept P Q (receiveFrame id data s) := by
  unfold receiveFrame
  exact ite_kept (ite_kept (manage_kept _ h) (matchFrame_kept _ _ _ h)) h

theorem beginListen_kept (h : Kept P Q s) : Kept P Q (beginListen s) :=
  foldl_kept (by simp [h]) fun _ _ hu => judgeLevel_kept _ hu

theorem beginPoll_kept (h : Kept P Q s) : Kept P Q (beginPoll s) := chooseRates_kept (by simp [h])

theorem saveEnds_kept (image : Tables) (verified : Bool) (h : Kept P Q s) :
    Kept P Q (startKept (if verified then saveGood image s else saveFailed image s)) := by
  have ended : Kept P Q (if verified then saveGood image s else saveFailed image s) :=
    ite_kept (by simp [saveGood, h]) (raise_kept _ _ (by simp [h]))
  unfold startKept
  exact ite_kept (beginSave_kept (by simp [ended])) ended

/-! ## Commands -/

@[simp] theorem reach_kept (deadline : Nat) (h : Kept P Q s) : Kept P Q (reach deadline s) := by simp [reach, h]

theorem atDeadline_kept {f : State → State} {deadline : Option Nat} (h : Kept P Q s)
    (effect : ∀ u, Kept P Q u → Kept P Q (f u)) : Kept P Q (atDeadline deadline f s) := by
  unfold atDeadline
  split
  · exact effect _ (reach_kept _ h)
  · exact h

theorem perform_kept_by {dt : Nat} {f : State → State} {t : State} (answer : perform dt f s = .next t) (h : Kept P Q s)
    (effect : ∀ u, Kept P Q u → Kept P Q (f u)) : Kept P Q t := by
  have later : Kept P Q (elapse dt s) := by simp [elapse, h]
  unfold perform at answer
  cases answer
  exact ite_kept later (finish_kept _ (effect _ later))

/-- A head of the queue is granted while a slot is free (R58). -/
theorem grantable_free {w : WindowId} (h : grantable s = some w) : s.motion.slots.length < Config.motorSlots := by
  unfold grantable at h
  split at h
  · cases h
  · split at h
    · next ready =>
      obtain ⟨_, free⟩ := (Bool.and_eq_true _ _).mp ready
      exact of_decide_eq_true free
    · cases h

/-- Every command keeps both invariants. -/
theorem exec_kept {i : Instr} {t : State} (answer : exec i s = .next t) (h : Kept P Q s) : Kept P Q t := by
  cases i with
  | powerOn dt a b c =>
    cases answer
    exact powerOn_kept _
  | loadComplete =>
    simp only [exec, execLoadComplete] at answer
    exact perform_kept_by answer h fun u hu => ite_kept (beginListen_kept hu) hu
  | listenEnd => exact perform_kept_by answer h fun u hu => atDeadline_kept hu fun _ => beginPoll_kept
  | powerLoss =>
    simp only [exec, execPowerLoss] at answer
    exact perform_kept_by answer h fun _ _ => cold_kept _
  | saveComplete dt verified =>
    simp only [exec, execSaveComplete] at answer
    refine perform_kept_by answer h fun u hu => ?_
    split
    · exact saveEnds_kept _ _ hu
    · exact hu
  | bodyFrameReceived | unknownRequest => exact perform_kept_by answer h fun u hu => receiveFrame_kept _ _ hu
  | motionGrant =>
    simp only [exec, execMotionGrant] at answer
    refine perform_kept_by answer h fun u hu => ?_
    split
    · next head => exact grant_kept _ (grantable_free head) hu
    · exact hu
  | refillDeadline =>
    exact perform_kept_by answer h fun u hu => atDeadline_kept hu fun _ ht => by simp [refilled, ht]
  | select | read | write | writeTravel | writeOpenLimit | writeChildOpenLimit | writeWindowLockout | writeParameters
  | writeChannelPowerMode | writeParkDelay | writeDeepDelay | writeProfiles | writeFobs | writePassiveSettings
  | writeOperations | writeRules | writeWakeLines | writeManagement | mask | release | discard | lockAll | unlockAll
  | unlockDriver | deadlockAll | unlockTailgate | releaseTailgate | crashUnlock | crashClear | childSet
  | clearNormalized | windowMove | windowStop | operationStart | operationCancel | clearWake | faults | clearFaults
  | save | protect | restart | status => exact perform_kept_by answer h fun u hu => manage_kept _ hu
  | linkCycleEnd | driveDeadline | settleDeadline | childSettleDeadline | releaseDeadline
  | driverFirstWindowExpiry | doubleLockWindowExpiry | timedPatternDeadline | retainedDeadline
  | normalizationHoldDeadline | runTimeLimit | candidateDeadline | holdDeadline | leaseDeadline
  | speedFreshnessDeadline | voltageFreshnessDeadline | deepDeadline =>
    exact perform_kept_by answer h fun u hu => atDeadline_kept hu fun _ ht => by simp [ht]
  | beginTransmission | frameAcknowledged | transmissionFailed | wakeLineDetection =>
    exact perform_kept_by answer h fun u hu => by simp [hu]
  | nodeReport | pendingRequestTaken | busOff | portActiveReturn | relockDeadline | searchDeadline
  | trapExpiry | statusPeriod | idleDeadline | parkSave | ignitionTransition | wakeLineLevelChange =>
    simp only [exec, execNodeReport, execPendingRequestTaken, execBusOff, execPortActiveReturn, execRelockDeadline,
      execSearchDeadline, execTrapExpiry, execStatusPeriod, execIdleDeadline, execParkSave, execIgnitionTransition,
      execWakeLineLevelChange] at answer
    refine perform_kept_by answer h fun u hu => ?_
    (repeat' split) <;> simp [hu]

/-- Every step keeps both invariants. -/
theorem step_kept {t : State} (answer : step s = .next t) (h : Kept P Q s) : Kept P Q t := by
  unfold step at answer
  split at answer
  · exact exec_kept answer (by simp [h])
  · cases answer
    simp [idle, elapse, h]

end

/-- Settles O5: the half of `step_kept` on the limits. -/
theorem stepKeepsBounds : Obligations.StepKeepsBounds := fun _ _ bounded answer =>
  (step_kept (P := True) (Q := False) answer ⟨fun _ => bounded, False.elim⟩).bounded trivial

/-- Settles O6: the half of `step_kept` on the Operation Engine. -/
theorem stepKeepsOperationsSound : Obligations.StepKeepsOperationsSound := fun _ _ sound answer =>
  (step_kept (P := False) (Q := True) answer ⟨False.elim, fun _ => sound⟩).sound trivial

/-- Settles O4: right after a power-on the limits hold, and the engine has no operation (R211). -/
theorem resetIsSound : Obligations.ResetIsSound := by
  refine ⟨⟨by decide, by decide, by decide, fun c => ?_, by decide, fun w => ?_⟩, ⟨fun _ => rfl, fun _ h => by cases h⟩, rfl⟩
  · cases c <;> exact Nat.zero_le _
  · cases w <;> exact le_rfl

end Sys2Proof.Machine
end

section
/-!
PROOFS. The queue of commands and the clock under every command: the operations of the blocks leave both alone, as
Laws/Surroundings.lean says; a deadline that is taken moves the clock on, and nothing moves it back.
-/

namespace Sys2Proof.Machine

/-- The commands that wait are the same, and the clock has not gone back. -/
structure Onward (s t : State) : Prop where
  pending : t.pending = s.pending
  now : s.now ≤ t.now

theorem Onward.refl (s : State) : Onward s s := ⟨rfl, le_rfl⟩

theorem Onward.trans {s t u : State} (h : Onward s t) (g : Onward t u) : Onward s u :=
  ⟨g.pending.trans h.pending, h.now.trans g.now⟩

theorem Onward.of_surroundings {s t : State} (h : surroundings t = surroundings s) : Onward s t := by
  obtain ⟨pending, now, _⟩ := surroundings_eq h
  exact ⟨pending, now.ge⟩

/-- A change of other fields, and then an operation of the blocks. -/
theorem Onward.via {s t u : State} (operation : surroundings t = surroundings u) (pending : u.pending = s.pending)
    (now : u.now = s.now) : Onward s t := by
  obtain ⟨pending', now', _⟩ := surroundings_eq operation
  exact ⟨pending'.trans pending, (now'.trans now).ge⟩

theorem Onward.foldl {α : Type} {f : State → α → State} (h : ∀ u a, Onward u (f u a)) (l : List α) (s : State) :
    Onward s (l.foldl f s) := by
  induction l generalizing s with
  | nil => exact .refl s
  | cons a l ih => exact (h s a).trans (ih _)

theorem Onward.ite {c : Prop} [Decidable c] {s t u : State} (ht : Onward s t) (hu : Onward s u) :
    Onward s (if c then t else u) := by
  split <;> assumption

theorem onward_elapse (dt : Nat) (s : State) : Onward s (elapse dt s) := ⟨rfl, Nat.le_add_right _ _⟩

theorem onward_reach (deadline : Nat) (s : State) : Onward s (reach deadline s) := ⟨rfl, le_max_left _ _⟩

/-! ## Writes and requests (R197 to R208) -/

/-- An owner's answer to a WRITE touches neither the queue nor the clock. -/
def WriteOnward (s : State) (a : WriteAnswer) : Prop := ∀ t, a = .ok t → surroundings t = surroundings s

@[simp] theorem writeOnward_ok {s t : State} : WriteOnward s (.ok t) ↔ surroundings t = surroundings s := by
  simp [WriteOnward]

@[simp] theorem writeOnward_error (s : State) (r : Result) : WriteOnward s (.error r) := by simp [WriteOnward]

theorem writeOnward_inRange {s t : State} {ok : Bool} (h : surroundings t = surroundings s) :
    WriteOnward s (inRange ok t) := by
  unfold inRange
  split <;> simp [h]

theorem writeClosureSettings_onward (index word v : Nat) (s : State) :
    WriteOnward s (writeClosureSettings index word v s) := by
  have travel (w : WindowId) : WriteOnward s (writeWindow0 w v s) := by
    unfold writeWindow0
    dsimp only
    split
    · simp
    · refine writeOnward_inRange ?_
      split <;> simp
  have limit (w : WindowId) : WriteOnward s (writeWindow3 w v s) := by
    unfold writeWindow3
    split
    · simp
    · exact writeOnward_inRange (by simp)
  have mode (c : Closure) : WriteOnward s (writeMode c v s) := by
    unfold writeMode
    split <;> simp
  unfold writeClosureSettings
  dsimp only
  (repeat' split) <;>
    simp [writeCar0, writeCar1, writeWindow1, writeWindow2, writeOnward_inRange, travel, limit, mode]

theorem writeFobs_onward (index word v : Nat) (s : State) : WriteOnward s (writeFobs index word v s) := by
  have fob (i : Nat) (new : Fob) : WriteOnward s (writeFob i new s) := by
    unfold writeFob
    split <;> simp
  have key : WriteOnward s (writeKeySettings v s) := by
    unfold writeKeySettings
    refine writeOnward_inRange ?_
    split <;> simp
  unfold writeFobs
  dsimp only
  (repeat' split) <;> simp [fob, key]

theorem writeOperations_onward (index word v : Nat) (s : State) : WriteOnward s (writeOperations index word v s) := by
  unfold writeOperations
  dsimp only
  (repeat' split) <;> simp

theorem writeRules_onward (index word v : Nat) (s : State) : WriteOnward s (writeRules index word v s) := by
  unfold writeRules writeRule0 writeFrameSettings
  dsimp only
  (repeat' split) <;> simp [writeOnward_inRange, writeRule1, writeRule2]

theorem writeManagement_onward (index v : Nat) (s : State) : WriteOnward s (writeManagement index v s) := by
  unfold writeManagement
  split
  · exact writeOnward_inRange (by simp)
  · simp [writeReport]

theorem ownerWrite_onward (c : Cursor) (v : Nat) (s : State) : WriteOnward s (ownerWrite c v s) := by
  unfold ownerWrite
  split
  · exact writeClosureSettings_onward c.index c.word v s
  · exact writeOnward_inRange (by simp)
  · exact writeFobs_onward c.index c.word v s
  · exact writeOperations_onward c.index c.word v s
  · exact writeRules_onward c.index c.word v s
  · simp [writeLine]
  · exact writeManagement_onward c.index v s
  · simp

theorem serveWrite_onward (value : Word) (s : State) : Onward s (serveWrite value s).state := by
  unfold serveWrite
  dsimp only
  split
  · exact ⟨rfl, le_rfl⟩
  · next t accepted =>
    unfold writeAt at accepted
    split at accepted
    · cases accepted
    · split at accepted
      · cases accepted
      · obtain ⟨pending, now⟩ := Onward.of_surroundings (ownerWrite_onward _ _ _ t accepted)
        exact ⟨pending, now⟩

theorem serveRequest_onward (kind : RequestKind) (s : State) : Onward s (serveRequest kind s).state := by
  refine .of_surroundings ?_
  unfold serveRequest serveClearNormalized
  (repeat' split) <;> simp [reply]

theorem serve_onward (r : ManagementRequest) (s : State) : Onward s (serve r s).state := by
  cases r with
  | write v => exact serveWrite_onward v s
  | request kind => exact serveRequest_onward kind s
  | select | read | protect =>
    simp only [serve, serveSelect, serveRead, serveProtect]
    split <;> exact ⟨rfl, le_rfl⟩
  | release | discard | save =>
    simp only [serve, serveRelease, serveDiscard, serveSave]
    split <;> exact .of_surroundings (by simp [reply])
  | clearWake | clearFaults => exact .of_surroundings (by simp [serve, serveClearWake, reply])
  | mask | faults | restart | status | unknown => exact ⟨rfl, le_rfl⟩

theorem answer_onward {r : ManagementRequest} {x : Reply} {s : State} (h : Onward s x.state) : Onward s (answer r x) :=
  h.trans (.of_surroundings (by simp [answer]))

/-- LOAD moves neither the queue nor the clock of the part it starts from. -/
theorem loadStage_onward (kind : ResetKind) (tables : Tables) {s t u : State} (pending : t.pending = u.pending)
    (now : t.now = u.now) : Onward u (loadStage kind tables s t) := by
  unfold loadStage
  exact .ite (.via (raise_surroundings _ _ _) pending now) ⟨pending, now.ge⟩

theorem powerOn_onward (straps : Straps) (s : State) : Onward s (powerOn straps s) := loadStage_onward _ _ rfl rfl

theorem restart_onward (s : State) : Onward s (restart s) := loadStage_onward _ _ rfl rfl

theorem takeRestart_onward (s : State) : Onward s (takeRestart s) :=
  ⟨(restart_onward s).pending, (restart_onward s).now⟩

theorem manage_onward (r : ManagementRequest) (s : State) : Onward s (manage r s) := by
  have masked : Onward s (maskAfter r s) := by
    unfold maskAfter
    split <;> exact ⟨rfl, le_rfl⟩
  have served := answer_onward (r := r) (masked.trans (serve_onward r _))
  unfold manage
  exact .ite (.refl s) (.ite (.ite (masked.trans (takeRestart_onward _)) served)
    (.ite served (answer_onward (masked.trans ⟨rfl, le_rfl⟩))))

theorem receiveFrame_onward (id : CanId) (data : List Byte) (s : State) : Onward s (receiveFrame id data s) := by
  unfold receiveFrame
  exact .ite (.ite (manage_onward _ s) (.of_surroundings (by simp))) (.refl s)

/-! ## Commands -/

theorem atDeadline_onward {f : State → State} (h : ∀ u, Onward u (f u)) (deadline : Option Nat) (s : State) :
    Onward s (atDeadline deadline f s) := by
  unfold atDeadline
  split
  · exact (onward_reach _ s).trans (h _)
  · exact .refl s

/-- Every command but POWER_ON answers a next state, with its effect between the time before it and the close. -/
theorem perform_onward (dt : Nat) {f : State → State} (h : ∀ u, Onward u (f u)) (s : State) :
    ∃ t, perform dt f s = .next t ∧ Onward s t :=
  ⟨_, rfl, (onward_elapse dt s).trans
    (.ite (.refl _) ((h _).trans (.of_surroundings (by simp))))⟩

theorem lineDetection_onward (line : WakeLine) (s : State) : Onward s (lineDetection line s) := by
  unfold lineDetection
  dsimp only
  split
  · split
    · exact .via (detect_surroundings _ _) rfl rfl
    · exact .via (detect_surroundings _ _) rfl rfl
    · exact .via (judgeLevel_surroundings _ _) rfl rfl
  · exact ⟨rfl, le_rfl⟩

theorem ignitionChanged_surroundings (level : Ignition) (s : State) :
    surroundings (ignitionChanged level s) = surroundings s := by
  unfold ignitionChanged setRetained
  cases level with
  | run => simp
  | off =>
    dsimp only
    split <;> simp

theorem beginPoll_onward (s : State) : Onward s (beginPoll s) := by
  unfold beginPoll
  exact .via (chooseRates_surroundings _) rfl rfl

/-- Every command answers a next state, further on. -/
theorem exec_onward (i : Instr) (s : State) : ∃ t, exec i s = .next t ∧ Onward s t := by
  cases i with
  | powerOn dt a b c => exact ⟨_, rfl, (onward_elapse dt s).trans (powerOn_onward _ _)⟩
  | loadComplete dt =>
    simp only [exec, execLoadComplete]
    refine perform_onward dt (fun u => .ite ?_ (.refl u)) s
    exact .via (foldl_surroundings (fun _ _ => judgeLevel_surroundings _ _) _ _) rfl rfl
  | listenEnd dt =>
    simp only [exec, execListenEnd]
    exact perform_onward dt (fun u => atDeadline_onward beginPoll_onward _ u) s
  | powerLoss dt extent =>
    simp only [exec, execPowerLoss]
    refine perform_onward dt (fun u => ?_) s
    exact ⟨rfl, le_rfl⟩
  | bodyFrameReceived | unknownRequest => exact perform_onward _ (fun u => receiveFrame_onward _ _ u) s
  | select | read | write | writeTravel | writeOpenLimit | writeChildOpenLimit | writeWindowLockout | writeParameters
  | writeChannelPowerMode | writeParkDelay | writeDeepDelay | writeProfiles | writeFobs | writePassiveSettings
  | writeOperations | writeRules | writeWakeLines | writeManagement | mask | release | discard | lockAll | unlockAll
  | unlockDriver | deadlockAll | unlockTailgate | releaseTailgate | crashUnlock | crashClear | childSet
  | clearNormalized | windowMove | windowStop | operationStart | operationCancel | clearWake | faults | clearFaults
  | save | protect | restart | status => exact perform_onward _ (fun u => manage_onward _ u) s
  | linkCycleEnd | driveDeadline | settleDeadline | childSettleDeadline | refillDeadline | releaseDeadline
  | driverFirstWindowExpiry | doubleLockWindowExpiry | timedPatternDeadline | retainedDeadline
  | normalizationHoldDeadline | runTimeLimit | candidateDeadline | holdDeadline | leaseDeadline
  | speedFreshnessDeadline | voltageFreshnessDeadline | deepDeadline =>
    simp only [exec, execLinkCycleEnd, execDriveDeadline, execSettleDeadline, execChildSettleDeadline,
      execRefillDeadline, execReleaseDeadline, execDriverFirstWindowExpiry, execDoubleLockWindowExpiry,
      execTimedPatternDeadline, execRetainedDeadline, execNormalizationHoldDeadline, execRunTimeLimit,
      execCandidateDeadline, execHoldDeadline, execLeaseDeadline, execSpeedFreshnessDeadline,
      execVoltageFreshnessDeadline, execDeepDeadline]
    exact perform_onward _ (fun u => atDeadline_onward (fun _ => .of_surroundings (by simp)) _ u) s
  | beginTransmission | frameAcknowledged | transmissionFailed =>
    exact perform_onward _ (fun _ => .of_surroundings (by simp)) s
  | wakeLineDetection dt line => exact perform_onward dt (lineDetection_onward line) s
  | nodeReport | motionGrant | pendingRequestTaken | busOff | parkSave | saveComplete =>
    simp only [exec, execNodeReport, execMotionGrant, execPendingRequestTaken, execBusOff, execParkSave,
      execSaveComplete]
    refine perform_onward _ (fun u => .of_surroundings ?_) s
    (repeat' split) <;> simp [enterSilent]
  | portActiveReturn =>
    simp only [exec, execPortActiveReturn]
    refine perform_onward _ (fun u => ?_) s
    split
    · exact ⟨rfl, le_max_left _ _⟩
    · exact .refl u
  | relockDeadline =>
    simp only [exec, execRelockDeadline]
    refine perform_onward _ (fun u => ?_) s
    split
    · exact (onward_reach _ u).trans (.of_surroundings (relockExpired_surroundings _ _))
    · exact .refl u
  | searchDeadline =>
    simp only [exec, execSearchDeadline]
    refine perform_onward _ (fun u => ?_) s
    split
    · exact (onward_reach _ u).trans (.of_surroundings (closeSlot_surroundings _ _ _ _ _))
    · exact .refl u
  | trapExpiry =>
    simp only [exec, execTrapExpiry]
    refine perform_onward _ (fun u => ?_) s
    split
    · exact (onward_reach _ u).trans (.of_surroundings (expireFrame_surroundings _ _))
    · exact .refl u
  | statusPeriod =>
    simp only [exec, execStatusPeriod]
    refine perform_onward _ (fun u => ?_) s
    split
    · exact .ite (.trans (onward_reach _ u) (.via (offerPages_surroundings _) rfl rfl)) ⟨rfl, le_max_left _ _⟩
    · exact .refl u
  | idleDeadline =>
    simp only [exec, execIdleDeadline]
    exact perform_onward _ (fun u => .ite (onward_reach _ u) (.refl u)) s
  | ignitionTransition dt level =>
    simp only [exec, execIgnitionTransition]
    refine perform_onward dt (fun u => ?_) s
    exact .ite (.ite (.via (ignitionChanged_surroundings _ _) rfl rfl) ⟨rfl, le_rfl⟩) ⟨rfl, le_rfl⟩
  | wakeLineLevelChange dt line level =>
    simp only [exec, execWakeLineLevelChange]
    refine perform_onward dt (fun u => ?_) s
    exact .ite (.via (lineLevel_surroundings _ _ _) rfl rfl) ⟨rfl, le_rfl⟩

/-- Settles O2. -/
theorem everyCommandAnswersAndKeepsTheQueue : Obligations.EveryCommandAnswersAndKeepsTheQueue := fun i s => by
  obtain ⟨t, answers, onward⟩ := exec_onward i s
  exact ⟨t, answers, onward.pending, onward.now⟩

/-- Settles O1: `step` is `exec` on the front command, and `idle` on an empty queue. -/
theorem stepTakesTheFrontCommand : Obligations.StepTakesTheFrontCommand := fun _ _ _ => ⟨rfl, rfl⟩

/-- Every row but POWER_ON is a `perform`. -/
theorem exec_perform (i : Instr) (other : ∀ dt a b c, i ≠ .powerOn dt a b c) :
    ∃ f, ∀ s, exec i s = perform i.elapsed f s := by
  cases i with
  | powerOn dt a b c => exact absurd rfl (other dt a b c)
  | loadComplete | listenEnd | powerLoss | unknownRequest | saveComplete | nodeReport | motionGrant
  | pendingRequestTaken | busOff | portActiveReturn | relockDeadline | searchDeadline | trapExpiry | statusPeriod
  | idleDeadline | parkSave | ignitionTransition | wakeLineLevelChange | linkCycleEnd | driveDeadline
  | settleDeadline | childSettleDeadline | refillDeadline | releaseDeadline | driverFirstWindowExpiry
  | doubleLockWindowExpiry | timedPatternDeadline | retainedDeadline | normalizationHoldDeadline | runTimeLimit
  | candidateDeadline | holdDeadline | leaseDeadline | speedFreshnessDeadline | voltageFreshnessDeadline
  | deepDeadline =>
    simp only [exec, execLoadComplete, execListenEnd, execPowerLoss, execUnknownRequest, execSaveComplete,
      execNodeReport, execMotionGrant, execPendingRequestTaken, execBusOff, execPortActiveReturn, execRelockDeadline,
      execSearchDeadline, execTrapExpiry, execStatusPeriod, execIdleDeadline, execParkSave, execIgnitionTransition,
      execWakeLineLevelChange, execLinkCycleEnd, execDriveDeadline, execSettleDeadline, execChildSettleDeadline,
      execRefillDeadline, execReleaseDeadline, execDriverFirstWindowExpiry, execDoubleLockWindowExpiry,
      execTimedPatternDeadline, execRetainedDeadline, execNormalizationHoldDeadline, execRunTimeLimit,
      execCandidateDeadline, execHoldDeadline, execLeaseDeadline, execSpeedFreshnessDeadline,
      execVoltageFreshnessDeadline, execDeepDeadline]
    exact ⟨_, fun _ => rfl⟩
  | _ => exact ⟨_, fun _ => rfl⟩

/-- Settles O3: every row but POWER_ON is a `perform`, which without a supply only lets time pass. -/
theorem withoutSupplyOnlyTimePasses : Obligations.WithoutSupplyOnlyTimePasses := by
  intro i s off other
  obtain ⟨f, row⟩ := exec_perform i other
  rw [row]
  exact perform_off _ f off

end Sys2Proof.Machine
end

section
/-!
PROOFS. The cursor commands, PROTECT and the frames that name no request (R197 to R203, R217 A).
-/

namespace Sys2Proof.Machine

theorem serveSelect_exists {c : Cursor} (h : placeExists c = true) (s : State) :
    serveSelect c s = reply .ok (setCursor c s) := by simp [serveSelect, h]

theorem serveSelect_outside {c : Cursor} (h : placeExists c = false) (s : State) :
    serveSelect c s = reply .range s := by simp [serveSelect, h]

/-- Settles O8. -/
theorem selectAndMaskPrepareTheNextWord : Obligations.SelectAndMaskPrepareTheNextWord := by
  intro s dt alert room
  refine ⟨fun table index word => ?_, fun bits => ?_⟩
  · let c : Cursor := ⟨table.toNat, index.toNat, word.toNat⟩
    have moved (exists_ : placeExists c = true) :
        AnswersActive (.select dt table index word) s
          (replied dt 0x01 .ok [] { s with mgmt := { s.mgmt with cursor := c } }) :=
      answersActive_replied (r := .select c.table c.index c.word) (t := { s with mgmt := { s.mgmt with cursor := c } })
        rfl alert (by simp) (serveSelect_exists exists_ _) (alert.of_same rfl rfl rfl rfl rfl rfl) room
    have refused (outside : placeExists c = false) :
        AnswersActive (.select dt table index word) s (replied dt 0x01 .range [] s) :=
      answersActive_replied (r := .select c.table c.index c.word) rfl alert (by simp) (serveSelect_outside outside _)
        alert room
    split
    · next entries words shape =>
      split
      · next inside => exact moved (by simpa [placeExists, c, shape] using inside)
      · next outside => exact refused (by simpa [placeExists, c, shape] using outside)
    · next shape => exact refused (by simp [placeExists, c, shape])
  · exact answersActive_request (r := .mask bits) rfl alert (by simp) _ rfl (alert.of_same rfl rfl rfl rfl rfl rfl) room
      rfl

theorem serveRead_protected {s : State} (h : regionFlag s.cfg.protection.readFlags s.mgmt.cursor.table = true) :
    serveRead s = reply .protected_ s := by simp [serveRead, h]

theorem serveRead_open {s : State} {next : Cursor} {last : Bool}
    (h : regionFlag s.cfg.protection.readFlags s.mgmt.cursor.table = false)
    (onward : advance s.mgmt.cursor = (next, last)) :
    serveRead s =
      ⟨setCursor next s, .ok, byteOf [(1, flagBit last)] :: leBytes 4 (readWord s s.mgmt.cursor).toNat⟩ := by
  simp [serveRead, h, onward]

/-- Settles O9. -/
theorem readShowsTheWordAndAdvances : Obligations.ReadShowsTheWordAndAdvances := by
  intro s dt entries words alert room shape
  have shown (next : Cursor) (last : Bool)
      (open_ : ¬ regionFlag s.cfg.protection.readFlags s.mgmt.cursor.table = true)
      (onward : advance s.mgmt.cursor = (next, last)) :
      AnswersActive (.read dt) s
        (replied dt 0x02 .ok
          (byteOf [(1, flagBit last)] ::
            leBytes 4
              (readWord { s with now := s.now + dt, mgmt := { s.mgmt with mask := none } } s.mgmt.cursor).toNat)
          { s with mgmt := { s.mgmt with cursor := next } }) :=
    answersActive_replied (r := .read) (t := { s with mgmt := { s.mgmt with cursor := next } }) rfl alert (by simp)
      (serveRead_open (s := setMask none (elapse dt s)) (by simpa using open_) onward)
      (alert.of_same rfl rfl rfl rfl rfl rfl) room
  dsimp only
  split
  · next closed =>
    exact answersActive_replied (r := .read) rfl alert (by simp)
      (serveRead_protected (s := setMask none (elapse dt s)) closed) alert room
  · next open_ =>
    split
    · next within => exact shown _ false open_ (by simp [advance, shape, within])
    · next lastWord =>
      split
      · next within => exact shown _ false open_ (by simp [advance, shape, lastWord, within])
      · next lastEntry => exact shown _ true open_ (by simp [advance, shape, lastWord, lastEntry])

/-- Settles O12. -/
theorem protectReplacesTheRecord : Obligations.ProtectReplacesTheRecord := by
  intro s dt r w l alert room
  split
  · next locked =>
    exact answersActive_replied (r := .protect r.toNat w.toNat l.toNat) rfl alert (by simp)
      (by simp [serve, serveProtect, maskAfter, locked, reply, setMask, elapse]) alert room
  · next empty =>
    refine answersActive_replied (r := .protect r.toNat w.toNat l.toNat) rfl alert (by simp) ?_
      (alert.of_same rfl rfl rfl rfl rfl rfl) room
    simp [serve, serveProtect, maskAfter, empty, reply, setMask, elapse, regionFlagsOf, bitOf_toNat]

/-! ## Frames on the request identifier -/

/-- A frame that names no request is read as UNKNOWN under its first byte (R217 A). -/
theorem readRequest_unreadable {data : List Byte} (h : unreadableRequest data = true) :
    readRequest data = .unknown (data.headD 0).toNat := by
  cases data with
  | nil => rfl
  | cons b rest =>
    unfold readRequest
    simp only [byteNat, List.getD_cons_zero, List.headD_cons]
    split <;> simp_all [unreadableRequest, requestLength]

theorem following_run {s : State} (h : s.stage = .run) : following s = true := by simp [following, h]

/-- A frame on the request identifier is taken as the request it is read as (R142, R197). -/
theorem exec_unknownRequest {s : State} {data : List Byte} (dt : Nat) (open_ : following s = true)
    (short : data.length ≤ 8) : exec (.unknownRequest dt data) s = perform dt (manage (readRequest data)) s := by
  have taken : receiveFrame (elapse dt s).mgmt.base data (elapse dt s) = manage (readRequest data) (elapse dt s) := by
    have follows : following (elapse dt s) = true := open_
    simp [receiveFrame, follows, short]
  simp only [exec, execUnknownRequest, perform, taken]

/-- Settles O13. -/
theorem unreadableRequestIsAnsweredUnknown : Obligations.UnreadableRequestIsAnsweredUnknown := by
  intro s dt data alert room short unreadable
  have read := exec_unknownRequest (s := s) (data := data) dt (following_run alert.run) short
  rw [readRequest_unreadable unreadable] at read
  exact answersActive_replied (r := .unknown (data.headD 0).toNat) read alert (by simp) rfl alert room

/-! ## Requests before RUN -/

/-- A management row hands its request, under its own command code, to the Management Responder (12 section 12.2). -/
theorem exec_managementCode {i : Instr} {code : Nat} (h : managementCode i = some code) :
    ∃ r, requestCode r = code ∧ ∀ s, exec i s = perform i.elapsed (manage r) s := by
  cases i with
  | select | read | write | writeTravel | writeOpenLimit | writeChildOpenLimit | writeWindowLockout | writeParameters
  | writeChannelPowerMode | writeParkDelay | writeDeepDelay | writeProfiles | writeFobs | writePassiveSettings
  | writeOperations | writeRules | writeWakeLines | writeManagement | mask | release | discard | lockAll | unlockAll
  | unlockDriver | deadlockAll | unlockTailgate | releaseTailgate | crashUnlock | crashClear | childSet
  | clearNormalized | windowMove | windowStop | operationStart | operationCancel | clearWake | faults | clearFaults
  | save | protect | restart | status =>
    cases h
    exact ⟨_, rfl, fun _ => rfl⟩
  | _ => cases h

theorem manage_early {r : ManagementRequest} {s : State} (follows : following s = true) (notRun : s.stage ≠ .run)
    (h : r ≠ .status) : manage r s = answer r ⟨setMask none s, .starting, []⟩ := by
  have stage : (maskAfter r s).stage = s.stage := by unfold maskAfter; split <;> rfl
  have masked : setMask none (maskAfter r s) = setMask none s := by unfold maskAfter; split <;> rfl
  simp [manage, follows, running, stage, notRun, h, reply, masked]

section
variable {s : State} (early : s.stage = .listen ∨ s.stage = .poll ∨ s.stage = .sense)
include early

theorem early_follows : following s = true := by rcases early with h | h | h <;> simp [following, h]

theorem early_notRun : s.stage ≠ .run := by rcases early with h | h | h <;> simp [h]

theorem early_supplied : s.stage ≠ .off := by rcases early with h | h | h <;> simp [h]

variable (room : s.tx.length < Config.txPlaces)
include room

/-- Before RUN an answer is the response alone: no activity and no wake (R187, R192). -/
theorem answer_early (r : ManagementRequest) (result : Result) (tail : List Byte) :
    answer r ⟨s, result, tail⟩ = { s with tx := s.tx ++ [responseFrame s (requestCode r) result tail] } := by
  have notRun := early_notRun early
  unfold answer
  rw [offer_response rfl room]
  simp [activity, wake, running, notRun]

/-- Before RUN a request acts on nothing but the mask and the queue (R197). -/
theorem perform_early {dt : Nat} {r : ManagementRequest} {result : Result} {tail : List Byte}
    (answered : manage r (elapse dt s) = answer r ⟨setMask none (elapse dt s), result, tail⟩) :
    perform dt (manage r) s = .next (replied dt (requestCode r) result tail s) := by
  rw [perform_supplied dt _ (early_supplied early), answered,
    answer_early (s := setMask none (elapse dt s)) early room, finish_before_run]
  · rfl
  · exact early_notRun early

theorem perform_starting (dt : Nat) {r : ManagementRequest} (h : r ≠ .status) :
    perform dt (manage r) s = .next (replied dt (requestCode r) .starting [] s) :=
  perform_early early room
    (manage_early (s := elapse dt s) (early_follows (s := s) early) (early_notRun (s := s) early) h)

end

/-- Settles O14. -/
theorem requestsBeforeRunAreAnsweredStarting : Obligations.RequestsBeforeRunAreAnsweredStarting := by
  intro s early room
  refine ⟨fun i code row other => ?_, fun dt => ?_, fun dt data short unreadable => ?_⟩
  · obtain ⟨r, rfl, meaning⟩ := exec_managementCode row
    rw [meaning]
    refine perform_starting early room _ ?_
    rintro rfl
    exact other rfl
  · refine perform_early (r := .status) early room ?_
    have follows : following (elapse dt s) = true := early_follows (s := s) early
    have notRun := early_notRun early
    simp [manage, follows, running, maskAfter, notRun, serve]
    rfl
  · rw [exec_unknownRequest dt (early_follows early) short, readRequest_unreadable unreadable]
    exact perform_starting early room dt (by simp)

end Sys2Proof.Machine
end

section
/-!
PROOFS. The drives of the close of a step (R166, R176) and the entry into AWAKE (R193): what the choice of the rates
leaves alone, what it does to one channel, and the next state of a step that wakes the part.
-/

namespace Sys2Proof.Machine

/-! ## What the choice of the rates leaves alone -/

/-- A state less the records that sending a drive and a change of rate touch. -/
def lessDrives (s : State) : State :=
  { s with
    closures := State.reset.closures, children := State.reset.children, release := State.reset.release
    windows := State.reset.windows, motion := State.reset.motion, pass := State.reset.pass
    channels := State.reset.channels }

/-- A lock record less its prepared command and the drive deadline that its sending starts (R12). -/
def lessCommand (k : ClosureLock) : ClosureLock := { k with command := .idle, pulseSteps := 0, driveDeadline := none }

/-- `t` is `s` but for drives sent: prepared commands may have gone, motors and channels may have taken note. -/
structure Sent (s t : State) : Prop where
  rest : lessDrives t = lessDrives s
  locks : ∀ c, lessCommand (closure t c) = lessCommand (closure s c)
  children : ∀ d, ({ child t d with command := none } : ChildLock) = { child s d with command := none }

namespace Sent

theorem refl (s : State) : Sent s s := ⟨rfl, fun _ => rfl, fun _ => rfl⟩

theorem trans {s t u : State} (h : Sent s t) (g : Sent t u) : Sent s u :=
  ⟨g.rest.trans h.rest, fun c => (g.locks c).trans (h.locks c), fun d => (g.children d).trans (h.children d)⟩

variable {s t : State}

/-- Any field that no drive touches. -/
theorem same (h : Sent s t) {α : Type} (f : State → α) (hf : ∀ u, f (lessDrives u) = f u) : f t = f s := by
  rw [← hf t, ← hf s, h.rest]

theorem stage (h : Sent s t) : t.stage = s.stage := h.same State.stage fun _ => rfl

theorem ctx (h : Sent s t) : t.ctx = s.ctx := h.same State.ctx fun _ => rfl

theorem cfg (h : Sent s t) : t.cfg = s.cfg := h.same State.cfg fun _ => rfl

theorem now (h : Sent s t) : t.now = s.now := h.same State.now fun _ => rfl

theorem timed (h : Sent s t) : t.timed = s.timed := h.same State.timed fun _ => rfl

theorem target (h : Sent s t) (c : Closure) : (closure t c).target = (closure s c).target :=
  by simpa [lessCommand] using congrArg ClosureLock.target (h.locks c)

theorem phase (h : Sent s t) (c : Closure) : (closure t c).phase = (closure s c).phase :=
  by simpa [lessCommand] using congrArg ClosureLock.phase (h.locks c)

theorem sensed (h : Sent s t) (c : Closure) : (closure t c).sensed = (closure s c).sensed :=
  by simpa [lessCommand] using congrArg ClosureLock.sensed (h.locks c)

theorem childTarget (h : Sent s t) (d : RearDoor) : (child t d).target = (child s d).target :=
  by simpa using congrArg ChildLock.target (h.children d)

theorem childPhase (h : Sent s t) (d : RearDoor) : (child t d).phase = (child s d).phase :=
  by simpa using congrArg ChildLock.phase (h.children d)

theorem lampLit (h : Sent s t) (c : Closure) : lampLit t c = lampLit s c := by
  simp only [Machine.lampLit, channelLamps, lockLamp, basePattern, childLamp, lockoutLamp, driverClosure, h.cfg,
    h.timed, h.sensed, h.childTarget, h.childPhase]
  rfl

/-- The rate that R176 gives a channel does not depend on the drives sent. -/
theorem chosenRate (h : Sent s t) (c : Closure) : chosenRate t c = chosenRate s c := by
  simp only [Machine.chosenRate, h.stage, h.cfg, h.ctx, h.lampLit]

end Sent

/-- A change of the records that drives touch, with the lock and child-lock records kept. -/
theorem Sent.of_records {s t : State} (rest : lessDrives t = lessDrives s) (closures : t.closures = s.closures)
    (children : t.children = s.children) : Sent s t :=
  ⟨rest, fun c => by simp [closure, closures], fun d => by simp [child, children]⟩

theorem sentLock_sent (c : Closure) (s : State) : Sent s (sentLock c s) := by
  refine ⟨rfl, fun d => ?_, fun _ => rfl⟩
  by_cases h : d = c
  · subst h; simp [sentLock, commandSent, lessCommand]
  · simp [sentLock, closure_setClosure_other h]

theorem sentChild_sent (c : Closure) (s : State) : Sent s (sentChild c s) := by
  unfold sentChild
  split
  · next r _ =>
    refine ⟨rfl, fun _ => rfl, fun d => ?_⟩
    by_cases h : d = r
    · subst h; simp
    · simp [child_setChild_other h]
  · exact .refl s

theorem sentMotor_sent (c : Closure) (motor : MotorCommand) (s : State) : Sent s (sentMotor c motor s) := by
  unfold sentMotor
  split
  · exact .refl s
  · exact .of_records rfl rfl rfl

theorem noteSent_sent (c : Closure) (d : NodeDrive) (s : State) : Sent s (noteSent c d s) := by
  have owners : Sent s (sentPayload c (sentRelease d.release (sentChild c (sentLock c s)))) :=
    ((sentLock_sent c s).trans (sentChild_sent c _)).trans (.of_records rfl rfl rfl)
  unfold noteSent
  split
  · exact owners.trans (sentMotor_sent c _ _)
  · exact sentMotor_sent c _ s

theorem setChannel_sent (c : Closure) (ch : Channel) (s : State) : Sent s (setChannel c ch s) := .of_records rfl rfl rfl

theorem sendDrive_sent (c : Closure) (s : State) : Sent s (sendDrive c s) :=
  (noteSent_sent c _ s).trans (setChannel_sent c _ _)

theorem setRate_sent (c : Closure) (r : Rate) (s : State) : Sent s (setRate c r s) := by
  unfold setRate
  dsimp only
  split
  · exact .refl s
  · split
    · exact setChannel_sent c _ s
    · split
      · exact (setChannel_sent c _ s).trans (sendDrive_sent c _)
      · exact setChannel_sent c _ s

/-- The choice of the rates, channel by channel (R176). -/
def rateChosen (s : State) (c : Closure) : State := setRate c (chosenRate s c) s

theorem foldl_rateChosen_sent (l : List Closure) (s : State) : Sent s (l.foldl rateChosen s) := by
  induction l generalizing s with
  | nil => exact .refl s
  | cons c l ih => exact (setRate_sent c _ s).trans (ih _)

theorem chooseRates_fold (s : State) : chooseRates s = allClosures.foldl rateChosen s := rfl

theorem chooseRates_sent (s : State) : Sent s (chooseRates s) := foldl_rateChosen_sent allClosures s

/-! ## What it does to one channel -/

/-- `t` has the records that a drive of channel `c` reads and writes as `s` has them. -/
structure ChannelKept (c : Closure) (s t : State) : Prop where
  channel : channel t c = channel s c
  lock : closure t c = closure s c
  children : ∀ d, rearClosure d = c → child t d = child s d
  release : c = .tg → t.release = s.release

theorem ChannelKept.refl (c : Closure) (s : State) : ChannelKept c s s := ⟨rfl, rfl, fun _ _ => rfl, fun _ => rfl⟩

theorem ChannelKept.trans {c : Closure} {s t u : State} (h : ChannelKept c s t) (g : ChannelKept c t u) : ChannelKept c s u :=
  ⟨g.channel.trans h.channel, g.lock.trans h.lock, fun d hd => (g.children d hd).trans (h.children d hd),
    fun hc => (g.release hc).trans (h.release hc)⟩

theorem setChannel_channelKept {c d : Closure} (h : c ≠ d) (ch : Channel) (s : State) :
    ChannelKept c s (setChannel d ch s) :=
  ⟨channel_setChannel_other h ch s, rfl, fun _ _ => rfl, fun _ => rfl⟩

theorem closureRear_eq {c : Closure} {d : RearDoor} : closureRear c = some d ↔ rearClosure d = c := by
  cases c <;> cases d <;> decide

theorem sentMotor_channelKept (c d : Closure) (motor : MotorCommand) (s : State) : ChannelKept c s (sentMotor d motor s) := by
  unfold sentMotor
  split
  · exact .refl c s
  · exact ⟨rfl, rfl, fun _ _ => rfl, fun _ => rfl⟩

theorem sentChild_channelKept {c d : Closure} (h : c ≠ d) (s : State) : ChannelKept c s (sentChild d s) := by
  unfold sentChild
  split
  · next r rear =>
    refine ⟨rfl, rfl, fun e he => child_setChild_other ?_ _ _, fun _ => rfl⟩
    rintro rfl
    exact h (he.symm.trans (closureRear_eq.mp rear))
  · exact .refl c s

/-- A drive of another channel, which carries no release unless it is TG's (R24). -/
theorem noteSent_channelKept {c d : Closure} (h : c ≠ d) {drive : NodeDrive} (s : State)
    (release : c = .tg → drive.release = false) : ChannelKept c s (noteSent d drive s) := by
  have lock : ChannelKept c s (sentLock d s) :=
    ⟨rfl, closure_setClosure_other h _ s, fun _ _ => rfl, fun _ => rfl⟩
  have owners : ChannelKept c s (sentPayload d (sentRelease drive.release (sentChild d (sentLock d s)))) :=
    (lock.trans (sentChild_channelKept h _)).trans
      ⟨rfl, rfl, fun _ _ => rfl, fun tg => by simp [sentPayload, sentRelease, release tg]⟩
  unfold noteSent
  split
  · exact owners.trans (sentMotor_channelKept c d _ _)
  · exact sentMotor_channelKept c d _ s

theorem sendDrive_channelKept {c d : Closure} (h : c ≠ d) (s : State) : ChannelKept c s (sendDrive d s) := by
  refine (noteSent_channelKept h s ?_).trans (setChannel_channelKept h _ _)
  rintro rfl
  simp [buildDrive, h.symm]

theorem setRate_channelKept {c d : Closure} (h : c ≠ d) (r : Rate) (s : State) : ChannelKept c s (setRate d r s) := by
  unfold setRate
  dsimp only
  split
  · exact .refl c s
  · split
    · exact setChannel_channelKept h _ s
    · split
      · exact (setChannel_channelKept h _ s).trans (sendDrive_channelKept h _)
      · exact setChannel_channelKept h _ s

theorem foldl_rateChosen_channelKept {c : Closure} {l : List Closure} (h : c ∉ l) (s : State) :
    ChannelKept c s (l.foldl rateChosen s) := by
  induction l generalizing s with
  | nil => exact .refl c s
  | cons d l ih =>
    obtain ⟨other, rest⟩ : c ≠ d ∧ c ∉ l := by simpa using h
    exact (setRate_channelKept other _ s).trans (ih rest _)

/-- Each channel has its turn once, before and after which the others leave its records alone. -/
theorem chooseRates_turn (c : Closure) (s : State) :
    ∃ v, Sent s v ∧ ChannelKept c s v ∧ ChannelKept c (setRate c (chosenRate s c) v) (chooseRates s) := by
  obtain ⟨before, after, order, notBefore, notAfter⟩ :
      ∃ before after, allClosures = before ++ c :: after ∧ c ∉ before ∧ c ∉ after := by
    cases c
    · exact ⟨[], [.fr, .rl, .rr, .tg], rfl, by decide, by decide⟩
    · exact ⟨[.fl], [.rl, .rr, .tg], rfl, by decide, by decide⟩
    · exact ⟨[.fl, .fr], [.rr, .tg], rfl, by decide, by decide⟩
    · exact ⟨[.fl, .fr, .rl], [.tg], rfl, by decide, by decide⟩
    · exact ⟨[.fl, .fr, .rl, .rr], [], rfl, by decide, by decide⟩
  have sent := foldl_rateChosen_sent before s
  refine ⟨before.foldl rateChosen s, sent, foldl_rateChosen_channelKept notBefore s, ?_⟩
  rw [chooseRates_fold, order, List.foldl_append, List.foldl_cons, ← sent.chosenRate c]
  exact foldl_rateChosen_channelKept notAfter _

theorem noteSent_channels (c : Closure) (d : NodeDrive) (s : State) : (noteSent c d s).channels = s.channels := by
  unfold noteSent sentMotor sentPayload sentRelease sentChild sentLock
  (repeat' split) <;> rfl

theorem sendDrive_channel (c : Closure) (s : State) :
    channel (sendDrive c s) c =
      { channel s c with
        cycleEnd := some ((noteSent c (buildDrive s c) s).now + period (channel s c).rate), answered := false
        drive := some (driveBytes (buildDrive s c)) } := by
  have kept : channel (noteSent c (buildDrive s c) s) c = channel s c := by
    simp only [channel, noteSent_channels]
  simp [sendDrive, kept]

/-- The rate is taken (R166). -/
theorem setRate_rate (c : Closure) (r : Rate) (s : State) : (channel (setRate c r s) c).rate = r := by
  unfold setRate
  dsimp only
  split
  · next same => exact beq_iff_eq.mp same
  · split
    · next off => simp [stoppedChannel, beq_iff_eq.mp off]
    · split <;> simp [sendDrive_channel]

/-- A change of rate sets no channel's reported flag. -/
theorem setRate_reported {c : Closure} {s : State} (h : (channel s c).reported = false) (r : Rate) :
    (channel (setRate c r s) c).reported = false := by
  unfold setRate
  dsimp only
  split
  · exact h
  · split
    · simp [stoppedChannel]
    · split <;> simp [sendDrive_channel, h]

/-- Every channel has the rate of R176 once the rates are chosen. -/
theorem chooseRates_rate (c : Closure) (s : State) : (channel (chooseRates s) c).rate = chosenRate s c := by
  obtain ⟨v, _, _, after⟩ := chooseRates_turn c s
  rw [after.channel, setRate_rate]

theorem chooseRates_reported {c : Closure} {s : State} (h : (channel s c).reported = false) :
    (channel (chooseRates s) c).reported = false := by
  obtain ⟨v, _, before, after⟩ := chooseRates_turn c s
  rw [after.channel]
  exact setRate_reported (by rw [before.channel, h]) _

/-- In AWAKE every channel runs FAST but one that is FORCED_OFF (R176). -/
theorem chosenRate_awake {s : State} (run : s.stage = .run) (awake : s.ctx.state = .awake) {c : Closure}
    (mode : s.cfg.modes.get c ≠ .forcedOff) : chosenRate s c = .fast := by
  unfold chosenRate
  simp only [run, awake]
  cases h : s.cfg.modes.get c <;> simp_all

/-- The first drive of a channel that starts in AWAKE carries the commands that are prepared for it (R166, R167). -/
structure FirstDrive (c : Closure) (s t : State) : Prop where
  drive : ∃ d : NodeDrive, (channel t c).drive = some (driveBytes d) ∧ d.lock = (closure s c).command ∧
    (∀ r, rearClosure r = c → d.child = (child s r).command) ∧ d.release = (c == .tg && s.release.prepared)
  lock : closure t c = commandSent s.now (closure s c)
  child : ∀ r, rearClosure r = c → child t r = { child s r with command := none }
  release : c = .tg → t.release = if s.release.prepared then ⟨some (s.now + 300), false⟩ else s.release

theorem sendDrive_first {c : Closure} {s : State} (run : s.stage = .run) : FirstDrive c s (sendDrive c s) := by
  have on : running s = true := by simp [running, run]
  refine ⟨⟨buildDrive s c, by rw [sendDrive_channel], by simp [buildDrive, on], fun r hr => ?_,
    by simp [buildDrive, on]⟩, ?_, fun r hr => ?_, fun hc => ?_⟩
  · simp [buildDrive, on, closureRear_eq.mpr hr]
  · simp [sendDrive, noteSent_eq on, closure]
  · simp [sendDrive, noteSent_eq on, Machine.child, hr]
  · simp [sendDrive, noteSent_eq on, buildDrive, on, hc, Config.releaseTime]

theorem chooseRates_first {c : Closure} {s : State} (run : s.stage = .run) (awake : s.ctx.state = .awake)
    (mode : s.cfg.modes.get c ≠ .forcedOff) (off : (channel s c).rate = .off) :
    FirstDrive c s (chooseRates s) := by
  obtain ⟨v, sent, before, after⟩ := chooseRates_turn c s
  have offThere : (channel v c).rate = .off := by rw [before.channel, off]
  have taken : setRate c (chosenRate s c) v = sendDrive c (setChannel c { channel v c with rate := .fast } v) := by
    simp [setRate, offThere, chosenRate_awake run awake mode]
  rw [taken] at after
  have first : FirstDrive c (setChannel c { channel v c with rate := .fast } v) _ :=
    sendDrive_first (sent.stage.trans run)
  obtain ⟨⟨d, bytes, lock, child, release⟩, lock', child', release'⟩ := first
  refine ⟨⟨d, by rw [after.channel, bytes], ?_, fun r hr => ?_, ?_⟩, ?_, fun r hr => ?_, fun hc => ?_⟩
  · rw [lock]; exact congrArg _ before.lock
  · rw [child r hr]; exact congrArg _ (before.children r hr)
  · rw [release]
    by_cases hc : c = .tg
    · simp [hc, before.release hc]
    · simp [beq_false_of_ne hc]
  · rw [after.lock, lock']
    exact congrArg₂ _ sent.now before.lock
  · rw [after.children r hr, child' r hr]
    exact congrArg (fun k : ChildLock => { k with command := none }) (before.children r hr)
  · rw [after.release hc, release' hc]
    simp [before.release hc, sent.now]

/-! ## The entry into AWAKE (R193) -/

/-- The part as a wake leaves it, the pages apart. -/
def woken (cause : WakeCause) (s : State) : State :=
  { s with
    ctx := { s.ctx with
      state := .awake, lastWake := some cause, wakeCount := min 65535 (s.ctx.wakeCount + 1), deepDeadline := none
      parkedAt := none, lastActivity := s.now
      idleDeadline := idleDeadlineOf { s with ctx := { s.ctx with lastActivity := s.now } } }
    channels := s.channels.mapWith fun _ ch => { ch with reported := false }
    windows := s.windows.mapWith fun _ x => heatRest s.now x
    nextStatus := some (s.now + 100) }

theorem enterAwake_eq {s : State} (run : s.stage = .run) (cause : WakeCause) :
    enterAwake cause s = offerPages (woken cause s) := by
  simp [enterAwake, startStatus, clearReported, activity, running, run, recomputeIdle, woken, idleDeadlineOf, anyAjar,
    closure, Config.statusTime]

theorem wake_asleep {s : State} (run : s.stage = .run) (asleep : s.ctx.state = .parked ∨ s.ctx.state = .deep)
    (cause : WakeCause) : wake cause s = offerPages (woken cause s) := by
  have taken : (running s && isAsleep s) = true := by
    rcases asleep with h | h <;> simp [running, run, isAsleep, h]
  rw [wake, if_pos taken, enterAwake_eq run]

/-- Any field but the transmit queue and the fault table. -/
theorem same_of_rest {α : Type} {s t : State} (h : lessTraffic t = lessTraffic s) (f : State → α)
    (hf : ∀ u, f (lessTraffic u) = f u) : f t = f s := by
  rw [← hf t, h, hf]

theorem offer_same {α : Type} (f : State → α) (hf : ∀ u, f (lessTraffic u) = f u) (g : TxFrame) (s : State) :
    f (offer g s) = f s := same_of_rest (offer_rest g s) f hf

theorem offerPages_same {α : Type} (f : State → α) (hf : ∀ u, f (lessTraffic u) = f u) (s : State) :
    f (offerPages s) = f s := same_of_rest (offerPages_rest s) f hf

/-- In a part that noted activity just now and is AWAKE, the close of a step has the rates to choose alone. -/
theorem finish_awake {b s : State} (run : s.stage = .run) (awake : s.ctx.state = .awake)
    (delay : s.ctx.ignition = .off → 0 < s.cfg.car.parkDelay) (h1 : s.ctx.lastActivity = s.now)
    (h2 : s.ctx.idleDeadline = idleDeadlineOf s) : finish b s = chooseRates s := by
  have unfolded : finish b s = closePages b (chooseRates (closeState (closeHold b s))) := by
    simp [finish, running, run]
  have notParking : mayPark s = false := by
    by_cases off : s.ctx.ignition = .off
    · have := delay off
      have ahead : ¬ s.ctx.idleDeadline ≤ s.now := by
        rw [h2]
        unfold idleDeadlineOf Config.ajarDelay
        split <;> omega
      simp [mayPark, ahead]
    · simp [mayPark, off]
  have settled : closeState s = s := by simp [closeState, notParking, maySinkDeep, awake]
  rw [unfolded, closeHold_active run h1 h2, settled]
  simp [closePages, (chooseRates_sent s).ctx, awake]

/-- `u` is the next state of a step that woke the part at the state `v` (R192, R193). -/
structure Awoken (cause : WakeCause) (v u : State) : Prop where
  state : u.ctx.state = .awake
  lastWake : u.ctx.lastWake = some cause
  wakeCount : u.ctx.wakeCount = min 65535 (v.ctx.wakeCount + 1)
  ignition : u.ctx.ignition = v.ctx.ignition
  lastActivity : u.ctx.lastActivity = v.now
  deepDeadline : u.ctx.deepDeadline = none
  nextStatus : u.nextStatus = some (v.now + 100)
  group : u.group = v.group
  cfg : u.cfg = v.cfg
  lines : u.lines = v.lines
  reported : ∀ c, (channel u c).reported = false
  rates : ∀ c, v.cfg.modes.get c ≠ .forcedOff → (channel u c).rate = .fast

/-- The close of the step that enters AWAKE. -/
theorem finish_woken_eq (b : State) {v : State} {cause : WakeCause} (run : v.stage = .run)
    (delay : v.ctx.ignition = .off → 0 < v.cfg.car.parkDelay) :
    finish b (offerPages (woken cause v)) = chooseRates (offerPages (woken cause v)) := by
  apply finish_awake
  · exact (offerPages_same State.stage (fun _ => rfl) _).trans run
  · exact offerPages_same (fun u => u.ctx.state) (fun _ => rfl) _
  · rw [offerPages_same (fun u => u.ctx.ignition) (fun _ => rfl), offerPages_same State.cfg (fun _ => rfl)]
    exact delay
  · rw [offerPages_same (fun u => u.ctx.lastActivity) (fun _ => rfl), offerPages_same State.now (fun _ => rfl)]
    rfl
  · rw [offerPages_same (fun u => u.ctx.idleDeadline) (fun _ => rfl), offerPages_same idleDeadlineOf (fun _ => rfl)]
    rfl

theorem finish_woken (b : State) {v : State} (cause : WakeCause) (run : v.stage = .run)
    (delay : v.ctx.ignition = .off → 0 < v.cfg.car.parkDelay) :
    Awoken cause v (finish b (offerPages (woken cause v))) := by
  rw [finish_woken_eq b run delay]
  have sent := chooseRates_sent (offerPages (woken cause v))
  have ctx : (chooseRates (offerPages (woken cause v))).ctx = (woken cause v).ctx :=
    sent.ctx.trans (offerPages_same State.ctx (fun _ => rfl) _)
  have stage : (offerPages (woken cause v)).stage = .run :=
    (offerPages_same State.stage (fun _ => rfl) _).trans run
  have awake : (offerPages (woken cause v)).ctx.state = .awake :=
    offerPages_same (fun u => u.ctx.state) (fun _ => rfl) _
  have cfg : (offerPages (woken cause v)).cfg = v.cfg := offerPages_same State.cfg (fun _ => rfl) _
  refine ⟨by rw [ctx]; rfl, by rw [ctx]; rfl, by rw [ctx]; rfl, by rw [ctx]; rfl, by rw [ctx]; rfl, by rw [ctx]; rfl,
    ?_, ?_, sent.cfg.trans cfg, ?_, fun c => ?_, fun c mode => ?_⟩
  · exact (sent.same State.nextStatus fun _ => rfl).trans (offerPages_same State.nextStatus (fun _ => rfl) _)
  · exact (sent.same State.group fun _ => rfl).trans (offerPages_same State.group (fun _ => rfl) _)
  · exact (sent.same State.lines fun _ => rfl).trans (offerPages_same State.lines (fun _ => rfl) _)
  · refine chooseRates_reported ?_
    rw [offerPages_same (fun u => channel u c) (fun _ => rfl)]
    simp [channel, woken]
  · rw [chooseRates_rate]
    exact chosenRate_awake stage awake (by rw [cfg]; exact mode)

/-! ## The head of the transmit queue -/

/-- A queued response is never replaced (R160 A). -/
theorem enqueue_head {f g : TxFrame} {q r : List TxFrame} (head : q.head? = some f) (response : f.kind = .response)
    (h : enqueue g q = some r) : r.head? = some f := by
  obtain ⟨rest, rfl⟩ : ∃ rest, q = f :: rest := ⟨q.tail, by cases q <;> simp_all⟩
  have stays : replaces g f = false := by
    unfold replaces
    rw [response]
    cases g.kind <;> simp
  unfold enqueue at h
  split at h
  · next k found =>
    cases h
    cases k with
    | zero => simp [List.findIdx?_cons, stays] at found
    | succ k => rfl
  · split at h <;> cases h
    rfl

theorem offer_head {f g : TxFrame} {s : State} (head : s.tx.head? = some f) (response : f.kind = .response) :
    (offer g s).tx.head? = some f := by
  unfold offer
  split
  · split
    · next q taken => exact enqueue_head head response taken
    · unfold raiseTxOverflow
      dsimp only
      split
      · exact head
      · split
        · next q taken => exact enqueue_head head response taken
        · exact head
  · exact head

theorem offerPages_head {f : TxFrame} {s : State} (head : s.tx.head? = some f) (response : f.kind = .response) :
    (offerPages s).tx.head? = some f := by
  unfold offerPages
  generalize (statusPages s).zipIdx = pages
  suffices keeps : ∀ t : State, t.tx.head? = some f →
      (pages.foldl (fun t p => offer (pageFrame s p.2 p.1) t) t).tx.head? = some f from keeps s head
  induction pages with
  | nil => exact fun _ h => h
  | cons p pages ih => exact fun t h => ih _ (offer_head h response)

end Sys2Proof.Machine
end

section
/-!
PROOFS. STATUS and FAULTS (R202), and the wake of the requests that act on the management records alone (R192, R197).
-/

namespace Sys2Proof.Machine

theorem flagBit_mul (b : Bool) (n : Nat) : flagBit b * 2 ^ n = if b = true then 2 ^ n else 0 := by
  cases b <;> simp [flagBit]

theorem flagBit_mod (b : Bool) : flagBit b % 2 = flagBit b := by cases b <;> rfl

/-- Flags laid side by side are the sum of their bits' places (R215). -/
theorem packBits_flags {α : Type} (f : α → Bool) (d : α) (l : List α) :
    packBits (l.map fun x => flagField (f x)) =
      ((List.range l.length).map fun k => if f (l.getD k d) = true then 2 ^ k else 0).sum := by
  induction l with
  | nil => rfl
  | cons x l ih =>
    have shifted : ((List.range l.length).map fun k => if f (l.getD k d) = true then 2 ^ (k + 1) else 0).sum =
        2 * ((List.range l.length).map fun k => if f (l.getD k d) = true then 2 ^ k else 0).sum := by
      rw [← List.sum_map_mul_left]
      congr 2
      funext k
      split <;> simp [Nat.pow_succ, Nat.mul_comm]
    simp only [List.map_cons, flagField, packBits, Nat.pow_one, flagBit_mod, List.length_cons, List.range_succ_eq_map,
      List.map_map, List.sum_cons, List.getD_cons_zero, Function.comp_def, List.getD_cons_succ, shifted] at ih ⊢
    rw [ih]
    cases f x <;> simp [flagBit]

/-- The classes counted and the classes with attention (R202). -/
theorem classSet_eq {s : State} (full : s.faults.length = 14) (f : FaultRecord → Bool) :
    classSet f s =
      ((List.range 14).map fun k => if f (s.faults.getD k ⟨0, none, false⟩) = true then 2 ^ k else 0).sum := by
  unfold classSet
  rw [packBits_flags f ⟨0, none, false⟩, full]

/-- The STATUS record as 12 section 12.2 lays it out, from RUN on. -/
theorem statusRecord_run {s : State} (run : s.stage = .run) (tokens : s.group.tokens < 16) :
    statusRecord s =
      let bit (b : Bool) (n : Nat) : Nat := if b then 2 ^ n else 0
      [BitVec.ofNat 8 (opStateCode s.ctx.state + 16 + bit (s.ctx.ignition == .run) 5 + bit (s.port != .active) 6),
       BitVec.ofNat 8
        (bit s.lines.ign.pending 0 + bit s.lines.doors.fl.pending 1 + bit s.lines.doors.fr.pending 2
          + bit s.lines.doors.rl.pending 3 + bit s.lines.doors.rr.pending 4 + bit s.lines.doors.tg.pending 5),
       BitVec.ofNat 8
        (s.group.tokens + bit s.group.crashHold.isSome 4 + bit s.store.snapshot.isSome 5 + bit s.store.parkKept 6),
       BitVec.ofNat 8
        ((match s.store.lastResult with | none => 0 | some true => 1 | some false => 2)
          + bit (s.faults.any fun r => r.attention) 2 + bit s.store.blankAtLoad 3 + bit s.store.lockCell.isSome 4)] := by
  have code : opStateCode s.ctx.state % 4 = opStateCode s.ctx.state := by cases s.ctx.state <;> rfl
  have saved : saveResultCode s.store.lastResult % 4 =
      match s.store.lastResult with | none => 0 | some true => 1 | some false => 2 := by
    rcases s.store.lastResult with _ | _ | _ <;> rfl
  have four : s.group.tokens % 16 = s.group.tokens := Nat.mod_eq_of_lt tokens
  simp only [← flagBit_mul]
  simp only [statusRecord, byteOf, packBits, flagField, allLines, List.map_cons, List.map_nil, Six.get, Five.get, run,
    stageCode, portSilent, saving, Nat.pow_one, flagBit_mod, code, four, saved, Nat.reducePow, Nat.reduceMod,
    List.cons.injEq, and_true]
  refine ⟨congrArg _ ?_, congrArg _ ?_, congrArg _ ?_, congrArg _ ?_⟩ <;> omega

/-! ## The requests that act on the management records alone -/

/-- What a request must leave alone for its wake to be that of R193. -/
structure Quiet (u v : State) : Prop where
  stage : v.stage = u.stage
  now : v.now = u.now
  state : v.ctx.state = u.ctx.state
  parkDelay : v.cfg.car.parkDelay = u.cfg.car.parkDelay
  modes : v.cfg.modes = u.cfg.modes
  tokens : v.group.tokens = u.group.tokens

/-- The requests of a part at rest that act on the management records alone (R197). -/
def managementOnly : ManagementRequest → Prop
  | .select .. | .read | .mask _ | .discard _ | .request .crashClear | .faults | .clearFaults | .save | .protect ..
  | .status => True
  | _ => False

theorem serve_quiet {r : ManagementRequest} (h : managementOnly r) (s : State) : Quiet s (serve r (maskAfter r s)).state := by
  cases r with
  | request kind =>
    cases kind with
    | crashClear => exact ⟨rfl, rfl, rfl, rfl, rfl, rfl⟩
    | _ => exact h.elim
  | select | read | discard | save | protect =>
    simp only [serve, serveSelect, serveRead, serveDiscard, serveSave, serveProtect]
    split <;> exact ⟨rfl, rfl, rfl, rfl, rfl, rfl⟩
  | mask | faults | clearFaults | status => exact ⟨rfl, rfl, rfl, rfl, rfl, rfl⟩
  | _ => exact h.elim

theorem woken_activity {s : State} (run : s.stage = .run) (cause : WakeCause) :
    woken cause (activity s) = woken cause s := by
  simp [activity, running, run, woken, recomputeIdle, idleDeadlineOf, anyAjar, closure]

/-- The state with the response to a request offered. -/
def responded (r : ManagementRequest) (x : Reply) : State :=
  offer (responseFrame x.state (requestCode r) x.result x.tail) x.state

theorem responded_same {α : Type} (f : State → α) (hf : ∀ u, f (lessTraffic u) = f u) (r : ManagementRequest)
    (x : Reply) : f (responded r x) = f x.state := offer_same f hf _ _

/-- The answer to a request that leaves the part at rest wakes it (R192, R197). -/
theorem answer_asleep {r : ManagementRequest} {x : Reply} (run : x.state.stage = .run)
    (asleep : x.state.ctx.state = .parked ∨ x.state.ctx.state = .deep) :
    answer r x = offerPages (woken .management (responded r x)) := by
  have stage : (responded r x).stage = .run := (responded_same State.stage (fun _ => rfl) r x).trans run
  have state : (activity (responded r x)).ctx.state = x.state.ctx.state := by
    rw [activity_run stage]
    exact responded_same (fun u => u.ctx.state) (fun _ => rfl) r x
  have stage' : (activity (responded r x)).stage = .run := by rw [activity_run stage]; exact stage
  rw [← woken_activity stage]
  exact wake_asleep stage' (by rw [state]; exact asleep) _

/-- A command that hands such a request to a part at rest wakes it. -/
theorem exec_wakes {i : Instr} {dt : Nat} {r : ManagementRequest} {s : State}
    (meaning : exec i s = perform dt (manage r) s) (asleep : Asleep s) (only : managementOnly r) :
    exec i s = .next (finish (elapse dt s)
      (offerPages (woken .management (responded r (serve r (maskAfter r (elapse dt s))))))) := by
  have quiet := serve_quiet only (elapse dt s)
  have other : r ≠ .restart := by rintro rfl; exact only
  rw [meaning, perform_supplied dt _ (by simp [asleep.run]), manage_run (s := elapse dt s) asleep.run other,
    answer_asleep (quiet.stage.trans asleep.run)]
  rw [quiet.state]
  exact asleep.asleep

/-- The part that such a request leaves. -/
theorem exec_awoken {i : Instr} {dt : Nat} {r : ManagementRequest} {s : State}
    (meaning : exec i s = perform dt (manage r) s) (asleep : Asleep s) (only : managementOnly r) :
    ∃ v u, exec i s = .next u ∧ Quiet (elapse dt s) v ∧ Awoken .management v u := by
  have quiet := serve_quiet only (elapse dt s)
  refine ⟨_, _, exec_wakes meaning asleep only, ⟨?_, ?_, ?_, ?_, ?_, ?_⟩, finish_woken _ _ ?_ fun _ => ?_⟩
  · exact (responded_same State.stage (fun _ => rfl) r _).trans quiet.stage
  · exact (responded_same State.now (fun _ => rfl) r _).trans quiet.now
  · exact (responded_same (fun u => u.ctx.state) (fun _ => rfl) r _).trans quiet.state
  · exact (responded_same (fun u => u.cfg.car.parkDelay) (fun _ => rfl) r _).trans quiet.parkDelay
  · exact (responded_same (fun u => u.cfg.modes) (fun _ => rfl) r _).trans quiet.modes
  · exact (responded_same (fun u => u.group.tokens) (fun _ => rfl) r _).trans quiet.tokens
  · exact (responded_same State.stage (fun _ => rfl) r _).trans (quiet.stage.trans asleep.run)
  · rw [responded_same (fun u => u.cfg.car.parkDelay) (fun _ => rfl), quiet.parkDelay]
    exact asleep.parkDelay

/-- The rows that hand such a request on. -/
theorem exec_managementOnly {i : Instr} {dt : Nat}
    (h : i ∈ [Instr.read dt, .faults dt, .status dt, .clearFaults dt, .save dt, .crashClear dt] ∨
      (∃ a b c, i = .select dt a b c ∨ i = .protect dt a b c) ∨ (∃ v, i = .mask dt v) ∨ ∃ a, i = .discard dt a) :
    ∃ r, managementOnly r ∧ ∀ s, exec i s = perform dt (manage r) s := by
  rcases h with h | ⟨a, b, c, rfl | rfl⟩ | ⟨v, rfl⟩ | ⟨a, rfl⟩
  · simp only [List.mem_cons, List.not_mem_nil, or_false] at h
    rcases h with rfl | rfl | rfl | rfl | rfl | rfl
    · exact ⟨.read, trivial, fun _ => rfl⟩
    · exact ⟨.faults, trivial, fun _ => rfl⟩
    · exact ⟨.status, trivial, fun _ => rfl⟩
    · exact ⟨.clearFaults, trivial, fun _ => rfl⟩
    · exact ⟨.save, trivial, fun _ => rfl⟩
    · exact ⟨.request .crashClear, trivial, fun _ => rfl⟩
  · exact ⟨.select a.toNat b.toNat c.toNat, trivial, fun _ => rfl⟩
  · exact ⟨.protect a.toNat b.toNat c.toNat, trivial, fun _ => rfl⟩
  · exact ⟨.mask v, trivial, fun _ => rfl⟩
  · exact ⟨.discard a.toNat, trivial, fun _ => rfl⟩

/-- Settles O10. -/
theorem statusAndFaultsShow : Obligations.StatusAndFaultsShow := by
  intro s dt room bit shown classes faultSets
  refine ⟨fun alert tokens => ⟨?_, fun full => ?_⟩, fun asleep tokens empty => ?_, fun asleep i row => ?_⟩
  · refine answersActive_replied (r := .status) rfl alert (by simp) ?_ alert room
    have record := statusRecord_run (s := setMask none (elapse dt s)) alert.run tokens
    simp only [serve, maskAfter, record, elapse_ctx, setMask_ctx, alert.awake]
    rfl
  · refine answersActive_replied (r := .faults) rfl alert (by simp) ?_ alert room
    simp only [serve, serveFaults, maskAfter, classSet_eq (s := setMask none (elapse dt s)) full]
    rfl
  · let x : Reply := ⟨setMask none (elapse dt s), .ok, statusRecord (setMask none (elapse dt s))⟩
    have stage : (responded .status x).stage = .run := (responded_same State.stage (fun _ => rfl) _ _).trans asleep.run
    have delay : 0 < (responded .status x).cfg.car.parkDelay := by
      rw [responded_same (fun u => u.cfg.car.parkDelay) (fun _ => rfl)]
      exact asleep.parkDelay
    refine ⟨_, exec_wakes (r := .status) rfl asleep trivial, (finish_woken _ _ stage fun _ => delay).state, ?_⟩
    have queued : (responded .status x).tx.head? = some (responseFrame s 0x0E .ok x.tail) := by
      have free : x.state.tx.length < Config.txPlaces := room
      have none_waits : x.state.tx = [] := empty
      rw [responded, offer_response rfl free, none_waits]
      rfl
    have state : opStateCode s.ctx.state = if s.ctx.state = .parked then 2 else 3 := by
      rcases asleep.asleep with h | h <;> simp [h, opStateCode]
    have record : x.tail = shown (if s.ctx.state = .parked then 2 else 3) := by
      rw [← state]
      exact statusRecord_run (s := setMask none (elapse dt s)) asleep.run tokens
    have served : serve .status (maskAfter .status (elapse dt s)) = x := rfl
    rw [served, finish_woken_eq _ stage fun _ => delay, (chooseRates_sent _).same State.tx fun _ => rfl, ← record]
    exact offerPages_head (s := woken .management (responded .status x)) queued rfl
  · obtain ⟨r, only, meaning⟩ := exec_managementOnly row
    obtain ⟨v, u, answer, quiet, awoken⟩ := exec_awoken (meaning s) asleep only
    have now : v.now = s.now + dt := quiet.now
    refine ⟨u, answer, awoken.state, awoken.lastWake, by rw [awoken.lastActivity, now], awoken.deepDeadline,
      by rw [awoken.nextStatus, now], by rw [awoken.group, quiet.tokens]; rfl, fun c => ⟨awoken.reported c, fun mode => ?_⟩⟩
    exact awoken.rates c (by rw [quiet.modes]; exact mode)

end Sys2Proof.Machine
end

section
/-!
PROOFS. WRITEs to CLOSURE_SETTINGS, PROFILES, OPERATIONS, RULES and MANAGEMENT (R44, R46, R88, R92, R128, R144, R199,
R200): the owner's answer decides, and each owner's checks are those of the statement.
-/

namespace Sys2Proof.Machine

/-! ## How a ready word comes to its answer -/

section
variable {s t : State} {i : Instr} {dt : Nat} {v : Word} {table index word : Nat} {next : Cursor}
  (meaning : exec i s = perform dt (manage (.write v)) s) (ready : WriteReady table index word s)
  (writable : readTable table = false)
include meaning ready writable

/-- The owner accepts; `t` holds the change. -/
theorem answers_accepted (owner : ownerWrite ⟨table, index, word⟩ v.toNat (setMask none (elapse dt s)) =
      .ok (setMask none (elapse dt t)))
    (calm : Alert t) (tx : t.tx.length < Config.txPlaces) (onward : advance ⟨table, index, word⟩ = (next, false)) :
    AnswersActive i s (written dt next t) :=
  answersActive_written (c := ⟨table, index, word⟩) meaning ready ((writeAt_ready ready writable).trans owner) calm tx
    onward

/-- The owner refuses. -/
theorem answers_refused {r : Result}
    (owner : ownerWrite ⟨table, index, word⟩ v.toNat (setMask none (elapse dt s)) = .error r) :
    AnswersActive i s (replied dt 0x03 r [] s) :=
  answersActive_refused (c := ⟨table, index, word⟩) meaning ready ((writeAt_ready ready writable).trans owner)

/-- The owner judges ranges. -/
theorem answers_inRange {ok : Bool} {p : Prop} [Decidable p] (judge : ok = true ↔ p)
    (owner : ownerWrite ⟨table, index, word⟩ v.toNat (setMask none (elapse dt s)) =
      inRange ok (setMask none (elapse dt t)))
    (calm : p → Alert t) (tx : t.tx.length < Config.txPlaces) (onward : advance ⟨table, index, word⟩ = (next, false)) :
    AnswersActive i s (if p then written dt next t else replied dt 0x03 .range [] s) := by
  split
  · next within =>
    refine answers_accepted meaning ready writable (owner.trans ?_) (calm within) tx onward
    rw [inRange, if_pos (judge.mpr within)]
  · next outside =>
    refine answers_refused meaning ready writable (owner.trans ?_)
    rw [inRange, if_neg fun h => outside (judge.mp h)]

/-- The owner accepts at the last word of its table: the cursor stays and the END flag goes out (R198). -/
theorem answers_last (owner : ownerWrite ⟨table, index, word⟩ v.toNat (setMask none (elapse dt s)) =
      .ok (setMask none (elapse dt t)))
    (kept : t.mgmt = s.mgmt) (calm : Alert t) (tx : t.tx.length < Config.txPlaces)
    (last : advance ⟨table, index, word⟩ = (⟨table, index, word⟩, true)) :
    AnswersActive i s (writtenLast dt t) := by
  refine answersActive_replied (r := .write v) meaning ready.alert (by simp) ?_ calm tx
  have cursor : s.mgmt.cursor = ⟨table, index, word⟩ := ready.cursor
  have stays : setCursor ⟨table, index, word⟩ (setMask none (elapse dt t)) = setMask none (elapse dt t) := by
    rw [← cursor, ← kept]
    rfl
  have accepted := (writeAt_ready (c := ⟨table, index, word⟩) (dt := dt) (v := v) ready writable).trans owner
  simp only [serve, serveWrite, maskAfter, elapse_mgmt, ready.mask, maskedValue, cursor, accepted, last, stays]
  rfl

end

/-! ## The windows' entries of CLOSURE_SETTINGS -/

theorem advance_window (w : WindowId) {word : Nat} (h : word < 3) :
    advance ⟨1, windowCode w + 1, word⟩ = (⟨1, windowCode w + 1, word + 1⟩, false) := by
  simp [advance, tableShape, h]

theorem windowMoving_resting {x : Window} (rest : x.state = .idle ∨ x.state = .fault) : windowMoving x = false := by
  rcases rest with h | h <;> simp [windowMoving, h]

theorem within_iff {low high n : Nat} : within low high n = true ↔ low ≤ n ∧ n ≤ high := by simp [within]

theorem travelBusy_moving {s : State} {w : WindowId} {travel : Nat} (changes : travel ≠ (windowCfg s w).travel)
    (busy : (window s w).state = .waiting ∨ (window s w).state = .movingManual ∨ (window s w).state = .movingAuto ∨
      (window s w).state = .reversing) : travelBusy s w travel = true := by
  rcases busy with h | h | h | h <;> simp [travelBusy, windowMoving, h, changes]

theorem travelBusy_resting {s : State} {w : WindowId} (travel : Nat)
    (rest : (window s w).state = .idle ∨ (window s w).state = .fault) : travelBusy s w travel = false := by
  rcases rest with h | h <;> simp [travelBusy, windowMoving, h]

theorem travelBusy_same {s : State} {w : WindowId} {travel : Nat} (same : travel = (windowCfg s w).travel) :
    travelBusy s w travel = false := by simp [travelBusy, same]

/-- A changed Travel of a window at rest (R44). -/
theorem writeWindow0_changed {s : State} {w : WindowId} {v : Nat} (changes : bitsOf v 0 13 ≠ (windowCfg s w).travel)
    (rest : (window s w).state = .idle ∨ (window s w).state = .fault) :
    writeWindow0 w v s =
      inRange (within 1000 8000 (bitsOf v 0 13) && within 5 60 (bitsOf v 26 6))
        (setWindowCfg w
          { windowCfg s w with
            travel := bitsOf v 0 13, openLimit := min (bitsOf v 13 13) (bitsOf v 0 13), tBase := bitsOf v 26 6 }
          (setWindow w (travelChanged (bitsOf v 0 13) (window s w)) s)) := by
  have stays (t : State) (h : window t w = travelChanged (bitsOf v 0 13) (window s w)) :
      followLimit s w t = t := by
    refine followLimit_resting s ?_ ?_ <;> rw [h] <;>
      rcases rest with h | h <;> simp [travelChanged, unnormalize, h]
  unfold writeWindow0
  dsimp only
  rw [travelBusy_resting _ rest, if_neg (by decide), if_neg changes, stays]
  simp [setWindowCfg, window, setWindow]

/-- An Open Limit and T_base written with the Travel as it is (R45, R46). -/
theorem writeWindow0_limit {s : State} {w : WindowId} {v : Nat} (same : bitsOf v 0 13 = (windowCfg s w).travel) :
    writeWindow0 w v s =
      inRange (within 1000 8000 (windowCfg s w).travel && within 5 60 (bitsOf v 26 6))
        (followLimit s w
          (setWindowCfg w
            { windowCfg s w with
              openLimit := min (bitsOf v 13 13) (windowCfg s w).travel, tBase := bitsOf v 26 6 } s)) := by
  unfold writeWindow0
  dsimp only
  rw [travelBusy_same same, if_neg (by decide), if_pos same, same]

/-- Settles O15. -/
theorem travelWriteResetsThePosition : Obligations.TravelWriteResetsThePosition := by
  intro s dt w v ready travel tBase x old changes
  refine ⟨fun busy => ?_, fun rest => ?_⟩
  · refine answers_refused rfl ready rfl ?_
    have moves := travelBusy_moving (s := setMask none (elapse dt s)) changes busy
    simp only [ownerWrite, writeClosureSettings_window, writeWindow0]
    exact if_pos moves
  · refine answers_inRange (ok := within 1000 8000 travel && within 5 60 tBase) rfl ready rfl ?_ ?_
      (fun _ => ready.alert.of_same rfl rfl rfl rfl rfl rfl) ready.room (advance_window w (by decide))
    · simp [within_iff, and_assoc]
    · simp only [ownerWrite, writeClosureSettings_window]
      exact writeWindow0_changed (s := setMask none (elapse dt s)) changes rest

/-! ## The end of a motion that no operation waits for -/

theorem endSlot_waits (w : WindowId) (slots : List Slot) :
    endSlot w false slots = slots.map fun sl => if sl.window = w then ⟨sl.window, true⟩ else sl := by
  simp only [endSlot, Bool.false_eq_true, if_false]
  congr 1
  funext sl
  simp only [beq_iff_eq]

theorem endRunning_eq {s : State} {w : WindowId} {outcome : MotionOutcome} (kept : outcome ≠ .lost)
    (clear : (window s w).clearPending = false) (sends : channelOff s (windowClosure w) = false) :
    endRunning w (some outcome) s = endedRunning w outcome s := by
  have free (x : Window) : channelOff (setWindow w x s) (windowClosure w) = false := sends
  unfold endRunning
  simp only [free, endSlot_waits]
  simp [endedRunning, endedRecord, setWindow, clear, kept]

/-- A motion ends where it is; with an origin of no operation nothing is handed on (R58, R63). -/
theorem endMotion_plain {s : State} {w : WindowId} {outcome : MotionOutcome}
    (moving : (window s w).state = .movingManual ∨ (window s w).state = .movingAuto)
    (origin : operationOrigin (window s w).origin = false) (kept : outcome ≠ .lost)
    (clear : (window s w).clearPending = false) (sends : channelOff s (windowClosure w) = false) :
    endMotion w outcome s = endedRunning w outcome s := by
  have running : endMotionRecord w outcome s = endRunning w (some outcome) s := by
    rcases moving with h | h <;> simp [endMotionRecord, windowMoving, h]
  rw [endMotion, running, endRunning_eq kept clear sends]
  simp [handOutcome, origin]

/-- In an alert part a channel that is not FORCED_OFF sends. -/
theorem Alert.sends {s : State} (a : Alert s) {c : Closure} (mode : s.cfg.modes.get c ≠ .forcedOff) :
    channelOff s c = false := by
  simp [channelOff, a.rates c, chosenRate_awake a.run a.awake mode]

theorem inMotion_iff {x : Window} : inMotion x = true ↔ x.state = .movingManual ∨ x.state = .movingAuto := by
  simp [inMotion]

/-- Settles O16. -/
theorem openLimitWriteClampsAndEndsTheMotion : Obligations.OpenLimitWriteClampsAndEndsTheMotion := by
  intro s dt w v ready x old limit changed same travelLow travelHigh tBaseLow tBaseHigh
  have calm : Alert changed := ready.alert.of_same rfl rfl rfl rfl rfl rfl
  have ranges : (within 1000 8000 old.travel && within 5 60 (bitsOf v.toNat 26 6)) = true := by
    simp [within_iff, *]
  have owner : ownerWrite ⟨1, windowCode w + 1, 0⟩ v.toNat (setMask none (elapse dt s)) =
      .ok (followLimit (setMask none (elapse dt s)) w (setMask none (elapse dt changed))) := by
    simp only [ownerWrite, writeClosureSettings_window]
    rw [writeWindow0_limit (s := setMask none (elapse dt s)) same]
    exact if_pos ranges
  refine ⟨fun rest => ?_, fun moving down body clear recomputed reached mode => ?_⟩
  · refine answers_accepted rfl ready rfl (owner.trans (congrArg _ ?_)) calm ready.room (advance_window w (by decide))
    refine followLimit_resting _ ?_ ?_ <;>
      · show x.state ≠ _
        rcases rest with h | h | h | h <;> simp [h]
  · refine answers_accepted rfl ready rfl (owner.trans (congrArg _ ?_))
      (calm.of_same rfl rfl rfl rfl rfl rfl) ready.room (advance_window w (by decide))
    have ends : (inMotion x && nothingLeft x.direction (effectiveTarget changed w) x.position) = true := by
      simp [inMotion_iff.mpr moving, down, nothingLeft]
      exact reached
    have follows : followLimit (setMask none (elapse dt s)) w (setMask none (elapse dt changed)) =
        endMotion w .reached (setMask none (elapse dt changed)) := by
      rw [followLimit, if_neg (fun h => recomputed h.symm), endIfReached]
      exact if_pos ends
    have plain : operationOrigin x.origin = false := by simp [body, operationOrigin]
    rw [follows]
    exact endMotion_plain (s := setMask none (elapse dt changed)) moving plain (by decide) clear (calm.sends mode)

theorem bitsOf_lt (n low width : Nat) : bitsOf n low width < 2 ^ width := Nat.mod_lt _ (Nat.two_pow_pos _)

/-- A Child Open Limit of a rear window that is not moving (R37, R46). -/
theorem writeWindow3_rear {s : State} {d : RearDoor} (v : Nat)
    (manual : (window s (rearWindow d)).state ≠ .movingManual) (auto : (window s (rearWindow d)).state ≠ .movingAuto) :
    writeWindow3 (rearWindow d) v s =
      inRange (bitsOf v 0 13 ≤ (windowCfg s (rearWindow d)).travel)
        { s with cfg := { s.cfg with childOpenLimit := s.cfg.childOpenLimit.set d (bitsOf v 0 13) } } := by
  have rear : windowRear (rearWindow d) = some d := by cases d <;> rfl
  unfold writeWindow3
  rw [rear]
  dsimp only
  rw [followLimit_resting]
  · exact auto
  · exact manual

/-- Settles O17. -/
theorem parameterAndChildLimitWritesAct : Obligations.ParameterAndChildLimitWritesAct := by
  intro s dt v
  have travel (w : WindowId) : windowCfg (setMask none (elapse dt s)) w = windowCfg s w := rfl
  refine ⟨fun w => ⟨fun ready => ?_, fun ready => ?_⟩, fun d ready manual auto => ?_⟩
  · refine answers_inRange rfl ready rfl ?_ (by simp only [ownerWrite, writeClosureSettings_window]; rfl)
      (fun _ => ready.alert.of_same rfl rfl rfl rfl rfl rfl) ready.room (advance_window w (by decide))
    simp [within_iff, and_assoc, travel]
  · have ceiling : bitsOf v.toNat 4 8 ≤ 255 := Nat.le_of_lt_succ (bitsOf_lt v.toNat 4 8)
    refine answers_inRange rfl ready rfl ?_ (by simp only [ownerWrite, writeClosureSettings_window]; rfl)
      (fun _ => ready.alert.of_same rfl rfl rfl rfl rfl rfl) ready.room (advance_window w (by decide))
    simp [within_iff, and_assoc, ceiling, travel]
  · refine answers_inRange (ok := bitsOf v.toNat 0 13 ≤ (windowCfg s (rearWindow d)).travel) rfl ready rfl (by simp) ?_
      (fun _ => ready.alert.of_same rfl rfl rfl rfl rfl rfl) ready.room ?_
    · simp only [ownerWrite, writeClosureSettings_window]
      exact writeWindow3_rear (s := setMask none (elapse dt s)) v.toNat manual auto
    · have := windowCode_lt (rearWindow d)
      simp [advance, tableShape]
      omega

/-! ## The car's entry of CLOSURE_SETTINGS -/

/-- No window follows a change of the car's settings unless it moves or waits by its own switch (R36). -/
theorem followSettings_car {s : State} (c : CarSettings) (free : ∀ w, (window s w).origin ≠ some .ownSwitch) :
    followSettings s (setCar c s) = setCar c s := by
  have stays (w : WindowId) : followInhibit s w (followLimit s w (setCar c s)) = setCar c s := by
    have limit : followLimit s w (setCar c s) = setCar c s := if_pos rfl
    have origin : ((window (setCar c s) w).origin == some .ownSwitch) = false :=
      beq_eq_false_iff_ne.mpr (free w)
    simp [limit, followInhibit, origin]
  simp [followSettings, allWindows, stays]

theorem AnswersActive.of_agrees {i : Instr} {s t u : State} (h : AnswersActive i s t) (agrees : AgreeButActivity t u) :
    AnswersActive i s u := by
  obtain ⟨x, answer, same, active⟩ := h
  exact ⟨x, answer, same.trans agrees, active⟩

theorem closeState_unparked {s : State} (awake : s.ctx.state = .awake) (parks : mayPark s = false) :
    closeState (moveDeep s) = s := by
  have unmoved : moveDeep s = s := by
    unfold moveDeep
    split <;> simp [awake]
  simp [unmoved, closeState, parks, maySinkDeep, awake]

/-- A Park and Deep Delay written in AWAKE to a part that they do not park (R187, R189, R191). -/
theorem writeCar1_awake {s : State} {v : Nat} (awake : s.ctx.state = .awake)
    (stays : s.ctx.ignition = .run ∨
      s.now < s.ctx.lastActivity + (if anyAjar s then 600000 else bitsOf v 0 8 * 1000)) :
    writeCar1 v s =
      inRange (within 5 255 (bitsOf v 0 8) && within 1 255 (bitsOf v 8 8))
        (recomputeIdle (setCar { s.cfg.car with parkDelay := bitsOf v 0 8, deepDelay := bitsOf v 8 8 } s)) := by
  have parks :
      mayPark (recomputeIdle (setCar { s.cfg.car with parkDelay := bitsOf v 0 8, deepDelay := bitsOf v 8 8 } s)) = false := by
    rcases stays with ignition | ahead
    · simp [mayPark, recomputeIdle, setCar, ignition]
    · have later : ¬ s.ctx.lastActivity + (if anyAjar s then 600000 else bitsOf v 0 8 * 1000) ≤ s.now := by omega
      simp only [mayPark, Bool.and_eq_false_iff, decide_eq_false_iff_not]
      exact .inr later
  exact congrArg (inRange _) (closeState_unparked (by exact awake) parks)

/-- Settles O18. -/
theorem carSettingWritesTakeEffect : Obligations.CarSettingWritesTakeEffect := by
  intro s dt v
  refine ⟨fun ready free => ?_, fun ready stays i row => ?_⟩
  · refine answers_inRange (ok := within 5 50 (bitsOf v.toNat 1 6) && bitsOf v.toNat 15 6 ≤ 60) rfl ready rfl
      (by simp [within_iff, and_assoc]) ?_ (fun _ => ready.alert.of_same rfl rfl rfl rfl rfl rfl) ready.room rfl
    have settings := fun c => followSettings_car (s := setMask none (elapse dt s)) c free
    simp only [ownerWrite, writeClosureSettings, if_true, writeCar0, settings]
    rfl
  · have park : bitsOf v.toNat 0 8 ≤ 255 := Nat.le_of_lt_succ (bitsOf_lt v.toNat 0 8)
    have deep : bitsOf v.toNat 8 8 ≤ 255 := Nat.le_of_lt_succ (bitsOf_lt v.toNat 8 8)
    have written_ : AnswersActive i s
        (if 5 ≤ bitsOf v.toNat 0 8 ∧ 1 ≤ bitsOf v.toNat 8 8 then
          written dt ⟨1, 0, 2⟩
            (recomputeIdle
              (setCar { s.cfg.car with parkDelay := bitsOf v.toNat 0 8, deepDelay := bitsOf v.toNat 8 8 } s))
        else replied dt 0x03 .range [] s) := by
      have meaning : exec i s = perform dt (manage (.write v)) s := by rcases row with rfl | rfl <;> rfl
      refine answers_inRange (ok := within 5 255 (bitsOf v.toNat 0 8) && within 1 255 (bitsOf v.toNat 8 8)) meaning ready
        rfl (by simp [within_iff, park, deep]) ?_ (fun h => ?_) ready.room rfl
      · exact writeCar1_awake (s := setMask none (elapse dt s)) ready.alert.awake stays
      · exact ⟨ready.alert.run, ready.alert.awake, fun _ => Nat.lt_of_lt_of_le (by decide) h.1, ready.alert.rates⟩
    refine written_.of_agrees ?_
    split <;> rfl

end Sys2Proof.Machine
end

section
/-!
PROOFS. WRITEs to PROFILES, OPERATIONS, RULES and MANAGEMENT, and the checks that stand before every owner's (R88, R128,
R144, R199, R200, R205).
-/

namespace Sys2Proof.Machine

/-- Settles O20. -/
theorem profileAndReportWritesTakeEffect : Obligations.ProfileAndReportWritesTakeEffect := by
  intro s dt v
  refine ⟨fun w k small ready => ?_, fun i ready => ?_⟩
  · intro old zones changed
    have calm : Alert changed := ready.alert.of_same rfl rfl rfl rfl rfl rfl
    have owner : ownerWrite ⟨3, windowCode w, k⟩ v.toNat (setMask none (elapse dt s)) =
        inRange (zones.all (· ≤ 200)) (setMask none (elapse dt changed)) := by
      simp only [ownerWrite, writeProfiles, windowOfIndex_code]
      rfl
    have judge : zones.all (· ≤ 200) = true ↔ ∀ z ∈ zones, z ≤ 200 := by simp
    have bound := windowCode_lt w
    by_cases within : ∀ z ∈ zones, z ≤ 200
    · have accepted := owner.trans (if_pos (judge.mpr within))
      rw [if_neg (not_not.mpr within)]
      split
      · next inner =>
        exact answers_accepted rfl ready rfl accepted calm ready.room (by simp [advance, tableShape, inner])
      · next lastWord =>
        obtain rfl : k = 3 := by omega
        split
        · next rr =>
          subst rr
          exact answers_last rfl ready rfl accepted rfl calm ready.room
            (by simp [advance, tableShape, windowCode])
        · next other =>
          have more : windowCode w + 1 < 4 := by cases w <;> simp_all [windowCode]
          exact answers_accepted rfl ready rfl accepted calm ready.room
            (by simp [advance, tableShape, more])
    · rw [if_pos within]
      exact answers_refused rfl ready rfl (owner.trans (if_neg fun h => within (judge.mp h)))
  · intro changed
    have calm : Alert changed := ready.alert.of_same rfl rfl rfl rfl rfl rfl
    have bound := i.isLt
    split
    · next inner => exact answers_accepted rfl ready rfl rfl calm ready.room (by simp [advance, tableShape, inner])
    · next last =>
      exact answers_last rfl ready rfl rfl rfl calm ready.room (by simp [advance, tableShape]; omega)

/-! ## The checks before the owner's (R199, R200) -/

/-- A WRITE that is refused, whatever value the one-shot mask leaves: the mask is used up. -/
theorem answers_write_refused {i : Instr} {s : State} {dt : Nat} {v : Word} {r : Result}
    (meaning : exec i s = perform dt (manage (.write v)) s) (alert : Alert s) (room : s.tx.length < Config.txPlaces)
    (refused : ∀ u, writeAt s.mgmt.cursor u (setMask none (elapse dt s)) = .error r) :
    AnswersActive i s (replied dt 0x03 r [] s) := by
  refine answersActive_replied (r := .write v) meaning alert (by simp) ?_ alert room
  simp only [serve, serveWrite, maskAfter, elapse_mgmt, refused]
  rfl

theorem entryWords_identifiers (s : State) : entryWords s 14 0 = place (identifierFields s) := rfl

theorem entryWords_descriptor (s : State) (i : Nat) :
    entryWords s 7 i = place (((s.cfg.descriptors[i]?).map descriptorFields).getD []) := rfl

/-- The word of MANAGEMENT entry 0 does not show the clock. -/
theorem readWord_identifiers (s : State) (dt : Nat) : readWord (elapse dt s) ⟨14, 0, 0⟩ = readWord s ⟨14, 0, 0⟩ := by
  rw [readWord, readWord, entryWords_identifiers, entryWords_identifiers]
  rfl

/-- The words of an OPERATIONS entry show its descriptor alone. -/
theorem entryWords_operations (s : State) (dt i : Nat) :
    entryWords (setMask none (elapse dt s)) 7 i = entryWords s 7 i := by
  rw [entryWords_descriptor, entryWords_descriptor]
  rfl

/-- The reply to a WRITE, by the answer of the checks at the cursor and the cursor's advance (R198, R199). -/
def writeReply (next : Cursor) (last : Bool) (before : State) : WriteAnswer → Reply
  | .error r => reply r before
  | .ok t => ⟨setCursor next t, .ok, [byteOf [(1, flagBit last)]]⟩

/-- A WRITE under whatever mask is present (R199, R200). -/
theorem serve_write {s : State} {c next : Cursor} {last : Bool} {u v : Word} {a : WriteAnswer}
    (cursor : s.mgmt.cursor = c) (onward : advance c = (next, last))
    (value : maskedValue s.mgmt.mask (readWord s c) v = u) (checked : writeAt c u (setMask none s) = a) :
    serve (.write v) (maskAfter (.write v) s) = writeReply next last (setMask none s) a := by
  subst cursor
  simp only [serve, serveWrite, maskAfter, value, checked, onward]
  cases a <;> rfl

theorem maskedValue_some (m held value : Word) :
    maskedValue (some m) held value = (held &&& m) ||| (value &&& ~~~m) := rfl

/-- Entry 0 of MANAGEMENT is written where its region is open (R196, R199). -/
theorem writeAt_identifiers {s : State} (open_ : regionFlag s.cfg.protection.writeFlags 14 = false) (u : Word) :
    writeAt ⟨14, 0, 0⟩ u s = writeIdentifiers u.toNat s := by
  simp [writeAt, open_, readTable, ownerWrite, writeManagement]

/-- The identifiers of a word of MANAGEMENT entry 0 in place (R196). -/
def setIds (n : Nat) (s : State) : State :=
  { s with
    cfg := { s.cfg with
      ids :=
        { storedBase := BitVec.ofNat 11 (bitsOf n 0 11), bit3 := selectorOf (bitOf n 11)
          bit4 := selectorOf (bitOf n 12), bit5 := selectorOf (bitOf n 13) } } }

theorem writeIdentifiers_aligned {n : Nat} {s : State} (aligned : bitsOf n 0 2 = 0) :
    writeIdentifiers n s = .ok (setIds n s) := by
  rw [writeIdentifiers, inRange, if_pos (decide_eq_true aligned)]
  rfl

/-- A WRITE of the identifiers with a mask present: `n` is what the mask leaves of the value (R200). -/
theorem answers_identifiers {s : State} {dt : Nat} {v m : Word} (alert : Alert s)
    (room : s.tx.length < Config.txPlaces) (cursor : s.mgmt.cursor = ⟨14, 0, 0⟩) (mask : s.mgmt.mask = some m)
    (unprotected : s.cfg.protection.writeFlags.rules = false) {n : Nat}
    (masked : ((readWord s ⟨14, 0, 0⟩ &&& m) ||| (v &&& ~~~m)).toNat = n) :
    AnswersActive (.write dt v) s
      (if bitsOf n 0 2 = 0 then written dt ⟨14, 1, 0⟩ (setIds n s) else replied dt 0x03 .range [] s) := by
  have value : maskedValue (elapse dt s).mgmt.mask (readWord (elapse dt s) ⟨14, 0, 0⟩) v =
      (readWord s ⟨14, 0, 0⟩ &&& m) ||| (v &&& ~~~m) := by
    rw [elapse_mgmt, mask, readWord_identifiers, maskedValue_some]
  have checked := writeAt_identifiers (s := setMask none (elapse dt s)) unprotected
    ((readWord s ⟨14, 0, 0⟩ &&& m) ||| (v &&& ~~~m))
  rw [masked] at checked
  have served := serve_write (s := elapse dt s) (next := ⟨14, 1, 0⟩) (last := false) cursor
    (by simp [advance, tableShape]) value checked
  split
  · next aligned =>
    rw [writeIdentifiers_aligned aligned] at served
    exact answersActive_replied (r := .write v) (t := { setIds n s with mgmt := { s.mgmt with cursor := ⟨14, 1, 0⟩ } })
      rfl alert (by simp) served (alert.of_same rfl rfl rfl rfl rfl rfl) room
  · next outside =>
    rw [writeIdentifiers, inRange, if_neg (by simpa using outside)] at served
    exact answersActive_replied (r := .write v) rfl alert (by simp) served alert room

/-- Settles O21. -/
theorem writeObeysProtectionAndMask : Obligations.WriteObeysProtectionAndMask := by
  intro s dt v alert room
  refine ⟨fun closed => ?_, fun open_ readOnly => ?_, fun m cursor mask unprotected => ?_⟩
  · exact answers_write_refused rfl alert room fun u => if_pos closed
  · refine answers_write_refused rfl alert room fun u => ?_
    have closed : regionFlag (setMask none (elapse dt s)).cfg.protection.writeFlags s.mgmt.cursor.table = false := open_
    have table : readTable s.mgmt.cursor.table = true := by simpa [readTable] using readOnly
    rw [writeAt, closed, table]
    rfl
  · exact answers_identifiers alert room cursor mask unprotected rfl

/-- Settles O24. -/
theorem operationsWriteReplacesTheDescriptor : Obligations.OperationsWriteReplacesTheDescriptor := by
  intro s dt i k v small ready words
  have word : k ≠ 3 := by omega
  have owner : ownerWrite ⟨7, i, k⟩ v.toNat (setMask none (elapse dt s)) =
      match readDescriptor (words.getD 0 0) (words.getD 1 0) (words.getD 2 0) with
      | some d =>
        .ok (setMask none
          (elapse dt { s with cfg := { s.cfg with descriptors := s.cfg.descriptors.set i d } }))
      | none => .error .range := by
    simp only [ownerWrite, writeOperations, word, if_false, entryWords_operations]
    rfl
  split
  · next d read =>
    refine answers_accepted rfl ready rfl (owner.trans (by rw [read])) (ready.alert.of_same rfl rfl rfl rfl rfl rfl)
      ready.room ?_
    simp [advance, tableShape]
    omega
  · next read => exact answers_refused rfl ready rfl (owner.trans (by rw [read]))

end Sys2Proof.Machine
end

section
/-! PROOFS. WRITEs to RULES (R144, R199). -/

namespace Sys2Proof.Machine
theorem rule_of_getElem {s : State} {i : Nat} {r : Rule} (h : s.cfg.rules[i]? = some r) : rule s i = r := by
  simp [rule, h]

theorem requestHolds_iff (r : Rule) :
    requestHolds r = true ↔
      (r.action = .request → bitsOf r.argument.toNat 0 4 ∈ [1, 2, 3, 4, 5, 6, 7, 11, 12, 13, 14]) := by
  simp only [requestHolds, ruleKind, Bool.or_eq_true, bne_iff_ne, ne_eq, List.contains_iff_mem]
  tauto

/-- The kind in the low four bits of an argument of 12 (R216). -/
theorem bitsOf_argument (n : Nat) : bitsOf (BitVec.ofNat 12 (bitsOf n 0 12)).toNat 0 4 = bitsOf n 0 4 := by
  simp only [BitVec.toNat_ofNat, bitsOf]
  omega

/-- A change that keeps base, mask, min length and action keeps the hit count (R144). -/
theorem setRule_same {s : State} {i : Nat} {new : Rule}
    (same : (rule s i).base = new.base ∧ (rule s i).mask = new.mask ∧ (rule s i).minLength = new.minLength ∧
      (rule s i).action = new.action) :
    setRule i new s = { s with cfg := { s.cfg with rules := s.cfg.rules.set i new } } := by
  simp [setRule, same]

theorem advance_rule (i : Fin 32) {k : Nat} (h : k < 3) : advance ⟨9, i, k⟩ = (⟨9, i, k + 1⟩, false) := by
  simp [advance, tableShape, h]

section
variable (i : Fin 32) (n : Nat) (s : State)

theorem ownerWrite_rule0 : ownerWrite ⟨9, i, 0⟩ n s = writeRule0 i n s := by simp [ownerWrite, writeRules]

theorem ownerWrite_rule1 : ownerWrite ⟨9, i, 1⟩ n s = writeRule1 i n s := by simp [ownerWrite, writeRules]

theorem ownerWrite_rule2 : ownerWrite ⟨9, i, 2⟩ n s = writeRule2 i n s := by simp [ownerWrite, writeRules]

theorem ownerWrite_rule3 : ownerWrite ⟨9, i, 3⟩ n s = .error .range := by simp [ownerWrite, writeRules]

end

/-- Settles O25. -/
theorem ruleWriteReplacesTheEntry : Obligations.RuleWriteReplacesTheEntry := by
  intro s dt v
  refine ⟨?_, fun i r entry => ?_⟩
  · intro f n uplink settings
    refine ⟨fun ready => ⟨fun odd => ?_, fun aligned => ?_⟩, fun ready => ?_, fun ready => ?_⟩
    · exact answers_refused rfl ready rfl (if_neg (by simpa using odd))
    · exact answers_accepted rfl ready rfl (if_pos (by simpa using aligned))
        (ready.alert.of_same rfl rfl rfl rfl rfl rfl) ready.room rfl
    · exact answers_accepted rfl ready rfl rfl (ready.alert.of_same rfl rfl rfl rfl rfl rfl) ready.room rfl
    · exact answers_accepted rfl ready rfl rfl (ready.alert.of_same rfl rfl rfl rfl rfl rfl) ready.room rfl
  · intro n carried range replaced
    have held : rule (setMask none (elapse dt s)) i = r := rule_of_getElem (s := s) entry
    refine ⟨fun ready => ⟨fun outside => ?_, fun action code => ⟨fun wrong => ?_, fun short allowed => ?_⟩⟩,
      fun ready => ⟨fun wrong => ?_, fun allowed => ?_⟩, fun ready => ?_, fun ready => ?_⟩
    · refine answers_refused rfl ready rfl ((ownerWrite_rule0 i _ _).trans ?_)
      simp only [writeRule0, outside, n]
    · refine answers_refused rfl ready rfl ((ownerWrite_rule0 i _ _).trans ?_)
      simp only [writeRule0, code, n, held]
      refine if_neg fun fits => ?_
      obtain ⟨short, allowed⟩ := Bool.and_eq_true_iff.mp fits
      rcases wrong with long | ⟨rfl, unknown⟩
      · exact absurd (of_decide_eq_true short) (Nat.not_le_of_lt long)
      · have kind := (requestHolds_iff _).mp allowed
        exact unknown (kind rfl)
    · intro base mask same
      have fits := (requestHolds_iff { r with
        valid := bitOf n 0, base := base, mask := mask, minLength := bitsOf n 23 4, action := action
        wake := bitOf n 30, keepAwake := bitOf n 31 }).mpr allowed
      have owner := ownerWrite_rule0 i n (setMask none (elapse dt s))
      simp only [writeRule0, code, n, held] at owner
      refine answers_accepted (t := { s with
          cfg := { s.cfg with
            rules := s.cfg.rules.set i { r with
              valid := bitOf n 0, base := base, mask := mask, minLength := bitsOf n 23 4, action := action
              wake := bitOf n 30, keepAwake := bitOf n 31 } }
          counts := if same then s.counts else { s.counts with hits := s.counts.hits.set i 0 } })
        rfl ready rfl (owner.trans (if_pos (Bool.and_eq_true_iff.mpr ⟨decide_eq_true short, fits⟩)) |>.trans ?_)
        (ready.alert.of_same rfl rfl rfl rfl rfl rfl) ready.room (advance_rule i (by decide))
      simp only [setRule, held]
      rfl
    · refine answers_refused rfl ready rfl ((ownerWrite_rule1 i _ _).trans ?_)
      simp only [writeRule1, held]
      refine if_neg fun fits => ?_
      have kind := (requestHolds_iff _).mp fits wrong.1
      rw [bitsOf_argument] at kind
      exact wrong.2 kind
    · have fits : requestHolds { r with argument := BitVec.ofNat 12 (bitsOf n 0 12) } = true := by
        rw [requestHolds_iff, bitsOf_argument]
        exact allowed
      refine answers_accepted rfl ready rfl ((ownerWrite_rule1 i _ _).trans ?_)
        (ready.alert.of_same rfl rfl rfl rfl rfl rfl) ready.room (advance_rule i (by decide))
      simp only [writeRule1, held]
      refine (if_pos fits).trans (congrArg _ (setRule_same ?_))
      simp [held]
    · refine answers_inRange
        (ok := within 1 16 (bitsOf n 6 5) && 1 ≤ bitsOf n 11 8 && 1 ≤ bitsOf n 19 8 &&
          bitsOf n 0 3 * 8 + bitsOf n 3 3 + bitsOf n 6 5 ≤ 64)
        rfl ready rfl ?_ ((ownerWrite_rule2 i _ _).trans ?_)
        (fun _ => ready.alert.of_same rfl rfl rfl rfl rfl rfl) ready.room (advance_rule i (by decide))
      · simp [within_iff, and_assoc]
      · simp only [writeRule2, held]
        refine congrArg (inRange _) (setRule_same ?_)
        simp [held]
    · exact answers_refused rfl ready rfl (ownerWrite_rule3 i _ _)

end Sys2Proof.Machine
end

section
/-! PROOFS. WRITEs to FOBS: the fobs and the passive-entry settings (R94, R95, R114). -/

namespace Sys2Proof.Machine

/-- Another entry that is not EMPTY holds the serial (R94). -/
def SerialHeld (s : State) (i n : Nat) : Prop :=
  ∃ j g, j ≠ i ∧ s.cfg.fobs[j]? = some g ∧ g.state ≠ .empty ∧ g.serial = n

theorem serialClash_iff {s : State} {i : Nat} {f : Fob} :
    serialClash s i f = true ↔ f.state ≠ .empty ∧ SerialHeld s i f.serial := by
  have shared : (s.cfg.fobs.zipIdx.any fun p => p.2 != i && p.1.state != .empty && p.1.serial == f.serial) = true ↔
      SerialHeld s i f.serial := by
    simp only [List.any_eq_true, Bool.and_eq_true, bne_iff_ne, beq_iff_eq, SerialHeld]
    constructor
    · rintro ⟨⟨g, j⟩, place, ⟨other, present⟩, same⟩
      exact ⟨j, g, other, List.mem_zipIdx_iff_getElem?.mp place, present, same⟩
    · rintro ⟨j, g, other, place, present, same⟩
      exact ⟨(g, j), List.mem_zipIdx_iff_getElem?.mpr place, ⟨other, present⟩, same⟩
  rw [serialClash, Bool.and_eq_true, shared, bne_iff_ne]

theorem writeFob_clash {s : State} {i : Nat} {new : Fob} (present : new.state ≠ .empty)
    (held : SerialHeld s i new.serial) : writeFob i new s = .error .duplicate :=
  if_pos (serialClash_iff.mpr ⟨present, held⟩)

theorem writeFob_free {s : State} {i : Nat} {new : Fob} (free : new.state = .empty ∨ ¬SerialHeld s i new.serial) :
    writeFob i new s = .ok (fobChanged i (fob s i) new s) := by
  refine if_neg fun clash => ?_
  obtain ⟨present, held⟩ := serialClash_iff.mp clash
  exact free.elim present fun none_ => none_ held

/-! ## What a change of an entry does (R95) -/

theorem endHoldOf_eq (i : Nat) (s : State) : endHoldOf i s = setHold (s.key.hold.filter fun h => h.fob ≠ i) s := by
  unfold endHoldOf
  split
  · next h hold =>
    split
    · next own =>
      have gone : s.key.hold.filter (fun h => h.fob ≠ i) = none := by simp [hold, own, Option.filter_some]
      rw [gone]
    · next other =>
      have stays : s.key.hold.filter (fun h => h.fob ≠ i) = s.key.hold := by simp [hold, other, Option.filter_some]
      rw [stays]
      rfl
  · next absent =>
    have stays : s.key.hold.filter (fun h => h.fob ≠ i) = s.key.hold := by simp [absent]
    rw [stays]
    rfl

/-- The hold of a fob whose comfort allowed was cleared (R95 D). -/
def barred (i : Nat) (h : Hold) : Hold := if h.fob = i then { h with comfortCleared := true } else h

theorem barHoldOf_eq (i : Nat) (s : State) : barHoldOf i s = setHold (s.key.hold.map (barred i)) s := by
  unfold barHoldOf
  split
  · next h hold =>
    split
    · next own => simp [hold, barred, own]
    · next other =>
      have stays : s.key.hold.map (barred i) = s.key.hold := by simp [hold, barred, other]
      rw [stays]
      rfl
  · next absent =>
    have stays : s.key.hold.map (barred i) = s.key.hold := by simp [absent]
    rw [stays]
    rfl

section
variable {i : Nat} {old new : Fob} {s : State} (serial : old.serial = new.serial)
include serial

/-- A state of EMPTY or BLOCKED, or remote allowed cleared (R95 B, C). -/
theorem fobChanged_dropped
    (h : (old.state ≠ new.state ∧ new.state ≠ .active) ∨ (old.remoteAllowed ∧ ¬new.remoteAllowed)) :
    fobChanged i old new s =
      setHold (s.key.hold.filter fun h => h.fob ≠ i)
        (setFobRun i { fobRun s i with candidate := none } (setFob i new s)) := by
  rw [fobChanged, if_neg (not_not.mpr serial), if_pos h, endHoldOf_eq]
  rfl

variable (kept : ¬((old.state ≠ new.state ∧ new.state ≠ .active) ∨ (old.remoteAllowed ∧ ¬new.remoteAllowed)))
include kept

/-- Comfort allowed cleared (R95 D). -/
theorem fobChanged_barred (h : old.comfortAllowed ∧ ¬new.comfortAllowed) :
    fobChanged i old new s = setHold (s.key.hold.map (barred i)) (setFob i new s) := by
  rw [fobChanged, if_neg (not_not.mpr serial), if_neg kept, if_pos h, barHoldOf_eq]
  rfl

/-- Every other change sets its fields alone. -/
theorem fobChanged_plain (h : ¬(old.comfortAllowed ∧ ¬new.comfortAllowed)) :
    fobChanged i old new s = setFob i new s := by
  rw [fobChanged, if_neg (not_not.mpr serial), if_neg kept, if_neg h]

end

theorem fobStateOfCode_listed {n : Nat} {state : FobState}
    (h : (n, state) ∈ [(0, FobState.empty), (1, .active), (2, .blocked)]) : fobStateOfCode n = some state := by
  simp only [List.mem_cons, Prod.mk.injEq, List.not_mem_nil, or_false] at h
  rcases h with ⟨rfl, rfl⟩ | ⟨rfl, rfl⟩ | ⟨rfl, rfl⟩ <;> rfl

theorem fob_of_getElem {s : State} {i : Nat} {f : Fob} (h : s.cfg.fobs[i]? = some f) : fob s i = f := by simp [fob, h]

theorem fobRun_of_getElem {s : State} {i : Nat} {q : FobRun} (h : s.fobRun[i]? = some q) : fobRun s i = q := by
  simp [fobRun, h]

/-! ## The words of a fob's entry -/

section
variable (i : Fin 8) (n : Nat) (s : State)

theorem ownerWrite_fob0 : ownerWrite ⟨4, i, 0⟩ n s =
    match fobStateOfCode (bitsOf n 0 2) with
    | some state => writeFob i { fob s i with state := state } s
    | none => .error .range := by
  simp [ownerWrite, writeFobs] <;> rfl

theorem ownerWrite_fob1 : ownerWrite ⟨4, i, 1⟩ n s = writeFob i { fob s i with serial := n } s := by
  simp [ownerWrite, writeFobs]

theorem ownerWrite_fob2 : ownerWrite ⟨4, i, 2⟩ n s = .error .range := by simp [ownerWrite, writeFobs]

theorem ownerWrite_fob3 : ownerWrite ⟨4, i, 3⟩ n s =
    writeFob i
      { fob s i with
        remoteAllowed := bitOf n 21, passiveAllowed := bitOf n 22, comfortAllowed := bitOf n 23
        mode := if bitOf n 24 then .driverFirst else .all } s := by
  simp [ownerWrite, writeFobs]

end

theorem advance_fob (i : Fin 8) {k : Nat} (h : k < 3) : advance ⟨4, i, k⟩ = (⟨4, i, k + 1⟩, false) := by
  simp [advance, tableShape, h]

theorem advance_fob_last (i : Fin 8) : advance ⟨4, i, 3⟩ = (⟨4, i + 1, 0⟩, false) := by
  have := i.isLt
  simp [advance, tableShape, this]

/-- Settles O22. -/
theorem fobSerialWriteUnsynchronises : Obligations.FobSerialWriteUnsynchronises := by
  intro s dt i v f entry answers refused held changed silenced
  have here : fob (setMask none (elapse dt s)) i = f := fob_of_getElem (s := s) entry
  refine ⟨fun ready differs => ⟨fun present clash => ?_, fun free => ?_⟩, fun ready => ?_, fun q run => ?_⟩
  · exact answers_refused rfl ready rfl ((ownerWrite_fob1 i _ _).trans (writeFob_clash (by rw [here]; exact present) clash))
  · refine answers_accepted rfl ready rfl ((ownerWrite_fob1 i _ _).trans ((writeFob_free ?_).trans ?_))
      (ready.alert.of_same rfl rfl rfl rfl rfl rfl) ready.room (advance_fob i (by decide))
    · rw [here]; exact free
    · rw [here, fobChanged, if_pos differs, endHoldOf_eq]
      rfl
  · exact answers_refused rfl ready rfl (ownerWrite_fob2 i _ _)
  · intro dropped
    have runs : fobRun (setMask none (elapse dt s)) i = q := fobRun_of_getElem (s := s) run
    refine ⟨fun ready => ⟨fun outside => ?_, fun state coded => ⟨fun empty present clash => ?_, fun free => ?_⟩⟩,
      fun ready free => ?_⟩
    · refine answers_refused rfl ready rfl ((ownerWrite_fob0 i _ _).trans ?_)
      simp [outside, fobStateOfCode]
    · refine answers_refused rfl ready rfl ((ownerWrite_fob0 i _ _).trans ?_)
      simp only [fobStateOfCode_listed coded, here]
      exact writeFob_clash present clash
    · have owner := ownerWrite_fob0 i v.toNat (setMask none (elapse dt s))
      simp only [fobStateOfCode_listed coded, here] at owner
      rw [writeFob_free free, here] at owner
      split
      · next drops =>
        rw [fobChanged_dropped (old := f) (new := { f with state := state }) rfl (.inl ⟨drops.1.symm, drops.2⟩), runs] at owner
        exact answers_accepted rfl ready rfl owner (ready.alert.of_same rfl rfl rfl rfl rfl rfl) ready.room
          (advance_fob i (by decide))
      · next keeps =>
        rw [fobChanged_plain (old := f) (new := { f with state := state }) rfl ?_ (by simp)] at owner
        · exact answers_accepted rfl ready rfl owner (ready.alert.of_same rfl rfl rfl rfl rfl rfl) ready.room
            (advance_fob i (by decide))
        · rintro (⟨differs, inactive⟩ | ⟨allowed, cleared⟩)
          · exact keeps ⟨differs.symm, inactive⟩
          · exact cleared allowed
    · intro g
      have taken : ownerWrite ⟨4, i, 3⟩ v.toNat (setMask none (elapse dt s)) =
          writeFob i g (setMask none (elapse dt s)) := by rw [ownerWrite_fob3, here]
      have owner := taken.trans (writeFob_free (s := setMask none (elapse dt s)) free)
      rw [here] at owner
      split
      · next drops =>
        rw [fobChanged_dropped (old := f) (new := g) rfl (.inr (by simpa using drops)), runs] at owner
        exact answers_accepted rfl ready rfl owner (ready.alert.of_same rfl rfl rfl rfl rfl rfl) ready.room
          (advance_fob_last i)
      · next keeps =>
        have kept : ¬((f.state ≠ g.state ∧ g.state ≠ .active) ∨ (f.remoteAllowed ∧ ¬g.remoteAllowed)) := by
          rintro (⟨differs, _⟩ | ⟨allowed, cleared⟩)
          · exact differs rfl
          · exact keeps ⟨allowed, by simpa using cleared⟩
        split
        · next bars =>
          rw [fobChanged_barred (old := f) (new := g) rfl kept (by simpa using bars)] at owner
          exact answers_accepted rfl ready rfl owner (ready.alert.of_same rfl rfl rfl rfl rfl rfl) ready.room
            (advance_fob_last i)
        · next free =>
          rw [fobChanged_plain (old := f) (new := g) rfl kept (by simpa using free)] at owner
          exact answers_accepted rfl ready rfl owner (ready.alert.of_same rfl rfl rfl rfl rfl rfl) ready.room
            (advance_fob_last i)

/-! ## The passive-entry settings (R94, R114) -/

/-- The search record with the slots set and some last search. -/
def slotsSet (slots : List (Option SearchSlot)) (last : Option SearchRecord) (s : State) : State :=
  { s with search := { s.search with slots := slots, last := last } }

/-- One turn of the closing of every slot. -/
def closeTurn (s : State) (n : Nat) : State :=
  match slot s n with
  | some x => closeSlot n x .disabled none s
  | none => s

theorem closeAllSlots_turns (s : State) :
    closeAllSlots s = closeTurn (closeTurn (closeTurn (closeTurn s 0) 1) 2) 3 := rfl

/-- The place is free after its turn (R113, R114). -/
theorem closeTurn_eq {s : State} {n : Nat} (place : n < s.search.slots.length) :
    ∃ last, closeTurn s n = slotsSet (s.search.slots.set n none) last s := by
  unfold closeTurn
  split
  · exact ⟨_, rfl⟩
  · next free =>
    refine ⟨s.search.last, ?_⟩
    have kept : s.search.slots.set n none = s.search.slots := by
      have empty : s.search.slots[n] = none := by simpa [slot, place] using free
      rw [← empty, List.set_getElem_self]
    rw [kept]
    rfl

theorem closeTurn_none {s : State} {n : Nat} (free : slot s n = none) : closeTurn s n = s := by
  simp [closeTurn, free]

/-- Switching Passive Entry off leaves no slot open (R114). -/
theorem closeAllSlots_eq {s : State} (four : s.search.slots.length = 4) :
    ∃ last, closeAllSlots s = slotsSet [none, none, none, none] last s := by
  obtain ⟨a, b, c, d, slots⟩ : ∃ a b c d, s.search.slots = [a, b, c, d] := by
    match h : s.search.slots with
    | [a, b, c, d] => exact ⟨a, b, c, d, rfl⟩
    | [] | [_] | [_, _] | [_, _, _] | _ :: _ :: _ :: _ :: _ :: _ => simp [h] at four
  obtain ⟨l0, h0⟩ := closeTurn_eq (s := s) (n := 0) (by simp [slots])
  obtain ⟨l1, h1⟩ := closeTurn_eq (s := slotsSet [none, b, c, d] l0 s) (n := 1) (by simp [slotsSet])
  obtain ⟨l2, h2⟩ := closeTurn_eq (s := slotsSet [none, none, c, d] l1 s) (n := 2) (by simp [slotsSet])
  obtain ⟨l3, h3⟩ := closeTurn_eq (s := slotsSet [none, none, none, d] l2 s) (n := 3) (by simp [slotsSet])
  rw [slots] at h0
  refine ⟨l3, (closeAllSlots_turns s).trans ?_⟩
  rw [h0]
  exact (congrArg (closeTurn · 3) ((congrArg (closeTurn · 2) h1).trans h2)).trans h3

theorem closeAllSlots_empty {s : State} (empty : s.search.slots = [none, none, none, none]) :
    closeAllSlots s = s := by
  have free {n : Nat} (h : n < 4) : slot s n = none := by
    rw [slot, empty]
    match n with
    | 0 | 1 | 2 | 3 => rfl
  rw [closeAllSlots_turns, closeTurn_none (free (by decide)), closeTurn_none (free (by decide)),
    closeTurn_none (free (by decide)), closeTurn_none (free (by decide))]

/-- Settles O23. -/
theorem passiveWriteSetsAndClosesSlots : Obligations.PassiveWriteSetsAndClosesSlots := by
  intro s dt v ready n k
  have owner : ownerWrite ⟨4, 8, 0⟩ v.toNat (setMask none (elapse dt s)) =
      inRange (1 ≤ k.forwardWindow && within 5 50 k.searchSteps)
        (if s.cfg.key.passive && !k.passive then
          closeAllSlots (setMask none (elapse dt { s with cfg := { s.cfg with key := k } }))
        else setMask none (elapse dt { s with cfg := { s.cfg with key := k } })) := rfl
  have judge : (1 ≤ k.forwardWindow && within 5 50 k.searchSteps) = true ↔
      1 ≤ k.forwardWindow ∧ 5 ≤ k.searchSteps ∧ k.searchSteps ≤ 50 := by simp [within_iff]
  refine ⟨fun outside => ?_, fun window low high => ?_⟩
  · exact answers_refused rfl ready rfl (owner.trans (if_neg fun h => outside (judge.mp h)))
  · have accepted := owner.trans (if_pos (judge.mpr ⟨window, low, high⟩))
    refine ⟨fun empty => ?_, fun on off four => ?_⟩
    · have kept := closeAllSlots_empty (s := setMask none (elapse dt { s with cfg := { s.cfg with key := k } })) empty
      rw [kept, ite_self] at accepted
      exact answers_accepted rfl ready rfl accepted (ready.alert.of_same rfl rfl rfl rfl rfl rfl) ready.room rfl
    · obtain ⟨last, closed⟩ :=
        closeAllSlots_eq (s := setMask none (elapse dt { s with cfg := { s.cfg with key := k } })) four
      rw [if_pos (by simp [on, off]), closed] at accepted
      have answer : AnswersActive (.writePassiveSettings dt v) s
          (written dt ⟨4, 8, 1⟩
            (slotsSet [none, none, none, none] last { s with cfg := { s.cfg with key := k } })) :=
        answers_accepted rfl ready rfl accepted (ready.alert.of_same rfl rfl rfl rfl rfl rfl) ready.room rfl
      obtain ⟨u, exec_, agrees, _⟩ := answer
      exact ⟨u, exec_, agrees.same (fun t => t.cfg.key) fun _ => rfl, agrees.same (fun t => t.search.slots) fun _ => rfl,
        agrees.same State.group fun _ => rfl⟩

end Sys2Proof.Machine
end

section
/-!
PROOFS. Requests whose effect is itself an activity event: their next state is said up to the activity that the close
notes anyway. Detections on wake lines, WRITEs to WAKE_LINES and CLEAR_WAKE (R116, R117, R183 to R185).
-/

namespace Sys2Proof.Machine

/-! ## States that agree but for activity -/

/-- A state with other times of activity. -/
def withActivity (last idle : Nat) (s : State) : State :=
  { s with ctx := { s.ctx with lastActivity := last, idleDeadline := idle } }

theorem AgreeButActivity.eq {s t : State} (h : AgreeButActivity s t) :
    s = withActivity s.ctx.lastActivity s.ctx.idleDeadline t := by
  have restored (u : State) : withActivity u.ctx.lastActivity u.ctx.idleDeadline (lessActivity u) = u := rfl
  have same : lessActivity s = lessActivity t := h
  rw [← restored s, same]
  rfl

theorem withActivity_agrees (last idle : Nat) (s : State) : AgreeButActivity (withActivity last idle s) s := rfl

theorem activity_agreesWith (s : State) : AgreeButActivity (activity s) s := activity_agreeing s

/-- An effect that agrees with that of `t` but for activity is answered as `t` says (R187, R197). -/
theorem answersActive_agreeing {i : Instr} {dt : Nat} {r : ManagementRequest} {s t u : State} {result : Result}
    {tail : List Byte} (meaning : exec i s = perform dt (manage r) s) (alert : Alert s) (h : r ≠ .restart)
    (served : serve r (maskAfter r (elapse dt s)) = ⟨u, result, tail⟩)
    (agrees : AgreeButActivity u (setMask none (elapse dt t))) (calm : Alert t) (room : t.tx.length < Config.txPlaces) :
    AnswersActive i s (replied dt (requestCode r) result tail t) := by
  rw [agrees.eq] at served
  exact answersActive_request meaning alert h _ served (calm.of_same rfl rfl rfl rfl rfl rfl) room rfl

section
variable {s t u : State} {i : Instr} {dt : Nat} {v : Word} {table index word : Nat} {next : Cursor} {last : Bool}
  (meaning : exec i s = perform dt (manage (.write v)) s) (ready : WriteReady table index word s)
  (writable : readTable table = false)
include meaning ready writable

/-- An accepted WRITE whose effect agrees with that of `t` but for activity. -/
theorem answers_acceptedAgreeing
    (owner : ownerWrite ⟨table, index, word⟩ v.toNat (setMask none (elapse dt s)) = .ok u)
    (agrees : AgreeButActivity u (setMask none (elapse dt t))) (calm : Alert t) (tx : t.tx.length < Config.txPlaces)
    (onward : advance ⟨table, index, word⟩ = (next, last)) :
    AnswersActive i s (replied dt 0x03 .ok [byteOf [(1, flagBit last)]] { t with mgmt := { t.mgmt with cursor := next } }) := by
  have checked := (writeAt_ready (c := ⟨table, index, word⟩) (dt := dt) (v := v) ready writable).trans owner
  have value : maskedValue (elapse dt s).mgmt.mask (readWord (elapse dt s) ⟨table, index, word⟩) v = v := by
    rw [elapse_mgmt, ready.mask]
    rfl
  have served := serve_write (s := elapse dt s) ready.cursor onward value checked
  refine answersActive_agreeing (r := .write v) (u := setCursor next u) meaning ready.alert (by simp) served ?_
    (calm.of_same rfl rfl rfl rfl rfl rfl) tx
  rw [agrees.eq]
  rfl

end

@[simp] theorem activity_state (s : State) : (activity s).ctx.state = s.ctx.state := by
  unfold activity recomputeIdle
  split <;> rfl

theorem wake_activity {s : State} (cause : WakeCause) (awake : s.ctx.state = .awake) :
    wake cause (activity s) = activity s := wake_awake cause (by rw [activity_state, awake])

/-! ## Detections (R183, R185) -/

/-- A line's pending set. -/
def detected (line : WakeLine) (s : State) : State :=
  { s with lines := s.lines.set line { s.lines.get line with pending := true } }

section
variable {s : State} {line : WakeLine}

theorem detect_disabled (h : (s.cfg.lines.get line).enable = false) : detect line s = detected line s := by
  simp [detect, h, detected]

theorem detect_enabled (run : s.stage = .run) (awake : s.ctx.state = .awake)
    (h : (s.cfg.lines.get line).enable = true) :
    detect line s =
      (fun t => match line with
        | .ign => t
        | .door c => lineTouch c .awake t) (activity (detected line s)) := by
  have taken : (running (detected line s) && ((detected line s).cfg.lines.get line).enable) = true := by
    simp [running, detected, run, h]
  have stays := wake_activity (.wakeLine line) (s := detected line s) awake
  unfold detect
  simp only [awake]
  exact (if_pos taken).trans (by rw [← detected, stays]; cases line <;> rfl)

/-- An enabled detection on IGN is activity alone (R185). -/
theorem detect_ign (run : s.stage = .run) (awake : s.ctx.state = .awake) (h : (s.cfg.lines.get .ign).enable = true) :
    detect .ign s = activity (detected .ign s) := detect_enabled run awake h

/-- An enabled detection on a closure line is activity, and the touch of its closure (R116, R117). -/
theorem detect_door {c : Closure} (run : s.stage = .run) (awake : s.ctx.state = .awake)
    (h : (s.cfg.lines.get (.door c)).enable = true) :
    detect (.door c) s = lineTouch c .awake (activity (detected (.door c) s)) := detect_enabled run awake h

end

/-- What a touch that opens a search leaves, but for activity (R113, R119). -/
def searchOpened (c : Closure) (p : Purpose) (s : State) : State :=
  let x : SearchSlot := ⟨c, p, s.search.tagCounter, s.now + s.cfg.key.searchSteps * 10, .wakeLine⟩
  { s with
    search := { s.search with slots := [some x, none, none, none], tagCounter := (s.search.tagCounter + 1) % 16 }
    tx := s.tx ++ [⟨.other, s.cfg.key.searchId, searchRequestData x, false⟩] }

/-- A touch of a part in AWAKE with no search open opens one in the first slot (R113, R118). -/
theorem touch_opens {s : State} {c : Closure} {p : Purpose} (run : s.stage = .run) (awake : s.ctx.state = .awake)
    (on : s.cfg.key.passive = true) (free : s.search.slots = [none, none, none, none])
    (room : s.tx.length < Config.txPlaces) :
    AgreeButActivity (touch c p .wakeLine s) (searchOpened c p s) := by
  have tag : freeTag (openTags s) 16 s.search.tagCounter = s.search.tagCounter := by
    simp [openTags, free, freeTag]
  have opened : touch c p .wakeLine s = wake .search (activity (searchOpened c p s)) := by
    have none_open : findSlot s c = none := by simp [findSlot, free]
    have first : s.search.slots.findIdx? Option.isNone = some 0 := by simp [free, List.findIdx?_cons]
    simp only [touch, on, none_open, first, openSlot, tag, setSlot, Bool.not_true, Bool.false_eq_true, if_false]
    rw [offer_other (by rfl) (by exact run) (by exact room), free]
    rfl
  rw [opened, wake_activity (s := searchOpened c p s) _ awake]
  exact activity_agreesWith _

/-- The touch of a wake line whose closure a search can be opened for (R116, R117). -/
theorem lineTouch_opens {s : State} {c : Closure} (run : s.stage = .run) (awake : s.ctx.state = .awake)
    (on : s.cfg.key.passive = true) (free : s.search.slots = [none, none, none, none])
    (room : s.tx.length < Config.txPlaces) (locked : c = .tg → (closure s .tg).target ≠ .unlocked) :
    AgreeButActivity (lineTouch c .awake s) (searchOpened c (if c = .tg then .tailgate else .unlock) s) := by
  have opens := touch_opens (c := c) (p := if c = .tg then .tailgate else .unlock) run awake on free room
  by_cases tg : c = .tg
  · subst tg
    have stays : ((closure s .tg).target == .unlocked) = false := beq_eq_false_iff_ne.mpr (locked rfl)
    have pressed : lineTouch .tg .awake s = touch .tg .tailgate .wakeLine s := by
      simp [lineTouch, releaseButton, stays]
    rw [pressed]
    exact opens
  · have touched : lineTouch c .awake s = touch c .unlock .wakeLine s := by simp [lineTouch, tg]
    rw [touched]
    simpa [tg] using opens

end Sys2Proof.Machine
end

section
/-!
PROOFS. WRITEs to WAKE_LINES and CLEAR_WAKE (R183, R184): what a judged line does, and the clears line by line.
-/

namespace Sys2Proof.Machine

@[simp] theorem Six.set_set {α : Type} (v : Six α) (l : WakeLine) (a b : α) : (v.set l a).set l b = v.set l b := by
  cases l <;> simp [Six.set]

@[simp] theorem Six.set_get {α : Type} (v : Six α) (l : WakeLine) : v.set l (v.get l) = v := by
  cases l <;> simp [Six.set, Six.get]

theorem Six.ext_get {α : Type} {v w : Six α} (h : ∀ l, v.get l = w.get l) : v = w := by
  have ign : v.ign = w.ign := h .ign
  have doors : v.doors = w.doors := Five.ext_get fun c => h (.door c)
  cases v
  cases w
  exact congr (congrArg Six.mk ign) doors

/-! ## Judging a line -/

/-- A level mode whose level stands. -/
def levelActive (mode : LineMode) (level : Level) : Bool :=
  mode == .high && level == .high || mode == .low && level == .low

theorem levelCondition_eq (mode : LineMode) (x : LineState) :
    levelCondition mode x = (levelActive mode x.level && !x.pending) := by
  obtain ⟨level, pending⟩ := x
  cases mode <;> cases level <;> cases pending <;> rfl

theorem lineModeOf_eq {n : Nat} (h : n < 4) :
    lineModeOf n = [LineMode.rising, .falling, .high, .low].getD n .rising := by
  interval_cases n <;> rfl

theorem lineOfIndex_code (l : WakeLine) : lineOfIndex (lineCode l) = l := by
  cases l with
  | ign => rfl
  | door c => cases c <;> rfl

section
variable {s : State} {l : WakeLine}

theorem judgeLevel_unmet
    (h : levelActive (s.cfg.lines.get l).mode (s.lines.get l).level = false ∨ (s.lines.get l).pending = true) :
    judgeLevel l s = s := by
  rcases h with h | h <;> simp [judgeLevel, levelCondition_eq, h]

theorem judgeLevel_met (active : levelActive (s.cfg.lines.get l).mode (s.lines.get l).level = true)
    (clear : (s.lines.get l).pending = false) : judgeLevel l s = detect l s := by
  simp [judgeLevel, levelCondition_eq, active, clear]

theorem detect_quiet (run : s.stage = .run) (awake : s.ctx.state = .awake)
    (h : (s.cfg.lines.get l).enable = false ∨ l = .ign) : AgreeButActivity (detect l s) (detected l s) := by
  by_cases off : (s.cfg.lines.get l).enable = false
  · rw [detect_disabled off]
    exact .refl _
  · obtain rfl := h.resolve_left off
    rw [detect_ign run awake (by simpa using off)]
    exact activity_agreesWith _

end

/-- A part in AWAKE in which the touch of a closure's line opens a search (R113, R117, R118). -/
structure Searchable (c : Closure) (s : State) : Prop where
  run : s.stage = .run
  awake : s.ctx.state = .awake
  on : s.cfg.key.passive = true
  free : s.search.slots = [none, none, none, none]
  room : s.tx.length < Config.txPlaces
  locked : c = .tg → (closure s .tg).target ≠ .unlocked

/-- The search that the touch of a closure's line opens (R116, R117). -/
def lineSearch (c : Closure) (s : State) : State := searchOpened c (if c = .tg then .tailgate else .unlock) s

theorem detect_searches {s : State} {c : Closure} (able : Searchable c s)
    (on : (s.cfg.lines.get (.door c)).enable = true) :
    AgreeButActivity (detect (.door c) s) (lineSearch c (detected (.door c) s)) := by
  rw [detect_door able.run able.awake on, (activity_agreesWith (detected (.door c) s)).eq]
  generalize (activity (detected (.door c) s)).ctx.lastActivity = last
  generalize (activity (detected (.door c) s)).ctx.idleDeadline = idle
  have opens := lineTouch_opens (s := withActivity last idle (detected (.door c) s)) (c := c) able.run able.awake able.on
    able.free able.room able.locked
  exact opens.trans (withActivity_agrees last idle (lineSearch c (detected (.door c) s)))

/-! ## WRITEs to WAKE_LINES -/

/-- The answer to a WRITE of a line: at TG, the last word, the cursor stays and END goes out. -/
def lineWritten (dt : Nat) (l : WakeLine) (t : State) : State :=
  if l = .door .tg then replied dt 0x03 .ok [1] t else written dt ⟨12, lineCode l + 1, 0⟩ t

/-- A line's settings replaced. -/
def setLine (l : WakeLine) (x : LineSettings) (s : State) : State :=
  { s with cfg := { s.cfg with lines := s.cfg.lines.set l x } }

/-- The settings a word of WAKE_LINES holds. -/
def lineSettingsOf (n : Nat) : LineSettings := ⟨bitOf n 0, [.rising, .falling, .high, .low].getD (bitsOf n 1 2) .rising⟩

theorem ownerWrite_line (l : WakeLine) (n : Nat) (s : State) :
    ownerWrite ⟨12, lineCode l, 0⟩ n s = .ok (judgeLevel l (setLine l (lineSettingsOf n) s)) := by
  have mode := lineModeOf_eq (bitsOf_lt n 1 2)
  simp only [ownerWrite, writeLine, lineOfIndex_code, mode]
  rfl

theorem answers_line {s t : State} {dt : Nat} {l : WakeLine} {v : Word} (ready : WriteReady 12 (lineCode l) 0 s)
    (agrees : AgreeButActivity (judgeLevel l (setLine l (lineSettingsOf v.toNat) (setMask none (elapse dt s))))
      (setMask none (elapse dt t)))
    (calm : Alert t) (tx : t.tx.length < Config.txPlaces) (mgmt : t.mgmt = s.mgmt) :
    AnswersActive (.writeWakeLines dt v) s (lineWritten dt l t) := by
  by_cases last : l = .door .tg
  · subst last
    have stays : t.mgmt.cursor = ⟨12, 5, 0⟩ := mgmt ▸ ready.cursor
    exact answers_acceptedAgreeing (i := .writeWakeLines dt v) (last := true) (next := t.mgmt.cursor) rfl ready rfl
      (ownerWrite_line ..) agrees calm tx (by rw [stays]; rfl)
  · have onward : advance ⟨12, lineCode l, 0⟩ = (⟨12, lineCode l + 1, 0⟩, false) := by
      cases l with
      | ign => rfl
      | door c => cases c <;> first | rfl | exact absurd rfl last
    rw [lineWritten, if_neg last]
    exact answers_acceptedAgreeing (i := .writeWakeLines dt v) (last := false) (next := ⟨12, lineCode l + 1, 0⟩) rfl ready
      rfl (ownerWrite_line ..) agrees calm tx onward

/-! ## CLEAR_WAKE -/

/-- CLEAR_WAKE's effect on a line's record: a level that stands is detected again at once (R183, R184). -/
def clearedLine (cfg : Six LineSettings) (l : WakeLine) (x : LineState) : LineState :=
  { x with pending := x.pending && levelActive (cfg.get l).mode x.level }

/-- A line cleared, without the touch that a new detection may give. -/
def lineCleared (l : WakeLine) (s : State) : State :=
  { s with lines := s.lines.set l (clearedLine s.cfg.lines l (s.lines.get l)) }

/-- The lines cleared of a set of names. -/
def linesCleared (names : WakeLine → Bool) (s : State) : State :=
  { s with lines := s.lines.mapWith fun l x => if names l then clearedLine s.cfg.lines l x else x }

/-- A new detection on the line would be no touch. -/
def QuietLine (s : State) (l : WakeLine) : Prop :=
  (s.lines.get l).pending = true → levelActive (s.cfg.lines.get l).mode (s.lines.get l).level = true →
    (s.cfg.lines.get l).enable = false ∨ l = .ign

theorem clearWakeLine_quiet {s : State} {l : WakeLine} (run : s.stage = .run) (awake : s.ctx.state = .awake)
    (quiet : QuietLine s l) : AgreeButActivity (clearWakeLine l s) (lineCleared l s) := by
  let off : State := { s with lines := s.lines.set l { s.lines.get l with pending := false } }
  cases pending : (s.lines.get l).pending with
  | false =>
    have unchanged : lineCleared l s = s := by
      have same : clearedLine s.cfg.lines l (s.lines.get l) = s.lines.get l := by
        simp only [clearedLine, pending, Bool.false_and]
        rw [← pending]
      simp only [lineCleared, same, Six.set_get]
    have skipped : clearWakeLine l s = s := by simp [clearWakeLine, pending]
    rw [unchanged, skipped]
    exact .refl s
  | true =>
    have cleared : clearWakeLine l s = judgeLevel l off := if_pos pending
    rw [cleared]
    cases active : levelActive (s.cfg.lines.get l).mode (s.lines.get l).level with
    | false =>
      rw [judgeLevel_unmet (.inl (by simpa [off] using active))]
      have same : lineCleared l s = off := by simp only [lineCleared, clearedLine, active, Bool.and_false, off]
      rw [same]
      exact .refl off
    | true =>
      rw [judgeLevel_met (by simpa [off] using active) (by simp [off])]
      refine (detect_quiet (s := off) run awake (quiet pending active)).trans ?_
      have same : detected l off = lineCleared l s := by
        simp [detected, off, lineCleared, clearedLine, active, pending]
      rw [same]
      exact .refl _

theorem lineCleared_quiet {s : State} {l k : WakeLine} (h : QuietLine s k) : QuietLine (lineCleared l s) k := by
  intro pending active
  by_cases same : k = l
  · subst same
    simp only [lineCleared, Six.get_set_same, clearedLine, Bool.and_eq_true] at pending
    exact h pending.1 pending.2
  · simp only [lineCleared, Six.get_set_other same] at pending active
    exact h pending active

theorem foldl_lineCleared_agrees {s t : State} (h : AgreeButActivity s t) (ls : List WakeLine) :
    AgreeButActivity (ls.foldl (fun t l => lineCleared l t) s) (ls.foldl (fun t l => lineCleared l t) t) := by
  induction ls generalizing s t with
  | nil => exact h
  | cons l ls ih =>
    refine ih ?_
    rw [h.eq]
    exact withActivity_agrees _ _ (lineCleared l t)

theorem foldl_clearWakeLine_quiet {s : State} (ls : List WakeLine) (run : s.stage = .run) (awake : s.ctx.state = .awake)
    (quiet : ∀ k ∈ ls, QuietLine s k) :
    AgreeButActivity (ls.foldl (fun t l => clearWakeLine l t) s) (ls.foldl (fun t l => lineCleared l t) s) := by
  induction ls generalizing s with
  | nil => exact .refl s
  | cons l ls ih =>
    have first := clearWakeLine_quiet run awake (quiet l (List.mem_cons_self ..))
    refine AgreeButActivity.trans ?_ (foldl_lineCleared_agrees first ls)
    refine ih (s := clearWakeLine l s) ?_ ?_ fun k hk => ?_
    · rw [first.eq]
      exact run
    · rw [first.eq]
      exact awake
    · rw [first.eq]
      exact lineCleared_quiet (quiet k (List.mem_cons_of_mem l hk))

theorem foldl_lineCleared (s : State) (ls : List WakeLine) :
    ls.foldl (fun t l => lineCleared l t) s = linesCleared (fun l => Decidable.decide (l ∈ ls)) s := by
  induction ls generalizing s with
  | nil =>
    have same : (s.lines.mapWith fun l x => if Decidable.decide (l ∈ ([] : List WakeLine)) then clearedLine s.cfg.lines l x else x) =
        s.lines := Six.ext_get fun l => by simp
    simp only [linesCleared, same, List.foldl_nil]
  | cons l ls ih =>
    have same : ((s.lines.set l (clearedLine s.cfg.lines l (s.lines.get l))).mapWith fun k x =>
        if Decidable.decide (k ∈ ls) then clearedLine s.cfg.lines k x else x) =
        s.lines.mapWith fun k x => if Decidable.decide (k ∈ l :: ls) then clearedLine s.cfg.lines k x else x :=
      Six.ext_get fun k => by
        by_cases here : k = l
        · subst here
          by_cases later : k ∈ ls <;> simp [later, clearedLine]
        · simp [here, Six.get_set_other here]
    rw [List.foldl_cons, ih]
    simp only [linesCleared, lineCleared, same]

/-- The lines a CLEAR_WAKE names, in the order of log entry 71. -/
def namedLines (n : Nat) : List WakeLine := allLines.filter fun l => bitOf n (lineCode l)

theorem mem_allLines (l : WakeLine) : l ∈ allLines := by
  cases l with
  | ign => decide
  | door c => cases c <;> decide

theorem mem_namedLines (lines : Byte) (l : WakeLine) :
    l ∈ namedLines lines.toNat ↔ lines.getLsbD (lineCode l) = true := by
  simp [namedLines, mem_allLines, bitOf_toNat]

theorem namedLines_single (c : Closure) : namedLines (BitVec.ofNat 8 (2 ^ lineCode (.door c))).toNat = [.door c] := by
  cases c <;> decide

/-- A CLEAR_WAKE whose new detections are no touches. -/
theorem answers_clearWake {s : State} {dt : Nat} {lines : Byte} (alert : Alert s) (room : s.tx.length < Config.txPlaces)
    (quiet : ∀ k, lines.getLsbD (lineCode k) = true → QuietLine s k) :
    AnswersActive (.clearWake dt lines) s
      (replied dt 0x08 .ok [] (linesCleared (fun k => lines.getLsbD (lineCode k)) s)) := by
  have turns := foldl_clearWakeLine_quiet (s := setMask none (elapse dt s)) (namedLines lines.toNat) alert.run
    alert.awake fun k hk => quiet k ((mem_namedLines lines k).mp hk)
  have names : (fun l => Decidable.decide (l ∈ namedLines lines.toNat)) = fun k => lines.getLsbD (lineCode k) := by
    funext l
    simp [mem_namedLines]
  rw [foldl_lineCleared, names] at turns
  exact answersActive_agreeing (r := .clearWake lines.toNat) rfl alert (by simp) rfl turns
    (alert.of_same rfl rfl rfl rfl rfl rfl) room

/-- A CLEAR_WAKE of one closure line that is detected again, which opens its search. -/
theorem answers_clearWake_search {s : State} {dt : Nat} {c : Closure} (alert : Alert s) (able : Searchable c s)
    (pending : (s.lines.get (.door c)).pending = true)
    (active : levelActive (s.cfg.lines.get (.door c)).mode (s.lines.get (.door c)).level = true)
    (on : (s.cfg.lines.get (.door c)).enable = true) {t : State}
    (same : setMask none (elapse dt t) = lineSearch c (setMask none (elapse dt s)))
    (calm : Alert t) (tx : t.tx.length < Config.txPlaces) :
    AnswersActive (.clearWake dt (BitVec.ofNat 8 (2 ^ lineCode (.door c)))) s (replied dt 0x08 .ok [] t) := by
  let u : State := setMask none (elapse dt s)
  let off : State := { u with lines := u.lines.set (.door c) { u.lines.get (.door c) with pending := false } }
  have again : clearWakeLine (.door c) u = detect (.door c) off := by
    have cleared : clearWakeLine (.door c) u = judgeLevel (.door c) off := if_pos pending
    rw [cleared]
    refine judgeLevel_met ?_ (by simp [off])
    simp only [off, Six.get_set_same]
    exact active
  have restored : detected (.door c) off = u := by
    have back : u.lines.set (.door c) { u.lines.get (.door c) with pending := true } = u.lines := by
      have held : (u.lines.get (.door c)).pending = true := pending
      rw [← held]
      exact Six.set_get ..
    simp only [detected, off, Six.get_set_same, Six.set_set, back]
  have searched := detect_searches (s := off) (c := c) ⟨able.run, able.awake, able.on, able.free, able.room, able.locked⟩ on
  rw [restored, ← same] at searched
  refine answersActive_agreeing (r := .clearWake _) (u := detect (.door c) off) rfl alert (by simp) ?_ searched calm tx
  have single := namedLines_single c
  simp only [namedLines] at single
  simp only [serve, serveClearWake, single, List.foldl_cons, List.foldl_nil]
  rw [← again]
  rfl

/-- Settles O26. -/
theorem wakeLineWritesAndClearsAreJudged : Obligations.WakeLineWritesAndClearsAreJudged := by
  intro s dt l index active opened searching free
  have code : index = lineCode l := by
    cases l with
    | ign => rfl
    | door c => cases c <;> rfl
  refine ⟨fun v ready => ?_, fun lines alert room => ⟨fun quiet => ?_, fun c door single pending again on able => ?_⟩⟩
  · rw [code] at ready
    intro mode enable x set seen ok
    have written (t : State) : ok t = lineWritten dt l t := by
      simp only [ok, code]
      rfl
    have calm : Alert set := ready.alert.of_same rfl rfl rfl rfl rfl rfl
    let judged : State := setLine l (lineSettingsOf v.toNat) (setMask none (elapse dt s))
    have setting : judged.cfg.lines.get l = ⟨enable, mode⟩ := Six.get_set_same ..
    refine ⟨fun unmet => ?_, fun standing clear => ⟨fun quiet => ?_, fun c on door able => ?_⟩⟩
    · have stays : judgeLevel l judged = judged := judgeLevel_unmet (by rw [setting]; exact unmet)
      exact written set ▸ answers_line (t := set) ready (congrArg lessActivity stays) calm ready.room rfl
    · have met : judgeLevel l judged = detect l judged := judgeLevel_met (by rw [setting]; exact standing) clear
      have same := detect_quiet (s := judged) (l := l) ready.alert.run ready.alert.awake (by rw [setting]; exact quiet)
      rw [← met] at same
      exact written seen ▸ answers_line (t := seen) ready same (calm.of_same rfl rfl rfl rfl rfl rfl) ready.room rfl
    · subst door
      obtain ⟨passive, slots, _, roomy, locked⟩ := able
      have met : judgeLevel (.door c) judged = detect (.door c) judged :=
        judgeLevel_met (by rw [setting]; exact standing) clear
      have same := detect_searches (s := judged) (c := c)
        ⟨ready.alert.run, ready.alert.awake, passive, slots, ready.room, locked⟩ (by rw [setting]; exact on)
      rw [← met] at same
      exact written (searching c seen) ▸ answers_line (t := searching c seen) ready same
        (calm.of_same rfl rfl rfl rfl rfl rfl) (by simpa [searching] using roomy) rfl
  · exact answers_clearWake alert room quiet
  · subst door
    obtain ⟨passive, slots, _, roomy, locked⟩ := able
    rw [single, code]
    exact answers_clearWake_search alert ⟨alert.run, alert.awake, passive, slots, room, locked⟩ pending again on rfl
      (alert.of_same rfl rfl rfl rfl rfl rfl) (by simpa [searching] using roomy)

end Sys2Proof.Machine
end

section
/-!
PROOFS. RELEASE and DISCARD (R155, R156): the first entry that matches, the Default Disposition, and the copies of a
passed frame (R145, R146, R158).
-/

namespace Sys2Proof.Machine

/-! ## Matching (R145) -/

theorem firstMatch_none {rules : List Rule} {start : Nat} {id : CanId} {data : List Byte}
    (h : ∀ j r, start ≤ j → rules[j]? = some r → ruleMatches r id data = false) :
    firstMatch rules start id data = none := by
  refine List.findSome?_eq_none_iff.mpr fun p hp => ?_
  obtain ⟨k, hk⟩ := List.mem_iff_getElem?.mp hp
  rw [List.getElem?_drop, List.getElem?_zipIdx] at hk
  obtain ⟨r, hr, rfl⟩ := Option.map_eq_some_iff.mp hk
  have unmatched := h (start + k) r (Nat.le_add_right ..) hr
  simp [unmatched]

theorem firstMatch_some {rules : List Rule} {start i : Nat} {id : CanId} {data : List Byte} {r : Rule}
    (from_ : start ≤ i) (at_ : rules[i]? = some r) (matched : ruleMatches r id data = true)
    (first : ∀ j q, start ≤ j → j < i → rules[j]? = some q → ruleMatches q id data = false) :
    firstMatch rules start id data = some i := by
  have place : (rules.zipIdx.drop start)[i - start]? = some (r, i) := by
    rw [List.getElem?_drop, List.getElem?_zipIdx]
    simp [Nat.add_sub_cancel' from_, at_]
  obtain ⟨inside, here⟩ := List.getElem?_eq_some_iff.mp place
  refine List.findSome?_eq_some_iff.mpr ⟨(rules.zipIdx.drop start).take (i - start), (r, i),
    (rules.zipIdx.drop start).drop (i - start + 1), ?_, by simp [matched], fun p hp => ?_⟩
  · rw [← here, List.cons_getElem_drop_succ, List.take_append_drop]
  · obtain ⟨k, hk⟩ := List.mem_iff_getElem?.mp hp
    have near : k < i - start := by
      by_contra far
      simp [far] at hk
    rw [List.getElem?_take_of_lt near, List.getElem?_drop, List.getElem?_zipIdx] at hk
    obtain ⟨q, hq, rfl⟩ := Option.map_eq_some_iff.mp hk
    have unmatched := first (start + k) q (Nat.le_add_right ..) (by omega) hq
    simp [unmatched]

/-! ## Copies (R158) -/

/-- A channel takes copies: its node is not LOST and it is not FORCED_OFF. -/
abbrev Copies (c : Closure) (s : State) : Prop := (channel s c).link ≠ .lost ∧ s.cfg.modes.get c ≠ .forcedOff

theorem bitOf_iff (n i : Nat) : bitOf n i = true ↔ n / 2 ^ i % 2 = 1 := by simp [bitOf, bitsOf]

theorem takesCopy_iff {mask : Nat} {c : Closure} {s : State} :
    TakesCopy mask c s ↔ bitOf mask (closureCode c) = true ∧ Copies c s := by
  rw [bitOf_iff]

theorem nodeLost_iff (s : State) (c : Closure) : nodeLost s c = true ↔ (channel s c).link = .lost := beq_iff_eq

theorem forcedOff_iff (s : State) (c : Closure) : forcedOff s c = true ↔ s.cfg.modes.get c = .forcedOff := beq_iff_eq

/-- The Pass Queues with a copy at the tail of each named queue whose channel takes copies. -/
def copiedTo (names : List Closure) (f : PassFrame) (s : State) : Five (List PassFrame) :=
  s.pass.mapWith fun c q => if c ∈ names ∧ Copies c s then q ++ [f] else q

theorem passTo_skips {f : PassFrame} {c : Closure} {s : State} (h : ¬Copies c s) : passTo f c s = s := by
  refine if_pos ?_
  rw [Bool.or_eq_true, nodeLost_iff, forcedOff_iff]
  by_contra none
  exact h (not_or.mp none)

theorem passTo_copies {f : PassFrame} {c : Closure} {s : State} (h : Copies c s)
    (room : (s.pass.get c).length < Config.passPlaces) :
    passTo f c s = { s with pass := s.pass.set c (s.pass.get c ++ [f]) } := by
  have takes : (nodeLost s c || forcedOff s c) = false := by
    rw [Bool.or_eq_false_iff, ← Bool.not_eq_true, ← Bool.not_eq_true, nodeLost_iff, forcedOff_iff]
    exact h
  simp [passTo, takes, room]

theorem foldl_passTo {f : PassFrame} {s : State} {names : List Closure} (once : names.Nodup)
    (room : ∀ c ∈ names, Copies c s → (s.pass.get c).length < Config.passPlaces) :
    names.foldl (fun t c => passTo f c t) s = { s with pass := copiedTo names f s } := by
  induction names generalizing s with
  | nil =>
    have same : copiedTo [] f s = s.pass := Five.ext_get fun c => by simp [copiedTo]
    simp [same]
  | cons c names ih =>
    obtain ⟨fresh, once⟩ := List.nodup_cons.mp once
    rw [List.foldl_cons]
    by_cases takes : Copies c s
    · rw [passTo_copies takes (room c (List.mem_cons_self ..) takes), ih once fun d hd accepts => ?_]
      · have same : copiedTo names f { s with pass := s.pass.set c (s.pass.get c ++ [f]) } =
            copiedTo (c :: names) f s := Five.ext_get fun d => by
          have accepts : Copies d { s with pass := s.pass.set c (s.pass.get c ++ [f]) } ↔ Copies d s := Iff.rfl
          by_cases here : d = c
          · subst here
            simp only [copiedTo, Five.get_mapWith, Five.get_set_same, fresh, false_and, if_false, List.mem_cons, true_or,
              true_and]
            exact (if_pos takes).symm
          · simp [copiedTo, accepts, here, Five.get_set_other here]
        rw [same]
      · have other : d ≠ c := fun same => fresh (same ▸ hd)
        simpa [Five.get_set_other other] using room d (List.mem_cons_of_mem c hd) accepts
    · rw [passTo_skips takes, ih once fun d hd => room d (List.mem_cons_of_mem c hd)]
      have same : copiedTo names f s = copiedTo (c :: names) f s := Five.ext_get fun d => by
        by_cases here : d = c
        · subst here
          simp only [copiedTo, Five.get_mapWith, takes, and_false, if_false]
        · simp only [copiedTo, Five.get_mapWith, List.mem_cons, here, false_or]
      rw [same]

theorem mem_maskChannels (mask : Nat) (c : Closure) : c ∈ maskChannels mask ↔ bitOf mask (closureCode c) = true := by
  have all : c ∈ allClosures := by cases c <;> decide
  simp [maskChannels, all]

theorem maskChannels_nodup (mask : Nat) : (maskChannels mask).Nodup :=
  List.Nodup.filter _ (by decide)

/-- A passed frame whose copies all find room (R158). -/
theorem passFrame_fits {mask : Nat} {f : PassFrame} {s : State} (run : s.stage = .run)
    (room : ∀ c, TakesCopy mask c s → (s.pass.get c).length < Config.passPlaces) :
    passFrame mask f s = { s with pass := passedTo mask f s } := by
  have copies := foldl_passTo (f := f) (s := s) (maskChannels_nodup mask) fun c hc takes =>
    room c (takesCopy_iff.mpr ⟨(mem_maskChannels mask c).mp hc, takes⟩)
  have same : copiedTo (maskChannels mask) f s = passedTo mask f s := Five.ext_get fun c => by
    simp only [copiedTo, passedTo, Five.get_mapWith, mem_maskChannels, takesCopy_iff]
  have taken : running s = true := by simp [running, run]
  rw [passFrame, if_pos taken, copies, same]

/-! ## The Default Disposition (R146) -/

/-- The count of the frames that no entry matches. -/
def unmatchedCounted (s : State) : State :=
  { s with counts := { s.counts with noMatch := min 65535 (s.counts.noMatch + 1) } }

section
variable {s : State} {id : CanId} {data : List Byte} {start : Nat}

theorem matchFrame_none (h : ∀ j r, start ≤ j → s.cfg.rules[j]? = some r → ruleMatches r id data = false) :
    matchFrame start id data s = defaultDisposition id data s := by
  rw [matchFrame, firstMatch_none h]

theorem defaultDisposition_drop (h : s.cfg.frame.passDefault = false) :
    defaultDisposition id data s = unmatchedCounted s := by
  simp [defaultDisposition, unmatchedCounted, h]

theorem defaultDisposition_pass (run : s.stage = .run) (h : s.cfg.frame.passDefault = true)
    (room : ∀ c, TakesCopy s.cfg.frame.defaultMask.toNat c s → (s.pass.get c).length < Config.passPlaces) :
    defaultDisposition id data s =
      { unmatchedCounted s with pass := passedTo s.cfg.frame.defaultMask.toNat ⟨id, data⟩ s } := by
  have copies := passFrame_fits (mask := s.cfg.frame.defaultMask.toNat) (f := ⟨id, data⟩) (s := unmatchedCounted s) run room
  have passes : defaultDisposition id data s =
      passFrame s.cfg.frame.defaultMask.toNat ⟨id, data⟩ (unmatchedCounted s) := if_pos h
  rw [passes, copies]
  rfl

end

/-! ## RELEASE and DISCARD -/

theorem heldFrame_none {s : State} {ticket : Nat} (h : ∀ f ∈ s.trap.held, f.ticket ≠ ticket) :
    heldFrame s ticket = none := by
  simpa [heldFrame, List.find?_eq_none] using h

theorem heldFrame_some {s : State} {ticket : Nat} (h : ∃ f ∈ s.trap.held, f.ticket = ticket) :
    ∃ f ∈ s.trap.held, f.ticket = ticket ∧ heldFrame s ticket = some f := by
  obtain ⟨f, hf, same⟩ := h
  obtain ⟨g, hg⟩ := Option.isSome_iff_exists.mp
    (List.find?_isSome.mpr ⟨f, hf, beq_iff_eq.mpr same⟩ : (heldFrame s ticket).isSome)
  exact ⟨g, List.mem_of_find?_eq_some hg, by simpa using List.find?_some hg, hg⟩

/-- Settles O27. -/
theorem releaseAndDiscardFreeThePlace : Obligations.ReleaseAndDiscardFreeThePlace := by
  intro s dt ticket alert room freed
  let u : State := setMask none (elapse dt s)
  refine ⟨fun absent => ?_, fun held => ?_⟩
  · have missing : heldFrame u ticket.toNat = none := heldFrame_none absent
    refine ⟨answersActive_replied (r := .release ticket.toNat) rfl alert (by simp) ?_ alert room,
      answersActive_replied (r := .discard ticket.toNat) rfl alert (by simp) ?_ alert room⟩
    · exact (by rw [serveRelease, missing] : serveRelease ticket.toNat u = reply .noTicket u)
    · exact (by rw [serveDiscard, missing] : serveDiscard ticket.toNat u = reply .noTicket u)
  · obtain ⟨f, mem, same, found⟩ := heldFrame_some (s := u) held
    have left : freeTrap ticket.toNat u = { u with trap := freed } := by
      have kept : (fun f : HeldFrame => f.ticket != ticket.toNat) = fun f => Decidable.decide (f.ticket ≠ ticket.toNat) := by
        funext f
        simp [bne, Bool.beq_eq_decide_eq]
      simp only [freeTrap, kept]
      rfl
    have released (t : State) (h : matchFrame (f.rule + 1) f.id f.data { u with trap := freed } =
        { t with now := t.now + dt, mgmt := { t.mgmt with mask := none } }) (calm : Alert t)
        (tx : t.tx.length < Config.txPlaces) :
        AnswersActive (.release dt ticket) s (replied dt 0x05 .ok [] t) := by
      refine answersActive_replied (r := .release ticket.toNat) rfl alert (by simp) ?_ calm tx
      have served : serveRelease ticket.toNat u = reply .ok (releaseFrame f u) := by rw [serveRelease, found]
      refine served.trans ?_
      rw [releaseFrame, same, left, h]
      rfl
    refine ⟨?_, fun unmatched drops => ?_, fun g only unmatched passes fits => ?_⟩
    · refine answersActive_replied (r := .discard ticket.toNat) (t := { s with trap := freed }) rfl alert (by simp) ?_
        (alert.of_same rfl rfl rfl rfl rfl rfl) room
      have served : serveDiscard ticket.toNat u = reply .ok (freeTrap ticket.toNat u) := by rw [serveDiscard, found]
      exact served.trans (by rw [left]; rfl)
    · refine released _ ?_ (alert.of_same rfl rfl rfl rfl rfl rfl) room
      have unanswered := matchFrame_none (s := { u with trap := freed }) fun j r later => unmatched f mem same j r later
      exact unanswered.trans (defaultDisposition_drop drops)
    · obtain rfl := only f mem same
      refine released _ ?_ (alert.of_same rfl rfl rfl rfl rfl rfl) room
      have unanswered := matchFrame_none (s := { u with trap := freed }) fun j r later => unmatched j r later
      exact unanswered.trans (defaultDisposition_pass alert.run passes fits)

end Sys2Proof.Machine
end

section
/-!
PROOFS. WRITEs of a Channel Power Mode (R58, R67, R166, R176, R177).
-/

namespace Sys2Proof.Machine

/-- Where every other channel has its rate already, only one channel is turned (R176). -/
theorem chooseRates_one {s : State} {c : Closure} (others : ∀ d, d ≠ c → (channel s d).rate = chosenRate s d) :
    chooseRates s = setRate c (chosenRate s c) s := by
  let t := setRate c (chosenRate s c) s
  have turned : rateChosen s c = t := rfl
  have before {d : Closure} (h : d ≠ c) : rateChosen s d = s := setRate_same (others d h)
  have after {d : Closure} (h : d ≠ c) : rateChosen t d = t := by
    refine setRate_same ?_
    rw [(setRate_channelKept h _ s).channel, (setRate_sent c _ s).chosenRate d]
    exact others d h
  rw [chooseRates_fold]
  cases c <;> simp [allClosures, turned, before, after, t]

theorem Four.ext_get {α : Type} {v w : Four α} (h : ∀ x, v.get x = w.get x) : v = w := by
  cases v
  cases w
  simpa [Four.get] using And.intro (h .fl) (And.intro (h .fr) (And.intro (h .rl) (h .rr)))

theorem endMotion_still {s : State} {w : WindowId} (outcome : MotionOutcome)
    (rest : (window s w).state = .idle ∨ (window s w).state = .fault) : endMotion w outcome s = s := by
  rcases rest with h | h <;> simp [endMotion, endMotionRecord, windowMoving, inMotion, h]

/-- A lock group with nothing in flight and nothing pending has nothing to do (R17). -/
theorem followGroup_still {s : State} (noFlight : s.group.inFlight = none) (noSlot : s.group.slot = none) :
    followGroup s = s := by
  simp [followGroup, completeOne, takePending, noFlight, noSlot]

theorem closureDown_still {k : ClosureLock} (rest : k.phase = .idle ∨ k.phase = .fault) : closureDown k = k := by
  rcases rest with h | h <;> simp [closureDown, closureBusy, h]

theorem childDown_still {k : ChildLock} (rest : k.phase = .idle ∨ k.phase = .fault) : childDown k = k := by
  rcases rest with h | h <;> simp [childDown, childBusy, h]

/-- The mode of a channel replaced. -/
def setModeField (c : Closure) (mode : PowerMode) (s : State) : State :=
  { s with cfg := { s.cfg with modes := s.cfg.modes.set c mode } }

/-- A closure with nothing in flight: its window, its lock and its child lock at rest. -/
structure ClosureStill (c : Closure) (s : State) : Prop where
  window : ∀ w, windowClosure w = c → (window s w).state = .idle ∨ (window s w).state = .fault
  lock : (closure s c).phase = .idle ∨ (closure s c).phase = .fault
  child : ∀ d, rearClosure d = c → (child s d).phase = .idle ∨ (child s d).phase = .fault
  noFlight : s.group.inFlight = none
  noSlot : s.group.slot = none

theorem closureWindow_eq {c : Closure} {w : WindowId} : closureWindow c = some w ↔ windowClosure w = c := by
  cases c <;> cases w <;> decide

/-- The windows of a closure out of FAULT (R67). -/
def faultLeft (c : Closure) (s : State) : State :=
  { s with
    windows := s.windows.mapWith fun w x => if windowClosure w = c ∧ x.state = .fault then { x with state := .idle } else x }

/-- What a stopped channel hands to the window of its closure (R67). -/
def stopWindowOf (c : Closure) (s : State) : State :=
  match closureWindow c with
  | some w => windowForcedOff w s
  | none => s

/-- What a stopped channel hands to the child lock of its closure (R177). -/
def stopChildOf (c : Closure) (s : State) : State :=
  match closureRear c with
  | some d => setChild d (childDown (child s d)) s
  | none => s

/-- What a stopped channel hands to the lock of its closure (R177). -/
def stopLockOf (c : Closure) (s : State) : State := setClosure c (closureDown (closure s c)) s

/-- The queue and the slots of a stopped channel (R58, R177). -/
def freeQueueOf (c : Closure) (s : State) : State :=
  { s with
    pass := s.pass.set c []
    motion := { s.motion with slots := s.motion.slots.filter fun sl => windowClosure sl.window != c } }

theorem handForcedOff_parts (c : Closure) (s : State) :
    handForcedOff c s = freeQueueOf c (followGroup (stopChildOf c (stopLockOf c (stopWindowOf c s)))) := rfl

section
variable {c : Closure} {s : State} (still : ClosureStill c s)
include still

theorem stopWindowOf_still : stopWindowOf c s = faultLeft c s := by
  have same : (stopWindowOf c s).windows = (faultLeft c s).windows ∧
      stopWindowOf c s = { s with windows := (stopWindowOf c s).windows } := by
    unfold stopWindowOf
    split
    · next w own =>
      have closed := closureWindow_eq.mp own
      rw [windowForcedOff, endMotion_still _ (still.window w closed)]
      refine ⟨Four.ext_get fun x => ?_, rfl⟩
      by_cases here : x = w
      · subst here
        simp [faultLeft, closed, leaveFault, Machine.window, setWindow]
      · have other : windowClosure x ≠ c := fun same =>
          here (Option.some.inj ((closureWindow_eq.mpr same).symm.trans own))
        simp [faultLeft, other, setWindow, Four.get_set_other here]
    · next none =>
      refine ⟨Four.ext_get fun x => ?_, rfl⟩
      have other : windowClosure x ≠ c := fun same => by simp [closureWindow_eq.mpr same] at none
      simp [faultLeft, other]
  rw [same.2, same.1]
  rfl

theorem stopLockOf_still : stopLockOf c s = s := by
  rw [stopLockOf, closureDown_still still.lock]
  simp [setClosure, closure]

theorem stopChildOf_still : stopChildOf c s = s := by
  unfold stopChildOf
  split
  · next d own =>
    rw [childDown_still (still.child d (closureRear_eq.mp own))]
    simp [setChild, child]
  · rfl

theorem faultLeft_still : ClosureStill c (faultLeft c s) := by
  refine ⟨fun w own => .inl ?_, still.lock, still.child, still.noFlight, still.noSlot⟩
  have rest := still.window w own
  by_cases fault : (window s w).state = .fault
  · simp [faultLeft, Machine.window, own] at fault ⊢
    simp [fault]
  · have idle := rest.resolve_right fault
    simp [faultLeft, Machine.window] at idle ⊢
    simp [idle]

/-- A stop of a channel with nothing in flight frees its queue and slots, and takes the window out of FAULT (R177). -/
theorem handForcedOff_still : handForcedOff c s = freeQueueOf c (faultLeft c s) := by
  have left := faultLeft_still still
  rw [handForcedOff_parts, stopWindowOf_still still, stopLockOf_still left, stopChildOf_still left,
    followGroup_still left.noFlight left.noSlot]

end

/-! ## WRITEs of the mode -/


theorem ownerWrite_mode (c : Closure) (n : Nat) (s : State) :
    ownerWrite ⟨1, closureCode c + 5, 0⟩ n s = writeMode c n s := by
  cases c <;> rfl

theorem advance_mode (c : Closure) : advance ⟨1, closureCode c + 5, 0⟩ = (⟨1, closureCode c + 5, 1⟩, false) := by
  cases c <;> rfl

/-- A mode that leaves every chosen rate as it is (R176). -/
theorem setModeField_rates {s : State} (alert : Alert s) (c : Closure) (mode : PowerMode) {d : Closure} (h : d ≠ c) :
    (channel (setModeField c mode s) d).rate = chosenRate (setModeField c mode s) d := by
  have rate := alert.rates d
  simp only [chosenRate, setModeField, alert.run, alert.awake, Five.get_set_other h] at rate ⊢
  exact rate

theorem setMode_runs {s : State} {c : Closure} {mode : PowerMode} (alert : Alert s) (sends : mode ≠ .forcedOff) :
    setMode c mode s = setRate c .fast (setModeField c mode s) := by
  have fast : chosenRate (setModeField c mode s) c = .fast :=
    chosenRate_awake (s := setModeField c mode s) alert.run alert.awake (by simpa [setModeField] using sends)
  have one := chooseRates_one (s := setModeField c mode s) (c := c) fun d h => setModeField_rates alert c mode h
  have kept : (mode == .forcedOff) = false := beq_false_of_ne sends
  rw [fast] at one
  simp only [setMode, kept, Bool.false_and, Bool.false_eq_true, if_false]
  exact one

theorem setMode_stops {s : State} {c : Closure} (alert : Alert s) (ran : s.cfg.modes.get c ≠ .forcedOff) :
    setMode c .forcedOff s =
      handForcedOff c (setChannel c (stoppedChannel (channel s c)) (setModeField c .forcedOff s)) := by
  have off : chosenRate (setModeField c .forcedOff s) c = .off := by simp [chosenRate, setModeField, alert.run]
  have one := chooseRates_one (s := setModeField c .forcedOff s) (c := c) fun d h =>
    setModeField_rates alert c .forcedOff h
  have fast : (channel s c).rate = .fast := (alert.rates c).trans (chosenRate_awake alert.run alert.awake ran)
  have stopped : setRate c .off (setModeField c .forcedOff s) =
      setChannel c (stoppedChannel (channel s c)) (setModeField c .forcedOff s) := by
    have same : channel (setModeField c .forcedOff s) c = channel s c := rfl
    simp [setRate, same, fast]
  rw [off, stopped] at one
  have changed : ((PowerMode.forcedOff == .forcedOff) && (s.cfg.modes.get c != .forcedOff)) = true := by
    simp [bne, beq_false_of_ne ran]
  exact (if_pos changed).trans (congrArg (handForcedOff c) one)

/-- A part whose modes changed stays alert where the channel of the new mode has its rate (R176). -/
theorem Alert.of_mode {s t : State} {c : Closure} {mode : PowerMode} (alert : Alert s) (stage : t.stage = s.stage)
    (ctx : t.ctx = s.ctx) (cfg : t.cfg = (setModeField c mode s).cfg)
    (others : ∀ d, d ≠ c → channel t d = channel s d)
    (rate : (channel t c).rate = if mode = .forcedOff then .off else .fast) : Alert t := by
  have run : t.stage = .run := stage.trans alert.run
  have awake : t.ctx.state = .awake := ctx ▸ alert.awake
  have own : t.cfg.modes.get c = mode := by simp [cfg, setModeField]
  refine ⟨run, awake, fun off => ?_, fun d => ?_⟩
  · rw [cfg]
    exact alert.parkDelay (ctx ▸ off)
  · by_cases here : d = c
    · subst here
      rw [rate]
      split
      · next off => simp [chosenRate, run, own, off]
      · next on => exact (chosenRate_awake run awake (own ▸ on)).symm
    · rw [others d here]
      have same := setModeField_rates alert c mode here
      simpa [chosenRate, run, awake, alert.run, alert.awake, cfg, setModeField, channel] using same

theorem driveSent_setChannel (now : Nat) (ch : Channel) (c : Closure) (s : State) :
    driveSent now ch c (setChannel c ch s) = driveSent now ch c s := by
  simp only [driveSent, setChannel, Five.set_set]
  rfl

/-- Settles O19. -/
theorem forcedOffStopsTheChannel : Obligations.ForcedOffStopsTheChannel := by
  intro s dt c v ready
  have alert := ready.alert
  let u : State := setMask none (elapse dt s)
  have awake : Alert u := alert.of_same rfl rfl rfl rfl rfl rfl
  have owner {mode : PowerMode} (code : powerModeOfCode (bitsOf v.toNat 0 2) = some mode) :
      ownerWrite ⟨1, closureCode c + 5, 0⟩ v.toNat u = .ok (setMode c mode u) := by
    rw [ownerWrite_mode, writeMode, code]
  refine ⟨fun outside => ?_, fun off ran window lock child noFlight noSlot => ?_, fun mode code => ?_⟩
  · refine answers_refused rfl ready rfl ?_
    rw [ownerWrite_mode, writeMode, outside]
    rfl
  · have still : ClosureStill c (setChannel c (stoppedChannel (channel u c)) (setModeField c .forcedOff u)) :=
      ⟨window, lock, child, noFlight, noSlot⟩
    refine answers_accepted rfl ready rfl (owner (mode := .forcedOff) (by rw [off]; rfl) |>.trans ?_) ?_ ready.room
      (advance_mode c)
    · rw [setMode_stops awake ran, handForcedOff_still still]
      simp only [stoppedChannel, beq_iff_eq]
      rfl
    · refine alert.of_mode (mode := .forcedOff) rfl rfl rfl (fun d other => ?_) ?_
      · exact Five.get_set_other other _ _
      · simp [channel]
  · intro t answers
    have sends : mode ≠ .forcedOff := by rcases code with ⟨_, rfl⟩ | ⟨_, rfl⟩ <;> decide
    have accepted := owner (mode := mode) (by rcases code with ⟨h, rfl⟩ | ⟨h, rfl⟩ <;> rw [h] <;> rfl)
    rw [setMode_runs awake sends] at accepted
    refine ⟨fun ran => ?_, fun stood => ?_⟩
    · have fast : (channel s c).rate = .fast := (alert.rates c).trans (chosenRate_awake alert.run alert.awake ran)
      refine answers_accepted rfl ready rfl (accepted.trans ?_) ?_ ready.room (advance_mode c)
      · rw [setRate_same (s := setModeField c mode u) fast]
        rfl
      · exact alert.of_mode (mode := mode) rfl rfl rfl (fun _ _ => rfl) (by rw [if_neg sends]; exact fast)
    · have off : (channel s c).rate = .off := by simpa [chosenRate, alert.run, stood] using alert.rates c
      let x := setModeField c mode u
      have starts : setRate c .fast x = driveSent u.now { channel u c with rate := .fast } c x := by
        have stopped : (channel x c).rate = .off := off
        have sent : setRate c .fast x = sendDrive c (setChannel c { channel x c with rate := .fast } x) := by
          simp [setRate, stopped]
        have awake' : (setChannel c { channel x c with rate := .fast } x).ctx.state ≠ .deep := by
          simp [x, setModeField, u, alert.awake]
        have drive := sendDrive_eq (s := setChannel c { channel x c with rate := .fast } x) (c := c) alert.run awake'
          (by simp)
        rw [sent, drive, channel_setChannel, driveSent_setChannel]
        rfl
      refine answers_accepted rfl ready rfl (accepted.trans (congrArg Except.ok starts)) ?_ ready.room (advance_mode c)
      refine alert.of_mode (mode := mode) rfl rfl rfl (fun d other => ?_) ?_
      · simp [driveSent, channel, t, Five.get_set_other other]
      · simp [driveSent, channel, sends]

end Sys2Proof.Machine
end

section
/-!
PROOFS. Lock requests that are taken at once (R5, R7, R8, R17, R23, R39): an actuation as one change of the state, what
follows it, and the requests of management.
-/

namespace Sys2Proof.Machine

/-! ## A fold over closures -/

/-- Turns that each replace the record of one closure, judged by that record as it was. -/
theorem foldl_closures {turn : State → Closure → State} {new : Closure → ClosureLock} {s : State} {names : List Closure}
    (once : names.Nodup)
    (each : ∀ L c, c ∈ names → L.get c = s.closures.get c →
      turn { s with closures := L } c = { s with closures := L.set c (new c) }) :
    names.foldl turn s = { s with closures := s.closures.mapWith fun c k => if c ∈ names then new c else k } := by
  suffices general : ∀ L : Five ClosureLock, (∀ c ∈ names, L.get c = s.closures.get c) →
      names.foldl turn { s with closures := L } =
        { s with closures := L.mapWith fun c k => if c ∈ names then new c else k } from
    general s.closures fun _ _ => rfl
  induction names with
  | nil =>
    intro L _
    have same : (L.mapWith fun c k => if c ∈ ([] : List Closure) then new c else k) = L := Five.ext_get fun c => by simp
    simp only [List.foldl_nil, same]
  | cons c names ih =>
    intro L kept
    obtain ⟨fresh, once⟩ := List.nodup_cons.mp once
    have rest := ih once (fun L d hd => each L d (List.mem_cons_of_mem c hd)) (L.set c (new c)) fun d hd => by
      have other : d ≠ c := fun same => fresh (same ▸ hd)
      rw [Five.get_set_other other]
      exact kept d (List.mem_cons_of_mem c hd)
    rw [List.foldl_cons, each L c (List.mem_cons_self ..) (kept c (List.mem_cons_self ..)), rest]
    have same : ((L.set c (new c)).mapWith fun d k => if d ∈ names then new d else k) =
        L.mapWith fun d k => if d ∈ c :: names then new d else k := Five.ext_get fun d => by
      by_cases here : d = c
      · subst here
        simp [fresh]
      · simp [here, Five.get_set_other here]
    rw [same]

/-! ## Actuation (R8) -/

theorem named_eq (kind : LockKind) (driver : Closure) : named kind driver = requestNames driver kind := by
  cases kind <;> rfl

theorem newTarget_eq (kind : LockKind) (c : Closure) : newTarget kind c = requestTarget kind c := by
  cases kind <;> cases c <;> rfl

theorem requestNames_nodup (driver : Closure) (kind : LockKind) : (requestNames driver kind).Nodup := by
  cases kind <;> simp [requestNames]

theorem dropSteady_eq (s : State) : dropSteady s = { s with timed := lessSteady s.timed } := by
  have same (t : Option TimedPattern) (h : s.timed = t) : { s with timed := t } = s := by rw [← h]
  cases timed : s.timed with
  | none => exact (by simp [dropSteady, timed] : dropSteady s = s).trans (same none timed).symm
  | some t =>
    by_cases steady : t.pattern = .steady
    · simp [dropSteady, timed, lessSteady, Option.filter, steady]
    · have left : dropSteady s = s := by simp [dropSteady, timed, steady]
      simpa [lessSteady, Option.filter, steady] using left.trans (same (some t) timed).symm

theorem aimed_eq (target : LockTarget) (source : LockSource) (k : ClosureLock) :
    aimed target source k =
      { k with
        target := target, lastSource := source
        openedSinceUnlock := if target = LockTarget.unlocked then false else k.openedSinceUnlock } := by
  cases target <;> simp [aimed]

/-- A closure that is not driven and has no pulse prepared, once it is aimed and its channel reports. -/
theorem actuateClosure_sends {kind : LockKind} {source : LockSource} {c : Closure} {s : State}
    (present : (channel s c).link ≠ .lost) (sends : channelOff s c = false)
    (unsent : (closure s c).command = .idle ∧ (closure s c).pulseSteps = 0) :
    actuateClosure kind source c s =
      setClosure c (actuated (requestTarget kind c) source s.cfg.car.pulseSteps (closure s c)) s := by
  obtain ⟨idle, _⟩ := unsent
  have found : nodeLost s c = false := by simpa [nodeLost] using present
  simp only [actuateClosure, found, sends, Bool.or_self, Bool.false_eq_true, if_false, aimed_eq, newTarget_eq, actuated]
  split
  · simp [standAt, dropPulse, idle, isPulse]
  · rfl

/-- What a request that is taken makes of the group (R5, R22). -/
def groupTaken (now : Nat) (r : LockRequest) (driver : Closure) (g : LockGroup) : LockGroup :=
  { g with
    inFlight := some ⟨r, driver⟩, tokens := g.tokens - 1, lastRefusal := none
    refillDeadline := g.refillDeadline <|> some (now + 5000), relockTimer := none }

theorem actuate_eq {r : LockRequest} {s : State} (ready : LockReady s)
    (relock : r.source ≠ .autoRelock ∨ s.group.relockTimer = none) (plain : r.kind ≠ .crashUnlock) :
    actuate r s = lockTaken 0 r s := by
  have timer : (if r.source == .autoRelock then s.group.relockTimer else none) = none := by
    rcases relock with h | h <;> simp [h]
  let t : State := { s with
    group := groupTaken s.now r (driverClosure s) s.group
    timed := if r.kind = .lockAll ∨ r.kind = .deadlockAll then s.timed else lessSteady s.timed }
  have begun : actuate r s =
      (requestNames (driverClosure s) r.kind).foldl (fun t c => actuateClosure r.kind r.source c t) t := by
    have opens : unlockType r.kind = true ↔ ¬(r.kind = .lockAll ∨ r.kind = .deadlockAll) := by
      cases h : r.kind <;> simp_all [unlockType]
    unfold actuate
    simp only [consumeToken, timer, named_eq]
    by_cases opening : unlockType r.kind = true
    · simp only [opening, if_true, dropSteady_eq, t, if_neg (opens.mp opening)]
      rfl
    · have locking : r.kind = .lockAll ∨ r.kind = .deadlockAll := by
        by_contra h
        exact opening (opens.mpr h)
      simp only [opening, t, if_pos locking]
      rfl
  have each := foldl_closures (turn := fun t c => actuateClosure r.kind r.source c t) (s := t)
    (new := fun c => actuated (requestTarget r.kind c) r.source s.cfg.car.pulseSteps (closure s c))
    (requestNames_nodup (driverClosure s) r.kind) fun L c _ same => by
      have sends : channelOff { t with closures := L } c = false := ready.alert.sends (ready.notForced c)
      have unsent : (closure { t with closures := L } c).command = .idle ∧
          (closure { t with closures := L } c).pulseSteps = 0 := by
        have record : closure { t with closures := L } c = closure s c := same
        rw [record]
        exact ready.unsent c
      have turn := actuateClosure_sends (kind := r.kind) (source := r.source) (s := { t with closures := L })
        (ready.present c) sends unsent
      refine turn.trans ?_
      have record : closure { t with closures := L } c = closure s c := same
      rw [record]
      rfl
  rw [begun, each]
  have same : (t.closures.mapWith fun c k => if c ∈ requestNames (driverClosure s) r.kind
      then actuated (requestTarget r.kind c) r.source s.cfg.car.pulseSteps (closure s c) else k) =
      s.closures.mapWith fun c k => if c ∈ requestNames (driverClosure s) r.kind
        then actuated (requestTarget r.kind c) r.source s.cfg.car.pulseSteps k else k := Five.ext_get fun c => by
    simp only [Five.get_mapWith]
    rfl
  rw [same]
  rfl

/-- A lock group that is ready finds nothing to refuse (R7). -/
theorem lockRefusal_none {r : LockRequest} {s : State} (ready : LockReady s) : lockRefusal r s = none := by
  have noAjar : anyAjar s = false := by
    simpa [anyAjar] using fun c _ => ready.noAjar c
  have tokens : s.group.tokens ≠ 0 := Nat.pos_iff_ne_zero.mp ready.tokens
  simp [lockRefusal, ready.noHold, noAjar, tokens]

theorem groupBusy_idle {s : State} (idle : ∀ c, (closure s c).phase = .idle ∨ (closure s c).phase = .fault) :
    groupBusy s = false := by
  refine List.any_eq_false.mpr fun c _ => ?_
  rcases idle c with h | h <;> simp [closureBusy, h]

theorem ready_reported {s : State} (r : LockRequest) (awake : s.ctx.state = .awake)
    (reported : ∀ c, (channel s c).reported = true) : ready s r = true := by
  simp [ready, isAwake, awake, reported]

/-- A request of a lock group that is ready is actuated, and the group goes on from there (R7, R9). -/
theorem placeLock_ready {r : LockRequest} {s : State} (h : LockReady s)
    (relock : r.source ≠ .autoRelock ∨ s.group.relockTimer = none) (plain : r.kind ≠ .crashUnlock) :
    placeLock r s = followGroup (lockTaken 0 r s) := by
  have taken : takeRequest r s = actuate r s := by rw [takeRequest, lockRefusal_none h]
  simp only [placeLock, groupBusy_idle h.idle, ready_reported r h.alert.awake h.reported, taken,
    actuate_eq h relock plain, Bool.false_eq_true, if_false, if_true]

/-- A group that is busy, with nothing pending, has nothing to do (R17). -/
theorem followGroup_busy {s : State} (busy : groupBusy s = true) (noSlot : s.group.slot = none) : followGroup s = s := by
  have wait : completeOne s = (s, false) := by
    unfold completeOne
    split
    · rfl
    · rw [if_pos busy]
  simp [followGroup, wait, takePending, noSlot]

theorem lockTaken_closure (dt : Nat) (r : LockRequest) (s : State) (c : Closure) :
    closure (lockTaken dt r s) c =
      if c ∈ requestNames (driverClosure s) r.kind
      then actuated (requestTarget r.kind c) r.source s.cfg.car.pulseSteps (closure s c) else closure s c := by
  simp [closure, lockTaken, lockedBy]

/-- A request that leaves a closure to be driven is in flight (R8, R17). -/
theorem followGroup_taken {r : LockRequest} {s : State} (dt : Nat) (noSlot : s.group.slot = none)
    (drives : Drives r.kind s) : followGroup (lockTaken dt r s) = lockTaken dt r s := by
  obtain ⟨c, named, away⟩ := drives
  refine followGroup_busy (List.any_eq_true.mpr ⟨c, by cases c <;> decide, ?_⟩) noSlot
  rw [lockTaken_closure, if_pos named]
  simp [actuated, away, closureBusy]

/-- A source whose unlock starts no relock timer (R21). -/
def QuietSource (source : LockSource) : Prop := source ≠ .fob ∧ source ≠ .passive ∧ source ≠ .remote

theorem completeItems_lock {f : InFlight} {s : State} (lock : f.request.kind = .lockAll ∨ f.request.kind = .deadlockAll)
    (idle : ∀ c ∈ requestNames f.driver f.request.kind, (closure s c).phase = .idle) :
    completeItems f s =
      { s with group := { s.group with inFlight := none }, timed := some ⟨.steady, s.now + 5000⟩ } := by
  have locks : lockType f.request.kind = true := by rcases lock with h | h <;> simp [h, lockType]
  have still : ((named f.request.kind f.driver).all fun c => (closure s c).phase == .idle) = true := by
    simpa [named_eq] using idle
  unfold completeItems
  dsimp only
  rw [if_pos locks]
  exact (if_pos still).trans rfl

theorem completeItems_unlock {f : InFlight} {s : State}
    (unlock : ¬(f.request.kind = .lockAll ∨ f.request.kind = .deadlockAll)) (quiet : QuietSource f.request.source) :
    completeItems f s = { s with group := { s.group with inFlight := none, driveAwayArmed := true } } := by
  have unlocks : lockType f.request.kind = false := by
    cases h : f.request.kind <;> simp_all [lockType]
  obtain ⟨fob, passive, remote⟩ := quiet
  simp [completeItems, unlocks, startRelock, fob, passive, remote]

/-- A group whose request in flight completes, with no release due and nothing pending (R17). -/
theorem followGroup_completes {f : InFlight} {s t : State} (flight : s.group.inFlight = some f)
    (idle : groupBusy s = false) (completed : completeItems f s = t) (noDue : f.request.releaseAfter = false)
    (noFlight : t.group.inFlight = none) (noSlot : t.group.slot = none) : followGroup s = t := by
  have due : releaseDue f s = false := by simp [releaseDue, noDue]
  have one : completeOne s = (t, false) := by
    rw [completeOne, flight]
    simp only [idle, completed, due, Bool.false_eq_true, if_false]
  have pending : takePending t = t := by simp [takePending, noSlot]
  have again : completeOne t = (t, false) := by simp [completeOne, noFlight]
  simp [followGroup, one, pending, again]

theorem lockTaken_stands {r : LockRequest} {s : State} (dt : Nat) (stands : ¬Drives r.kind s) {c : Closure}
    (named : c ∈ requestNames (driverClosure s) r.kind) : (closure (lockTaken dt r s) c).phase = .idle := by
  have there : atTarget (closure s c).sensed (requestTarget r.kind c) = true := by
    by_contra away
    exact stands ⟨c, named, by simpa using away⟩
  rw [lockTaken_closure, if_pos named]
  simp [actuated, there]

/-- A request that leaves no closure to be driven completes at once (R8, R17). -/
theorem followGroup_completed {r : LockRequest} {s : State}
    (idle : ∀ c, (closure s c).phase = .idle ∨ (closure s c).phase = .fault) (noSlot : s.group.slot = none)
    (stands : ¬Drives r.kind s) (quiet : QuietSource r.source) (noDue : r.releaseAfter = false) :
    followGroup (lockTaken 0 r s) = lockCompleted 0 r s := by
  have still : groupBusy (lockTaken 0 r s) = false := by
    refine groupBusy_idle fun c => ?_
    by_cases named : c ∈ requestNames (driverClosure s) r.kind
    · exact .inl (lockTaken_stands 0 stands named)
    · rw [lockTaken_closure, if_neg named]
      exact idle c
  have flight : (lockTaken 0 r s).group.inFlight = some ⟨r, driverClosure s⟩ := rfl
  by_cases lock : r.kind = .lockAll ∨ r.kind = .deadlockAll
  · have completed : lockCompleted 0 r s =
        { lockTaken 0 r s with
          group := { (lockTaken 0 r s).group with inFlight := none }, timed := some ⟨.steady, s.now + 5000⟩ } := if_pos lock
    rw [completed]
    exact followGroup_completes flight still
      (completeItems_lock (f := ⟨r, driverClosure s⟩) lock fun c named => lockTaken_stands 0 stands named) noDue rfl noSlot
  · have completed : lockCompleted 0 r s =
        { lockTaken 0 r s with
          group := { (lockTaken 0 r s).group with inFlight := none, driveAwayArmed := true } } := if_neg lock
    rw [completed]
    exact followGroup_completes flight still (completeItems_unlock (f := ⟨r, driverClosure s⟩) lock quiet) noDue rfl noSlot

/-! ## The arrival of a request in AWAKE (R9) -/

theorem LockReady.of_fields {s t : State} (h : LockReady s) (alert : Alert t) (room : t.tx.length < Config.txPlaces)
    (closures : t.closures = s.closures) (group : t.group = s.group) (channels : t.channels = s.channels)
    (modes : t.cfg.modes = s.cfg.modes) : LockReady t := by
  have lock (c : Closure) : closure t c = closure s c := by simp [closure, closures]
  have link (c : Closure) : channel t c = channel s c := by simp [channel, channels]
  refine ⟨alert, room, ?_, ?_, ?_, ?_, ?_, ?_, ?_, ?_, ?_, ?_⟩
  · simpa only [lock] using h.idle
  · simpa only [lock] using h.unsent
  · exact group ▸ h.noFlight
  · exact group ▸ h.noSlot
  · simpa only [link] using h.reported
  · simpa only [link] using h.present
  · exact modes ▸ h.notForced
  · exact group ▸ h.tokens
  · exact group ▸ h.noHold
  · simpa only [lock] using h.noAjar

/-- The activity of an event in AWAKE, as other times of activity. -/
theorem activity_eq (s : State) : ∃ last idle, activity s = withActivity last idle s :=
  ⟨_, _, (activity_agreesWith s).eq⟩

/-- In AWAKE a request other than a crash unlock is placed at once (R9, R10). -/
theorem arriveLock_awake {r : LockRequest} {s : State} (run : s.stage = .run) (awake : s.ctx.state = .awake)
    (plain : r.kind ≠ .crashUnlock) : arriveLock r s = placeLock r (activity s) := by
  have on : running s = true := by simp [running, run]
  have other : (r.kind == .crashUnlock) = false := beq_false_of_ne plain
  simp only [arriveLock, on, Bool.not_true, Bool.false_eq_true, if_false, wake_activity .request awake, other]

section
variable {r : LockRequest} {s : State} (h : LockReady s)
  (relock : r.source ≠ .autoRelock ∨ s.group.relockTimer = none) (plain : r.kind ≠ .crashUnlock)
include h relock plain

/-- A request that arrives in a group that is ready and leaves a closure to be driven. -/
theorem arriveLock_drives (drives : Drives r.kind s) : AgreeButActivity (arriveLock r s) (lockTaken 0 r s) := by
  obtain ⟨last, idle, active⟩ := activity_eq s
  have ready : LockReady (withActivity last idle s) :=
    h.of_fields (h.alert.of_same rfl rfl rfl rfl rfl rfl) h.room rfl rfl rfl rfl
  rw [arriveLock_awake h.alert.run h.alert.awake plain, active, placeLock_ready ready relock plain,
    followGroup_taken 0 (s := withActivity last idle s) h.noSlot drives]
  exact withActivity_agrees last idle (lockTaken 0 r s)

/-- A request that arrives in a group that is ready and finds every closure at its target. -/
theorem arriveLock_completes (stands : ¬Drives r.kind s) (quiet : QuietSource r.source) (noDue : r.releaseAfter = false) :
    AgreeButActivity (arriveLock r s) (lockCompleted 0 r s) := by
  obtain ⟨last, idle, active⟩ := activity_eq s
  have ready : LockReady (withActivity last idle s) :=
    h.of_fields (h.alert.of_same rfl rfl rfl rfl rfl rfl) h.room rfl rfl rfl rfl
  rw [arriveLock_awake h.alert.run h.alert.awake plain, active, placeLock_ready ready relock plain,
    followGroup_completed (s := withActivity last idle s) h.idle h.noSlot stands quiet noDue]
  unfold lockCompleted
  split
  · exact withActivity_agrees last idle { lockTaken 0 r s with
      group := { (lockTaken 0 r s).group with inFlight := none }, timed := some ⟨.steady, s.now + 5000⟩ }
  · exact withActivity_agrees last idle { lockTaken 0 r s with
      group := { (lockTaken 0 r s).group with inFlight := none, driveAwayArmed := true } }

end

/-! ## Requests of management -/

/-- The rows of the lock requests hand on a request of management. -/
theorem exec_lockRow {i : Instr} {kind : LockKind} {dt : Nat} (row : (i, kind) ∈ lockRows dt) :
    (∀ s, exec i s = perform dt (manage (.request (.lock kind))) s) ∧ kind ≠ .crashUnlock := by
  simp only [lockRows, List.mem_cons, Prod.mk.injEq, List.not_mem_nil, or_false] at row
  rcases row with ⟨rfl, rfl⟩ | ⟨rfl, rfl⟩ | ⟨rfl, rfl⟩ | ⟨rfl, rfl⟩ | ⟨rfl, rfl⟩ <;> exact ⟨fun _ => rfl, by decide⟩

theorem managementSource_plain {kind : LockKind} (plain : kind ≠ .crashUnlock) : managementSource kind = .management := by
  simp [managementSource, plain]

section
variable {i : Instr} {kind : LockKind} {s : State} {dt : Nat} (row : (i, kind) ∈ lockRows dt) (ready : LockReady s)
include row ready

theorem answers_lockRow {t : State} (agrees : AgreeButActivity
    (arriveLock ⟨kind, .management, false⟩ (setMask none (elapse dt s))) (setMask none (elapse dt t)))
    (calm : Alert t) (room : t.tx.length < Config.txPlaces) : AnswersActive i s (replied dt 0x07 .ok [] t) := by
  obtain ⟨meaning, plain⟩ := exec_lockRow row
  refine answersActive_agreeing (r := .request (.lock kind)) (meaning s) ready.alert (by simp) ?_ agrees calm room
  rw [← managementSource_plain plain]
  rfl

theorem answers_taken (drives : Drives kind s) :
    AnswersActive i s (replied dt 0x07 .ok [] (lockTaken dt ⟨kind, .management, false⟩ s)) := by
  have there : LockReady (setMask none (elapse dt s)) :=
    ready.of_fields (ready.alert.of_same rfl rfl rfl rfl rfl rfl) ready.room rfl rfl rfl rfl
  exact answers_lockRow row ready (arriveLock_drives there (.inl (by simp)) (exec_lockRow row).2 drives)
    (ready.alert.of_same rfl rfl rfl rfl rfl rfl) ready.room

theorem answers_completed (stands : ¬Drives kind s) :
    AnswersActive i s (replied dt 0x07 .ok [] (lockCompleted dt ⟨kind, .management, false⟩ s)) := by
  have there : LockReady (setMask none (elapse dt s)) :=
    ready.of_fields (ready.alert.of_same rfl rfl rfl rfl rfl rfl) ready.room rfl rfl rfl rfl
  have agrees := arriveLock_completes there (r := ⟨kind, .management, false⟩) (.inl (by simp)) (exec_lockRow row).2 stands
    ⟨by simp, by simp, by simp⟩ rfl
  have same : lockCompleted 0 ⟨kind, .management, false⟩ (setMask none (elapse dt s)) =
      setMask none (elapse dt (lockCompleted dt ⟨kind, .management, false⟩ s)) := by
    unfold lockCompleted
    split <;> rfl
  rw [same] at agrees
  refine answers_lockRow row ready agrees ?_ ?_
  all_goals
    unfold lockCompleted
    split
  · exact ready.alert.of_same rfl rfl rfl rfl rfl rfl
  · exact ready.alert.of_same rfl rfl rfl rfl rfl rfl
  · exact ready.room
  · exact ready.room

end

/-- Settles O28. -/
theorem lockRequestsActuateTheNamedClosures : Obligations.LockRequestsActuateTheNamedClosures := by
  intro s dt ready all deadlock unlocked
  refine ⟨fun drives => ?_, fun drives => ?_, fun drives => ?_, fun drives => ?_, fun drives => ?_,
    fun i kind row stands => answers_completed row ready stands⟩
  · exact answers_taken (i := .lockAll dt) (kind := .lockAll) (by simp [lockRows]) ready drives
  · exact answers_taken (i := .deadlockAll dt) (kind := .deadlockAll) (by simp [lockRows]) ready drives
  · exact answers_taken (i := .unlockAll dt) (kind := .unlockAll) (by simp [lockRows]) ready drives
  · exact answers_taken (i := .unlockDriver dt) (kind := .unlockDriver) (by simp [lockRows]) ready drives
  · exact answers_taken (i := .unlockTailgate dt) (kind := .unlockTailgate) (by simp [lockRows]) ready drives

end Sys2Proof.Machine
end

section
/-!
PROOFS. Lock requests that are refused, merge or wait, and those of a part at rest (R6, R7, R9, R10, R19, R192): what the
windows and the engine leave alone, and the step in which a request wakes the part.
-/

namespace Sys2Proof.Machine

/-! ## What the windows and the engine leave alone -/

/-- A state less the records of the windows, the engine, the traffic and the activity. -/
def lessMotion (s : State) : State :=
  { s with
    windows := State.reset.windows, motion := State.reset.motion, op := State.reset.op, tx := [], faults := []
    ctx := { s.ctx with lastActivity := 0, idleDeadline := 0 } }

/-- Any field but those. -/
theorem same_of_motion {α : Type} {s t : State} (h : lessMotion t = lessMotion s) (f : State → α)
    (hf : ∀ u, f (lessMotion u) = f u) : f t = f s := by
  rw [← hf t, h, hf]

section
variable (s : State)

theorem lessMotion_of_traffic {s t : State} (h : lessTraffic t = lessTraffic s) : lessMotion t = lessMotion s :=
  (congrArg lessMotion h : lessMotion (lessTraffic t) = lessMotion (lessTraffic s))

@[simp] theorem activity_lessMotion : lessMotion (activity s) = lessMotion s := by
  rw [(activity_agreesWith s).eq]
  rfl

@[simp] theorem offerNotice_lessMotion (d : List Byte) : lessMotion (offerNotice d s) = lessMotion s :=
  lessMotion_of_traffic (offerNotice_rest d s)

@[simp] theorem endMotionRecord_lessMotion (w : WindowId) (outcome : MotionOutcome) :
    lessMotion (endMotionRecord w outcome s) = lessMotion s := by
  unfold endMotionRecord
  (repeat' split) <;> rfl

@[simp] theorem stopForEngine_lessMotion (w : WindowId) : lessMotion (stopForEngine w s) = lessMotion s := by
  unfold stopForEngine
  dsimp only
  split <;> simp

theorem foldl_lessMotion {α : Type} {f : State → α → State} (h : ∀ s a, lessMotion (f s a) = lessMotion s) (l : List α) :
    lessMotion (l.foldl f s) = lessMotion s := by
  induction l generalizing s with
  | nil => rfl
  | cons a l ih => rw [List.foldl_cons, ih, h]

@[simp] theorem endOperation_lessMotion (op : ActiveOp) : lessMotion (endOperation op s) = lessMotion s := by
  rw [endOperation, offerNotice_lessMotion]
  rfl

@[simp] theorem abort_lessMotion (cause : AbortCause) : lessMotion (abort cause s) = lessMotion s := by
  unfold abort
  split
  · rfl
  · rw [endOperation_lessMotion]
    exact foldl_lessMotion _ (fun _ _ => stopForEngine_lessMotion _ _) _

@[simp] theorem handStatus_lessMotion (w : WindowId) (status : StepStatus) :
    lessMotion (handStatus w status s) = lessMotion s := by
  have tested : lessMotion (crashTest s) = lessMotion s := by
    unfold crashTest
    split <;> simp
  unfold handStatus
  dsimp only
  split
  · exact tested
  · split
    · exact tested
    · split
      · rw [abort_lessMotion]
        exact tested
      · unfold keepOrEnd
        split
        · rw [endOperation_lessMotion]
          exact tested
        · exact tested

@[simp] theorem endMotion_lessMotion (w : WindowId) (outcome : MotionOutcome) :
    lessMotion (endMotion w outcome s) = lessMotion s := by
  unfold endMotion handOutcome
  dsimp only
  (repeat' split) <;> simp

@[simp] theorem crashStop_lessMotion : lessMotion (crashStop s) = lessMotion s := by
  refine foldl_lessMotion _ (fun t w => ?_) _
  dsimp only
  split <;> simp

end

/-! ## A request of a part at rest (R192, R193) -/

/-- A request whose effect leaves the part in AWAKE: the close of the step has the rates to choose alone. -/
theorem exec_roused {i : Instr} {dt : Nat} {r : ManagementRequest} {s : State} {x : Reply}
    (meaning : exec i s = perform dt (manage r) s) (run : s.stage = .run) (h : r ≠ .restart)
    (served : serve r (maskAfter r (elapse dt s)) = x) (stage : x.state.stage = .run)
    (awake : x.state.ctx.state = .awake) (delay : 0 < x.state.cfg.car.parkDelay) :
    exec i s = .next (chooseRates (activity (responded r x))) := by
  have stage' : (responded r x).stage = .run := (responded_same State.stage (fun _ => rfl) r x).trans stage
  have awake' : (responded r x).ctx.state = .awake := (responded_same (fun u => u.ctx.state) (fun _ => rfl) r x).trans awake
  have delay' : 0 < (responded r x).cfg.car.parkDelay := by
    rw [responded_same (fun u => u.cfg.car.parkDelay) (fun _ => rfl)]
    exact delay
  have answered : answer r x = activity (responded r x) := wake_activity .management awake'
  rw [meaning, perform_supplied dt _ (by simp [run]), manage_run (s := elapse dt s) run h, served, answered]
  rw [finish_awake]
  · rw [activity_run stage']
    exact stage'
  · rw [activity_state, awake']
  · intro _
    rw [activity_run stage']
    exact delay'
  · rw [activity_run stage']
    rfl
  · rw [activity_run stage']
    rfl

/-- The part as a request of a part at rest finds it: woken with cause REQUEST (R192). -/
@[irreducible] def roused (s : State) : State := offerPages (woken .request s)

theorem wake_roused {s : State} (run : s.stage = .run) (asleep : s.ctx.state = .parked ∨ s.ctx.state = .deep) :
    wake .request (activity s) = roused s := by
  have stage : (activity s).stage = .run := by rw [activity_run run]; exact run
  rw [wake_asleep stage (by rw [activity_state]; exact asleep), woken_activity run, roused]

theorem roused_same {α : Type} (f : State → α) (hf : ∀ u, f (lessTraffic u) = f u) (s : State) :
    f (roused s) = f (woken .request s) := by
  rw [roused]
  exact offerPages_same f hf _

/-- `u` is the end of a step that woke the part, `x` being the state that the request's own effect left: the response
and its activity came after it, and the drives of the channels that start. -/
structure Rouses (x u : State) : Prop where
  state : u.ctx.state = .awake
  lastWake : u.ctx.lastWake = x.ctx.lastWake
  group : u.group = x.group
  target : ∀ c, (closure u c).target = (closure x c).target
  phase : ∀ c, (closure u c).phase = (closure x c).phase
  childPhase : ∀ d, (child u d).phase = (child x d).phase
  reported : ∀ c, (channel x c).reported = false → (channel u c).reported = false
  rates : ∀ c, x.cfg.modes.get c ≠ .forcedOff → (channel u c).rate = .fast
  first : ∀ c, x.cfg.modes.get c ≠ .forcedOff → (channel x c).rate = .off → FirstDrive c x u

theorem FirstDrive.of_same {c : Closure} {x y u : State} (h : FirstDrive c y u) (now : y.now = x.now)
    (closures : y.closures = x.closures) (children : y.children = x.children) (release : y.release = x.release) :
    FirstDrive c x u := by
  have lock : closure y c = closure x c := by simp [closure, closures]
  have kid (r : RearDoor) : Machine.child y r = Machine.child x r := by simp [Machine.child, children]
  obtain ⟨drive, locks, kids, released⟩ := h
  exact ⟨by simpa only [lock, kid, release] using drive, by rw [locks, lock, now], fun r own => by rw [kids r own, kid],
    fun tg => by rw [released tg, release, now]⟩

theorem chooseRates_rouses {x y : State} (same : lessMotion y = lessMotion x) (stage : x.stage = .run)
    (awake : x.ctx.state = .awake) : Rouses x (chooseRates y) := by
  have sent := chooseRates_sent y
  have run : y.stage = .run := (same_of_motion same State.stage fun _ => rfl).trans stage
  have state : y.ctx.state = .awake := (same_of_motion same (fun u => u.ctx.state) fun _ => rfl).trans awake
  have cfg : y.cfg = x.cfg := same_of_motion same State.cfg fun _ => rfl
  have closures (c : Closure) : closure y c = closure x c := same_of_motion same (fun u => closure u c) fun _ => rfl
  have channels (c : Closure) : channel y c = channel x c := same_of_motion same (fun u => channel u c) fun _ => rfl
  refine ⟨by rw [sent.ctx, state], ?_, ?_, fun c => ?_, fun c => ?_, fun d => ?_, fun c silent => ?_, fun c mode => ?_,
    fun c mode off => ?_⟩
  · rw [sent.ctx]
    exact same_of_motion same (fun u => u.ctx.lastWake) fun _ => rfl
  · exact (sent.same State.group fun _ => rfl).trans (same_of_motion same State.group fun _ => rfl)
  · rw [sent.target, closures]
  · rw [sent.phase, closures]
  · rw [sent.childPhase]
    exact same_of_motion same (fun u => (child u d).phase) fun _ => rfl
  · exact chooseRates_reported (by rw [channels, silent])
  · rw [chooseRates_rate]
    exact chosenRate_awake run state (by rw [cfg]; exact mode)
  · have first := chooseRates_first (s := y) run state (c := c) (by rw [cfg]; exact mode) (by rw [channels, off])
    exact first.of_same (same_of_motion same State.now fun _ => rfl) (same_of_motion same State.closures fun _ => rfl)
      (same_of_motion same State.children fun _ => rfl) (same_of_motion same State.release fun _ => rfl)

/-- The end of the step in which a request of a part at rest is taken, its own effect being `x`. -/
theorem exec_rouses {i : Instr} {dt : Nat} {r : ManagementRequest} {s x : State} {result : Result} {tail : List Byte}
    (meaning : exec i s = perform dt (manage r) s) (asleep : Asleep s) (h : r ≠ .restart)
    (served : serve r (maskAfter r (elapse dt s)) = ⟨x, result, tail⟩) (stage : x.stage = .run)
    (awake : x.ctx.state = .awake) (cfg : x.cfg = s.cfg) : ∃ u, exec i s = .next u ∧ Rouses x u := by
  refine ⟨_, exec_roused meaning asleep.run h served stage awake (by rw [cfg]; exact asleep.parkDelay),
    chooseRates_rouses ?_ stage awake⟩
  rw [activity_lessMotion]
  exact lessMotion_of_traffic (offer_rest _ _)

/-! ## Requests that are refused, merge or wait in AWAKE -/

theorem refuseLock_eq {cause : LockRefusal} {s : State} (other : cause ≠ .ajar) :
    refuseLock cause s = { s with group := { s.group with lastRefusal := some cause } } := by
  simp [refuseLock, other]

/-- A group that is idle and ready, with nothing pending. -/
structure GroupIdle (s : State) : Prop where
  idle : ∀ c, (closure s c).phase = .idle ∨ (closure s c).phase = .fault
  noFlight : s.group.inFlight = none
  noSlot : s.group.slot = none
  reported : ∀ c, (channel s c).reported = true

theorem placeLock_refused {r : LockRequest} {s : State} {cause : LockRefusal} (group : GroupIdle s)
    (awake : s.ctx.state = .awake) (refused : lockRefusal r s = some cause) (other : cause ≠ .ajar) :
    placeLock r s = { s with group := { s.group with lastRefusal := some cause } } := by
  have taken : takeRequest r s = { s with group := { s.group with lastRefusal := some cause } } := by
    rw [takeRequest, refused]
    exact refuseLock_eq other
  simp only [placeLock, groupBusy_idle group.idle, ready_reported r awake group.reported, taken, Bool.false_eq_true,
    if_false, if_true]
  exact followGroup_still group.noFlight group.noSlot

theorem lockRefusal_crashHold {r : LockRequest} {s : State} (locks : lockType r.kind = true)
    (held : s.group.crashHold.isSome = true) : lockRefusal r s = some .crashHold := by
  simp [lockRefusal, locks, held]

theorem lockRefusal_budget {r : LockRequest} {s : State} (free : lockType r.kind = true → s.group.crashHold = none)
    (source : ajarSource r.source = false) (spent : s.group.tokens = 0) : lockRefusal r s = some .budget := by
  have clear : (lockType r.kind && s.group.crashHold.isSome) = false := by
    cases locks : lockType r.kind
    · rfl
    · simp [free locks]
  simp [lockRefusal, clear, source, spent]

theorem mergeOrWait_merges {r : LockRequest} {f : InFlight} {s : State} (flight : s.group.inFlight = some f)
    (same : f.request.kind = r.kind) (noRelease : r.releaseAfter = false) : mergeOrWait r s = s := by
  have kept : ({ s with group := { s.group with inFlight := some f } } : State) = s := by rw [← flight]
  unfold mergeOrWait
  rw [flight]
  simp only [noRelease, Bool.or_false]
  exact (if_pos (beq_iff_eq.mpr same)).trans kept

theorem mergeOrWait_waits {r : LockRequest} {f : InFlight} {s : State} (flight : s.group.inFlight = some f)
    (other : f.request.kind ≠ r.kind) : mergeOrWait r s = { s with group := { s.group with slot := some r } } := by
  unfold mergeOrWait
  rw [flight]
  simp [other]

theorem groupBusy_of {s : State} {c : Closure}
    (busy : (closure s c).phase = .driving ∨ (closure s c).phase = .settling ∨ (closure s c).phase = .retrying) :
    groupBusy s = true := by
  refine List.any_eq_true.mpr ⟨c, by cases c <;> decide, ?_⟩
  rcases busy with h | h | h <;> simp [closureBusy, h]

theorem lockType_iff (kind : LockKind) : lockType kind = true ↔ kind = .lockAll ∨ kind = .deadlockAll := by
  cases kind <;> simp [lockType]

/-- A lock request of management in AWAKE, by what becomes of it where it is placed. -/
theorem answers_placed {i : Instr} {kind : LockKind} {s t : State} {dt : Nat} (row : (i, kind) ∈ lockRows dt)
    (alert : Alert s) (room : t.tx.length < Config.txPlaces) (calm : Alert t)
    (placed : ∀ last idle, placeLock ⟨kind, .management, false⟩ (withActivity last idle (setMask none (elapse dt s))) =
      withActivity last idle (setMask none (elapse dt t))) :
    AnswersActive i s (replied dt 0x07 .ok [] t) := by
  obtain ⟨meaning, plain⟩ := exec_lockRow row
  obtain ⟨last, idle, active⟩ := activity_eq (setMask none (elapse dt s))
  have arrives : arriveLock ⟨kind, .management, false⟩ (setMask none (elapse dt s)) =
      withActivity last idle (setMask none (elapse dt t)) := by
    rw [arriveLock_awake (s := setMask none (elapse dt s)) alert.run alert.awake plain, active, placed]
  refine answersActive_agreeing (r := .request (.lock kind)) (u := arriveLock _ _) (meaning s) alert (by simp) ?_
    (by rw [arrives]; exact withActivity_agrees last idle _) calm room
  rw [← managementSource_plain plain]
  rfl

/-! ## Requests of a part at rest -/

/-- A request of a part at rest waits for the first reports of the channels it names (R9). -/
theorem placeLock_waits {r : LockRequest} {s : State} {c : Closure}
    (idle : ∀ d, (closure s d).phase = .idle ∨ (closure s d).phase = .fault)
    (named : c ∈ requestNames (driverClosure s) r.kind) (silent : (channel s c).reported = false)
    (present : (channel s c).link ≠ .lost) (mode : s.cfg.modes.get c ≠ .forcedOff) :
    placeLock r s = { s with group := { s.group with slot := some r } } := by
  have unready : ready s r = false := by
    have waits : ((channel s c).reported || forcedOff s c || nodeLost s c) = false := by
      simp [silent, forcedOff, mode, nodeLost, present]
    have all : ((Machine.named r.kind (driverClosure s)).all fun c => (channel s c).reported || forcedOff s c || nodeLost s c) =
        false := List.all_eq_false.mpr ⟨c, by rw [named_eq]; exact named, by simp [waits]⟩
    simp [ready, all]
  simp [placeLock, groupBusy_idle idle, unready]

/-- A lock request of a part at rest, crash unlocks apart (R9, R192). -/
theorem arriveLock_asleep {r : LockRequest} {s : State} (run : s.stage = .run)
    (asleep : s.ctx.state = .parked ∨ s.ctx.state = .deep) (plain : r.kind ≠ .crashUnlock) :
    arriveLock r s = placeLock r (roused s) := by
  have on : running s = true := by simp [running, run]
  have other : (r.kind == .crashUnlock) = false := beq_false_of_ne plain
  simp only [arriveLock, on, Bool.not_true, Bool.false_eq_true, if_false, wake_roused run asleep, other]

section
variable (s : State)

theorem roused_closure (c : Closure) : closure (roused s) c = closure s c :=
  roused_same (fun u => closure u c) (fun _ => rfl) s

theorem roused_child (d : RearDoor) : child (roused s) d = child s d :=
  roused_same (fun u => child u d) (fun _ => rfl) s

theorem roused_channel (c : Closure) : channel (roused s) c = { channel s c with reported := false } := by
  rw [roused_same (fun u => channel u c) fun _ => rfl]
  simp [woken, channel]

theorem roused_cfg : (roused s).cfg = s.cfg := roused_same State.cfg (fun _ => rfl) s

theorem roused_now : (roused s).now = s.now := roused_same State.now (fun _ => rfl) s

theorem roused_stage : (roused s).stage = s.stage := roused_same State.stage (fun _ => rfl) s

theorem roused_group : (roused s).group = s.group := roused_same State.group (fun _ => rfl) s

theorem roused_state : (roused s).ctx.state = .awake := roused_same (fun u => u.ctx.state) (fun _ => rfl) s

theorem roused_lastWake : (roused s).ctx.lastWake = some .request :=
  roused_same (fun u => u.ctx.lastWake) (fun _ => rfl) s

end

/-- The state with a request pending. -/
def pendingLock (r : LockRequest) (s : State) : State := { s with group := { s.group with slot := some r } }

/-- The end of a step in which a lock request of management woke the part and waits (R9, R192). -/
theorem exec_lockWaits {i : Instr} {kind : LockKind} {s : State} {dt : Nat} {c : Closure}
    (row : (i, kind) ∈ lockRows dt) (asleep : Asleep s)
    (idle : ∀ d, (closure s d).phase = .idle ∨ (closure s d).phase = .fault)
    (named : c ∈ requestNames (driverClosure s) kind) (present : (channel s c).link ≠ .lost)
    (mode : s.cfg.modes.get c ≠ .forcedOff) :
    ∃ u, exec i s = .next u ∧ Rouses (pendingLock ⟨kind, .management, false⟩ (roused (setMask none (elapse dt s)))) u := by
  obtain ⟨meaning, plain⟩ := exec_lockRow row
  have waits : arriveLock ⟨kind, .management, false⟩ (setMask none (elapse dt s)) =
      pendingLock ⟨kind, .management, false⟩ (roused (setMask none (elapse dt s))) := by
    rw [arriveLock_asleep (s := setMask none (elapse dt s)) asleep.run asleep.asleep plain]
    refine placeLock_waits (c := c) (fun d => ?_) ?_ ?_ ?_ ?_
    · rw [roused_closure]
      exact idle d
    · rw [driverClosure, roused_cfg]
      exact named
    · rw [roused_channel]
    · rw [roused_channel]
      exact present
    · rw [roused_cfg]
      exact mode
  have served : serve (.request (.lock kind)) (maskAfter (.request (.lock kind)) (elapse dt s)) =
      ⟨pendingLock ⟨kind, .management, false⟩ (roused (setMask none (elapse dt s))), .ok, []⟩ := by
    rw [← waits, ← managementSource_plain plain]
    rfl
  exact exec_rouses (meaning s) asleep (by simp) served ((roused_stage _).trans asleep.run) (roused_state _) (roused_cfg _)

/-! ## A crash unlock of a part at rest (R19, R192) -/

/-- A closure under a crash unlock (R19 C, D). -/
def crashRecord (s : State) (c : Closure) : ClosureLock :=
  let k := aimed .unlocked .crash (closure s c)
  if (channel s c).link = .lost ∨ s.cfg.modes.get c = .forcedOff then standAt .fault k
  else driveAt .driving s.cfg.car.pulseSteps k

/-- The group and the closures of a crash unlock that is taken (R19 A to E). -/
def crashTaken (s : State) : State :=
  { s with
    closures := s.closures.mapWith fun c _ => crashRecord s c
    group := { s.group with
      inFlight := some ⟨⟨.crashUnlock, .crash, false⟩, driverClosure s⟩, slot := none, relockTimer := none
      driverFirst := none, doubleLock := none, lastRefusal := none, crashHold := some s.now }
    timed := lessSteady s.timed }

theorem takeCrash_eq (s : State) : takeCrash s = followGroup (crashStop (abort .crashAbort (crashTaken s))) := by
  let t : State := { s with group := (crashTaken s).group, timed := lessSteady s.timed }
  have each := foldl_closures (turn := fun t c => crashClosure c t) (s := t) (names := allClosures) (new := crashRecord s)
    (by decide) fun L c _ same => by
      have record : closure { t with closures := L } c = closure s c := same
      have down : (nodeLost { t with closures := L } c || forcedOff { t with closures := L } c) = true ↔
          ((channel s c).link = .lost ∨ s.cfg.modes.get c = .forcedOff) := by
        rw [Bool.or_eq_true, nodeLost_iff, forcedOff_iff]
        rfl
      simp only [crashClosure, record, crashRecord, down]
      rfl
  have all : (t.closures.mapWith fun c k => if c ∈ allClosures then crashRecord s c else k) = (crashTaken s).closures :=
    Five.ext_get fun c => by cases c <;> rfl
  rw [all] at each
  unfold takeCrash
  simp only [dropSteady_eq]
  exact congrArg (fun u => followGroup (crashStop (abort .crashAbort u))) each

/-- With a closure to be driven, a crash unlock is in flight, and the rest of it touches the windows and the engine
alone (R19). -/
theorem takeCrash_lessMotion {s : State} {c : Closure} (present : (channel s c).link ≠ .lost)
    (mode : s.cfg.modes.get c ≠ .forcedOff) : lessMotion (takeCrash s) = lessMotion (crashTaken s) := by
  let u := crashStop (abort .crashAbort (crashTaken s))
  have same : lessMotion u = lessMotion (crashTaken s) := by
    rw [crashStop_lessMotion, abort_lessMotion]
  have drives : (closure u c).phase = .driving := by
    have record : closure u c = closure (crashTaken s) c := same_of_motion same (fun v => closure v c) fun _ => rfl
    have down : ¬((channel s c).link = .lost ∨ s.cfg.modes.get c = .forcedOff) := not_or.mpr ⟨present, mode⟩
    rw [record]
    simp [crashTaken, closure, crashRecord, down, driveAt]
  have slot : u.group.slot = none := same_of_motion same (fun v => v.group.slot) fun _ => rfl
  rw [takeCrash_eq, followGroup_busy (groupBusy_of (.inl drives)) slot]
  exact same

theorem arriveLock_crash_asleep {s : State} (run : s.stage = .run)
    (asleep : s.ctx.state = .parked ∨ s.ctx.state = .deep) (source : LockSource) (after : Bool) :
    arriveLock ⟨.crashUnlock, source, after⟩ s = takeCrash (roused s) := by
  have on : running s = true := by simp [running, run]
  simp only [arriveLock, on, Bool.not_true, Bool.false_eq_true, if_false, wake_roused run asleep, beq_self_eq_true, if_true]

/-! ## The first byte of a Node Drive (12 section 12.5) -/

theorem lockCommandCode_lt (k : LockCommand) : lockCommandCode k < 8 := by cases k <;> decide

theorem childCode_lt (k : Option ChildCommand) : (k.map childCommandCode).getD 0 < 4 := by
  cases k with
  | none => decide
  | some k => cases k <;> decide

theorem flagBit_lt (b : Bool) : flagBit b < 2 := by cases b <;> decide

/-- The number that the commands of a drive make in its first byte. -/
theorem driveBytes_first (d : NodeDrive) :
    byteNat (driveBytes d) 0 =
      lockCommandCode d.lock + 8 * ((d.child.map childCommandCode).getD 0 + 4 * (flagBit d.release + 2 * motorCode d.motor)) := by
  have lock := lockCommandCode_lt d.lock
  have child := childCode_lt d.child
  have release := flagBit_lt d.release
  have motor : motorCode d.motor < 4 := by cases d.motor <;> decide
  have head : byteNat (driveBytes d) 0 =
      (byteOf [(3, lockCommandCode d.lock), (2, (d.child.map childCommandCode).getD 0), (1, flagBit d.release),
        (2, motorCode d.motor)]).toNat := by
    unfold driveBytes byteNat
    cases d.payload <;> rfl
  rw [head, byteOf, BitVec.toNat_ofNat]
  simp only [packBits]
  omega

theorem lockBits (d : NodeDrive) : byteNat (driveBytes d) 0 % 8 = lockCommandCode d.lock := by
  have lock := lockCommandCode_lt d.lock
  rw [driveBytes_first]
  omega

theorem childBits (d : NodeDrive) : byteNat (driveBytes d) 0 / 8 % 4 = (d.child.map childCommandCode).getD 0 := by
  have lock := lockCommandCode_lt d.lock
  have child := childCode_lt d.child
  rw [driveBytes_first]
  omega

theorem releaseBit (d : NodeDrive) : byteNat (driveBytes d) 0 / 32 % 2 = flagBit d.release := by
  have lock := lockCommandCode_lt d.lock
  have child := childCode_lt d.child
  have release := flagBit_lt d.release
  rw [driveBytes_first]
  omega

/-- Settles O29. -/
theorem lockRequestsAreRefusedOrWait : Obligations.LockRequestsAreRefusedOrWait := by
  intro s dt room idle
  refine ⟨fun i kind row alert => ?_, fun i kind row asleep rest noFlight ⟨c, named, present, mode⟩ => ?_,
    fun asleep c off present auto => ?_⟩
  · intro locking refused
    refine ⟨fun rest noFlight noSlot reported => ⟨fun held locks => ?_, fun spent free => ?_⟩, fun f c busy flight =>
      ⟨fun same => ?_, fun other => ?_⟩⟩
    · refine answers_placed row alert room (alert.of_same rfl rfl rfl rfl rfl rfl) fun last idle => ?_
      exact placeLock_refused (s := withActivity last idle (setMask none (elapse dt s)))
        ⟨rest, noFlight, noSlot, reported⟩ alert.awake (lockRefusal_crashHold ((lockType_iff kind).mpr locks) held) (by simp)
    · refine answers_placed row alert room (alert.of_same rfl rfl rfl rfl rfl rfl) fun last idle => ?_
      exact placeLock_refused (s := withActivity last idle (setMask none (elapse dt s)))
        ⟨rest, noFlight, noSlot, reported⟩ alert.awake
        (lockRefusal_budget (fun locks => free ((lockType_iff kind).mp locks)) rfl spent) (by simp)
    · refine answers_placed row alert room alert fun last idle => ?_
      have waits : groupBusy (withActivity last idle (setMask none (elapse dt s))) = true := groupBusy_of busy
      rw [placeLock, if_pos waits]
      exact mergeOrWait_merges flight same rfl
    · refine answers_placed row alert room (alert.of_same rfl rfl rfl rfl rfl rfl) fun last idle => ?_
      have waits : groupBusy (withActivity last idle (setMask none (elapse dt s))) = true := groupBusy_of busy
      rw [placeLock, if_pos waits]
      exact mergeOrWait_waits flight other
  · obtain ⟨u, next, rouses⟩ := exec_lockWaits row asleep rest named present mode
    refine ⟨u, next, rouses.state, rouses.lastWake.trans (roused_lastWake _), ?_, fun c => ⟨?_, ?_, ?_, fun mode => ?_⟩⟩
    · rw [rouses.group, pendingLock, roused_group]
      rfl
    · exact (rouses.target c).trans (congrArg ClosureLock.target (roused_closure _ c))
    · exact (rouses.phase c).trans (congrArg ClosureLock.phase (roused_closure _ c))
    · exact rouses.reported c (congrArg Channel.reported (roused_channel _ c))
    · have modes := congrArg (fun t : Tables => t.modes.get c) (roused_cfg (setMask none (elapse dt s)))
      exact rouses.rates c fun off => mode (modes.symm.trans off)
  · let x := takeCrash (roused (setMask none (elapse dt s)))
    let v := roused (setMask none (elapse dt s))
    have cfg : v.cfg = s.cfg := roused_cfg _
    have link : channel v c = { channel s c with reported := false } := roused_channel _ c
    have present' : (channel v c).link ≠ .lost := by rw [link]; exact present
    have mode : v.cfg.modes.get c ≠ .forcedOff := by simp [cfg, auto]
    have same : lessMotion x = lessMotion (crashTaken v) := takeCrash_lessMotion present' mode
    have served : serve (.request (.lock .crashUnlock)) (maskAfter (.request (.lock .crashUnlock)) (elapse dt s)) =
        ⟨x, .ok, []⟩ :=
      congrArg (reply .ok) (arriveLock_crash_asleep (s := setMask none (elapse dt s)) asleep.run asleep.asleep .crash false)
    have cfg' : x.cfg = s.cfg := (same_of_motion same State.cfg fun _ => rfl).trans cfg
    obtain ⟨u, next, rouses⟩ := exec_rouses (i := .crashUnlock dt) rfl asleep (by simp) served
      ((same_of_motion same State.stage fun _ => rfl).trans ((roused_stage _).trans asleep.run))
      ((same_of_motion same (fun u => u.ctx.state) fun _ => rfl).trans (roused_state _)) cfg'
    have record : closure x c = driveAt .driving s.cfg.car.pulseSteps (aimed .unlocked .crash (closure v c)) := by
      have down : ¬((channel v c).link = .lost ∨ v.cfg.modes.get c = .forcedOff) := not_or.mpr ⟨present', mode⟩
      have taken : closure (crashTaken v) c = crashRecord v c := by simp [crashTaken, closure]
      rw [same_of_motion same (fun u => closure u c) fun _ => rfl, taken, crashRecord, if_neg down, cfg]
    have channel' : (channel x c).rate = .off := by
      rw [same_of_motion same (fun u => channel u c) fun _ => rfl]
      exact (congrArg Channel.rate link).trans off
    have now : x.now = s.now + dt := (same_of_motion same State.now fun _ => rfl).trans (roused_now _)
    obtain ⟨⟨d, bytes, lock, _, _⟩, sent, _, _⟩ := rouses.first c (by simp [cfg', auto]) channel'
    refine ⟨u, driveBytes d, next, rouses.state, ?_, ?_, ?_, ?_, bytes, ?_, ?_⟩
    · rw [rouses.target, record]
      rfl
    · rw [rouses.phase, record]
      rfl
    · rw [sent]
      rfl
    · rw [sent, record, now]
      rfl
    · rw [lockBits, lock, record]
      rfl
    · rw [rouses.group, same_of_motion same State.group fun _ => rfl]
      exact congrArg some (roused_now _)

end Sys2Proof.Machine
end

section
/-!
PROOFS. RELEASE_TAILGATE, CRASH_UNLOCK and CRASH_CLEAR, and CHILD_SET (R19, R20, R24, R30, R31).
-/

namespace Sys2Proof.Machine

/-! ## RELEASE_TAILGATE (R24) -/

/-- The speed is a fresh 0. -/
def Standing (s : State) : Prop := s.ctx.speed = 0 ∧ ∃ d, s.ctx.speedFresh = some d ∧ s.now ≤ d

theorem live_iff (now : Nat) (t : Option Nat) : live now t = true ↔ ∃ d, t = some d ∧ now ≤ d := by
  cases t <;> simp [live]

theorem speedFresh_iff (s : State) : speedFresh s = true ↔ ∃ d, s.ctx.speedFresh = some d ∧ s.now ≤ d := live_iff _ _

section
variable {s : State}

theorem checkRelease_locked (locked : (closure s .tg).target ≠ .unlocked) :
    checkRelease s = { s with group := { s.group with lastRefusal := some .locked } } := by
  have other : ((closure s .tg).target != .unlocked) = true := bne_iff_ne.mpr locked
  rw [checkRelease, if_pos other, refuseLock_eq (by decide)]

theorem checkRelease_moving (unlocked : (closure s .tg).target = .unlocked) (moving : ¬Standing s) :
    checkRelease s = { s with group := { s.group with lastRefusal := some .moving } } := by
  have same : ((closure s .tg).target != .unlocked) = false := by simp [unlocked]
  have moves : s.ctx.speed ≠ 0 ∨ (!speedFresh s) = true := by
    by_contra stands
    obtain ⟨zero, fresh⟩ := not_or.mp stands
    exact moving ⟨not_not.mp zero, (speedFresh_iff s).mp (by simpa using fresh)⟩
  rw [checkRelease, same, if_neg (by simp), if_pos moves, refuseLock_eq (by decide)]

/-- The record of the release once a request is taken: prepared, unless one runs or TG's node is LOST. -/
def releaseTaken (s : State) : TailgateRelease :=
  if s.release.deadline.isSome ∨ (channel s .tg).link = .lost then s.release else { s.release with prepared := true }

theorem checkRelease_taken (unlocked : (closure s .tg).target = .unlocked) (stands : Standing s) :
    checkRelease s = { s with group := { s.group with lastRefusal := none }, release := releaseTaken s } := by
  obtain ⟨zero, fresh⟩ := stands
  have same : ((closure s .tg).target != .unlocked) = false := by simp [unlocked]
  have still : ¬(s.ctx.speed ≠ 0 ∨ (!speedFresh s) = true) := by simp [zero, (speedFresh_iff s).mpr fresh]
  rw [checkRelease, same, if_neg (by simp), if_neg still]
  by_cases waits : s.release.deadline.isSome ∨ (channel s .tg).link = .lost
  · have holds : (s.release.deadline.isSome || nodeLost { s with group := { s.group with lastRefusal := none } } .tg) = true := by
      rw [Bool.or_eq_true, nodeLost_iff]
      exact waits
    rw [releaseTaken, if_pos waits]
    exact if_pos holds
  · have free : ¬(s.release.deadline.isSome || nodeLost { s with group := { s.group with lastRefusal := none } } .tg) = true := by
      rw [Bool.or_eq_true, nodeLost_iff]
      exact waits
    rw [releaseTaken, if_neg waits]
    exact if_neg free

theorem releaseTailgate_awake (run : s.stage = .run) (awake : s.ctx.state = .awake) :
    releaseTailgate s = checkRelease (activity s) := by
  have on : running s = true := by simp [running, run]
  simp only [releaseTailgate, on, if_true, wake_activity .request awake]

theorem releaseTailgate_asleep (run : s.stage = .run) (asleep : s.ctx.state = .parked ∨ s.ctx.state = .deep) :
    releaseTailgate s = checkRelease (roused s) := by
  have on : running s = true := by simp [running, run]
  simp only [releaseTailgate, on, if_true, wake_roused run asleep]

end

/-- A request of management in AWAKE whose effect comes after its own activity. -/
theorem answers_afterActivity {i : Instr} {dt : Nat} {kind : RequestKind} {s t : State} {effect : State → State}
    (meaning : exec i s = perform dt (manage (.request kind)) s) (alert : Alert s)
    (served : serveRequest kind (setMask none (elapse dt s)) = reply .ok (effect (activity (setMask none (elapse dt s)))))
    (taken : ∀ last idle, effect (withActivity last idle (setMask none (elapse dt s))) =
      withActivity last idle (setMask none (elapse dt t)))
    (calm : Alert t) (room : t.tx.length < Config.txPlaces) : AnswersActive i s (replied dt 0x07 .ok [] t) := by
  obtain ⟨last, idle, active⟩ := activity_eq (setMask none (elapse dt s))
  rw [active, taken] at served
  exact answersActive_agreeing (r := .request kind) meaning alert (by simp) served (withActivity_agrees last idle _) calm room

/-- Settles O30. -/
theorem tailgateReleaseIsCheckedInOrder : Obligations.TailgateReleaseIsCheckedInOrder := by
  intro s dt room refused fresh
  refine ⟨fun alert => ?_, fun asleep unlocked stands noRelease present off auto => ?_⟩
  · have served : serveRequest .releaseTailgate (setMask none (elapse dt s)) =
        reply .ok (checkRelease (activity (setMask none (elapse dt s)))) :=
      congrArg (reply .ok) (releaseTailgate_awake (s := setMask none (elapse dt s)) alert.run alert.awake)
    refine ⟨fun locked => ?_, fun unlocked moving => ?_, fun unlocked stands => ?_⟩
    · exact answers_afterActivity (kind := .releaseTailgate) rfl alert served
        (fun last idle => checkRelease_locked (s := withActivity last idle (setMask none (elapse dt s))) locked)
        (alert.of_same rfl rfl rfl rfl rfl rfl) room
    · exact answers_afterActivity (kind := .releaseTailgate) rfl alert served
        (fun last idle => checkRelease_moving (s := withActivity last idle (setMask none (elapse dt s))) unlocked moving)
        (alert.of_same rfl rfl rfl rfl rfl rfl) room
    · exact answers_afterActivity (kind := .releaseTailgate) rfl alert served
        (fun last idle => checkRelease_taken (s := withActivity last idle (setMask none (elapse dt s))) unlocked stands)
        (alert.of_same rfl rfl rfl rfl rfl rfl) room
  · let v := roused (setMask none (elapse dt s))
    have link : channel v .tg = { channel s .tg with reported := false } := roused_channel _ .tg
    have release : v.release = s.release := roused_same State.release (fun _ => rfl) _
    have now : v.now = s.now + dt := roused_now _
    have still : Standing v := by
      obtain ⟨zero, d, at_, later⟩ := stands
      refine ⟨(roused_same (fun u => u.ctx.speed) (fun _ => rfl) _).trans zero, d, ?_, by rw [now]; exact later⟩
      exact (roused_same (fun u => u.ctx.speedFresh) (fun _ => rfl) _).trans at_
    have prepared : releaseTaken v = ⟨none, true⟩ := by
      have free : ¬(v.release.deadline.isSome ∨ (channel v .tg).link = .lost) := by
        rw [release, link, noRelease]
        simp [present]
      rw [releaseTaken, if_neg free, release]
      simp only [noRelease]
    have opened : (closure v .tg).target = .unlocked :=
      (congrArg ClosureLock.target (roused_closure (setMask none (elapse dt s)) .tg)).trans unlocked
    have taken : checkRelease v = { v with group := { v.group with lastRefusal := none }, release := ⟨none, true⟩ } := by
      rw [checkRelease_taken opened still, prepared]
    have served : serve (.request .releaseTailgate) (maskAfter (.request .releaseTailgate) (elapse dt s)) =
        ⟨{ v with group := { v.group with lastRefusal := none }, release := ⟨none, true⟩ }, .ok, []⟩ := by
      rw [← taken]
      exact congrArg (reply .ok) (releaseTailgate_asleep (s := setMask none (elapse dt s)) asleep.run asleep.asleep)
    obtain ⟨u, next, rouses⟩ := exec_rouses (i := .releaseTailgate dt) rfl asleep (by simp) served
      ((roused_stage _).trans asleep.run) (roused_state _) (roused_cfg _)
    have mode : v.cfg.modes.get .tg = .auto := (congrArg (fun t : Tables => t.modes.get .tg) (roused_cfg _)).trans auto
    obtain ⟨⟨d, bytes, _, _, carries⟩, _, _, sent⟩ := rouses.first .tg (by rw [mode]; decide)
      ((congrArg Channel.rate link).trans off)
    refine ⟨u, driveBytes d, next, rouses.state, ?_, bytes, ?_⟩
    · rw [sent rfl]
      simp only [if_true]
      exact congrArg (fun n => (⟨some (n + 300), false⟩ : TailgateRelease)) now
    · rw [releaseBit, carries]
      rfl

/-! ## CRASH_UNLOCK and CRASH_CLEAR (R19, R20) -/

theorem abort_none {s : State} (cause : AbortCause) (h : s.op.active = none) : abort cause s = s := by simp [abort, h]

/-- A crash stops no window that is at rest or opens (R60). -/
theorem crashStop_still {s : State}
    (open_ : ∀ w, (window s w).state = .idle ∨ (window s w).state = .fault ∨ (window s w).direction = .down) :
    crashStop s = s := by
  have stays (w : WindowId) : (if ((window s w).direction == .up && ((window s w).state == .waiting || inMotion (window s w))) =
      true then endMotion w .stopped s else s) = s := by
    refine if_neg ?_
    rcases open_ w with h | h | h <;> simp [inMotion, h]
  simp only [crashStop, allWindows, List.foldl_cons, List.foldl_nil, stays]

/-- A crash unlock of a part with every channel sending, no operation and no closing window (R19). -/
theorem takeCrash_taken {s : State} (present : ∀ c, (channel s c).link ≠ .lost)
    (modes : ∀ c, s.cfg.modes.get c ≠ .forcedOff) (noOp : s.op.active = none)
    (open_ : ∀ w, (window s w).state = .idle ∨ (window s w).state = .fault ∨ (window s w).direction = .down) :
    takeCrash s = crashTaken s := by
  have drives : (closure (crashTaken s) .fl).phase = .driving := by
    simp [crashTaken, closure, crashRecord, present, modes, driveAt]
  have aborted := abort_none (s := crashTaken s) .crashAbort noOp
  rw [takeCrash_eq, aborted, crashStop_still (s := crashTaken s) open_, followGroup_busy (groupBusy_of (.inl drives)) rfl]

theorem arriveLock_crash_awake {s : State} (run : s.stage = .run) (awake : s.ctx.state = .awake) (source : LockSource)
    (after : Bool) : arriveLock ⟨.crashUnlock, source, after⟩ s = takeCrash (activity s) := by
  have on : running s = true := by simp [running, run]
  simp only [arriveLock, on, Bool.not_true, Bool.false_eq_true, if_false, wake_activity .request awake, beq_self_eq_true,
    if_true]

/-- Settles O31. -/
theorem crashUnlockAndClearActAtOnce : Obligations.CrashUnlockAndClearActAtOnce := by
  intro s dt alert room
  refine ⟨fun present modes noOp open_ => ?_, ?_⟩
  · have served : serveRequest (.lock .crashUnlock) (setMask none (elapse dt s)) =
        reply .ok (takeCrash (activity (setMask none (elapse dt s)))) :=
      congrArg (reply .ok)
        (arriveLock_crash_awake (s := setMask none (elapse dt s)) alert.run alert.awake .crash false)
    refine answers_afterActivity (kind := .lock .crashUnlock) rfl alert served (fun last idle => ?_)
      (alert.of_same rfl rfl rfl rfl rfl rfl) room
    have record (c : Closure) : crashRecord (withActivity last idle (setMask none (elapse dt s))) c =
        { closure s c with
          target := .unlocked, lastSource := .crash, openedSinceUnlock := false, phase := .driving
          command := .unlockPulse, pulseSteps := s.cfg.car.pulseSteps, driveDeadline := none, settleDeadline := none } := by
      have sends : ¬((channel (withActivity last idle (setMask none (elapse dt s))) c).link = .lost ∨
          (withActivity last idle (setMask none (elapse dt s))).cfg.modes.get c = .forcedOff) :=
        not_or.mpr ⟨present c, modes c⟩
      rw [crashRecord, aimed_eq, if_neg sends]
      rfl
    rw [takeCrash_taken (s := withActivity last idle (setMask none (elapse dt s))) present modes noOp open_]
    simp only [crashTaken, record]
    rfl
  · exact answersActive_replied (r := .request .crashClear) (t := { s with group := { s.group with crashHold := none } }) rfl
      alert (by simp) rfl (alert.of_same rfl rfl rfl rfl rfl rfl) room

/-! ## CHILD_SET (R30, R31) -/

@[simp] theorem followSettings_lessMotion (before s : State) : lessMotion (followSettings before s) = lessMotion s := by
  refine foldl_lessMotion _ (fun t w => ?_) _
  unfold followInhibit followLimit endIfReached
  dsimp only
  (repeat' split) <;> simp

/-- What a child lock's sensed state is at a target. -/
def sensedAt : ChildTarget → ChildSensed
  | .engaged => .engaged
  | .disengaged => .disengaged

theorem childThere_iff (k : ChildLock) : childThere k = true ↔ k.sensed = sensedAt k.target := by
  cases h : k.sensed <;> cases g : k.target <;> simp [childThere, sensedAt, h, g]

/-- A resting child lock actuated toward a target (R31). -/
def childRecord (target : ChildTarget) (d : RearDoor) (s : State) : ChildLock :=
  let k : ChildLock := { child s d with target := target, retried := false, settleDeadline := none }
  if (channel s (rearClosure d)).link = .lost ∨ s.cfg.modes.get (rearClosure d) = .forcedOff then
    { k with phase := .fault, command := none }
  else if (child s d).sensed = sensedAt target then { k with phase := .idle, command := none }
  else { k with phase := .driving, command := some (childCommandFor target) }

theorem aimChild_rest {target : ChildTarget} {d : RearDoor} {s : State}
    (rest : (child s d).phase = .idle ∨ (child s d).phase = .fault) :
    aimChild target d s = setChild d (childRecord target d s) s := by
  have idle : childBusy (child s d) = false := by rcases rest with h | h <;> simp [childBusy, h]
  have down (t : State) (h : t.channels = s.channels) (g : t.cfg = s.cfg) :
      (nodeLost t (rearClosure d) || forcedOff t (rearClosure d)) = true ↔
        ((channel s (rearClosure d)).link = .lost ∨ s.cfg.modes.get (rearClosure d) = .forcedOff) := by
    rw [Bool.or_eq_true, nodeLost_iff, forcedOff_iff, channel, h, g]
    rfl
  have aims : aimChild target d s = actuateChild d (setChild d { child s d with target := target } s) := by
    simp [aimChild, idle]
  rw [aims]
  simp only [actuateChild, down (setChild d { child s d with target := target } s) rfl rfl, childThere_iff, childRecord]
  (repeat' split) <;> simp_all [setChild, child, childStand, childDrive]

/-- A change of one child lock's target reaches its own window alone, and a window at rest stays (R36, R37). -/
theorem followSettings_child {s t : State} {d : RearDoor} {k : ChildLock} (changed : t = setChild d k s)
    (rest : (window s (rearWindow d)).state = .idle ∨ (window s (rearWindow d)).state = .fault) :
    followSettings s t = t := by
  have windows (w : WindowId) : window t w = window s w := by rw [changed]; rfl
  have still (w : WindowId) (h : windowRear w = some d) : (window t w).state = .idle ∨ (window t w).state = .fault := by
    have own : w = rearWindow d := by cases w <;> cases d <;> simp_all [windowRear, rearWindow]
    rw [windows, own]
    exact rest
  have stays (w : WindowId) : followInhibit s w (followLimit s w t) = t := by
    by_cases own : windowRear w = some d
    · have at_ := still w own
      have limit : followLimit s w t = t :=
        followLimit_resting s (by rcases at_ with h | h <;> simp [h]) (by rcases at_ with h | h <;> simp [h])
      rw [limit]
      rcases at_ with h | h <;> simp [followInhibit, inMotion, h]
    · have kid : ∀ e, windowRear w = some e → child t e = child s e := fun e he => by
        rw [changed]
        exact child_setChild_other (fun same : e = d => own (same ▸ he)) k s
      have limit : currentLimit s w = currentLimit t w := by
        unfold currentLimit
        cases h : windowRear w with
        | none => rw [changed]; rfl
        | some e => simp only [kid e h]; rw [changed]; rfl
      have inhibit : inhibited t w = inhibited s w := by
        unfold inhibited
        cases h : windowRear w with
        | none => rfl
        | some e => simp only [kid e h]; rw [changed]; rfl
      have unmoved : followLimit s w t = t := if_pos limit
      rw [unmoved]
      simp [followInhibit, inhibit]
  simp [followSettings, allWindows, stays]

theorem childSetTarget_awake {d : RearDoor} {target : ChildTarget} {s : State} (run : s.stage = .run)
    (awake : s.ctx.state = .awake) : childSetTarget d target s = setChildTargets target [d] (activity s) := by
  have on : running s = true := by simp [running, run]
  simp only [childSetTarget, on, if_true, wake_activity .request awake]

theorem childSetTarget_asleep {d : RearDoor} {target : ChildTarget} {s : State} (run : s.stage = .run)
    (asleep : s.ctx.state = .parked ∨ s.ctx.state = .deep) :
    childSetTarget d target s = setChildTargets target [d] (roused s) := by
  have on : running s = true := by simp [running, run]
  simp only [childSetTarget, on, if_true, wake_roused run asleep]

/-- The target that a state code of CHILD_SET gives. -/
def targetOf (st : Nat) : ChildTarget := if st = 1 then .engaged else .disengaged

theorem childTargetOfCode_eq {st : Nat} (h : st ≤ 1) : childTargetOfCode st = some (targetOf st) := by
  interval_cases st <;> rfl

theorem sensedAt_target (st : Nat) : sensedAt (targetOf st) = if st = 1 then .engaged else .disengaged := by
  unfold targetOf
  split <;> rfl

theorem childCommand_target (st : Nat) : childCommandFor (targetOf st) = if st = 1 then .engage else .disengage := by
  unfold targetOf
  split <;> rfl

theorem serve_childSet {d : RearDoor} {code st : Nat} {s : State} (named : rearOfCode code = some d) (valid : st ≤ 1) :
    serveRequest (.childSet code st) s = reply .ok (childSetTarget d (targetOf st) s) := by
  simp only [serveRequest, named, childTargetOfCode_eq valid]

theorem serve_childSet_outside {code st : Nat} {s : State} (h : code ≠ 2 ∧ code ≠ 3 ∨ 1 < st) :
    serveRequest (.childSet code st) s = reply .range s := by
  have none : rearOfCode code = none ∨ childTargetOfCode st = none := by
    rcases h with ⟨two, three⟩ | above
    · exact .inl (by
        unfold rearOfCode
        split
        · exact absurd rfl two
        · exact absurd rfl three
        · rfl)
    · obtain ⟨n, rfl⟩ : ∃ n, st = n + 2 := ⟨st - 2, by omega⟩
      exact .inr rfl
  rcases none with h | h
  · simp [serveRequest, h]
  · simp [serveRequest, h]

/-- Settles O32. -/
theorem childSetActuatesOneDoor : Obligations.ChildSetActuatesOneDoor := by
  intro s dt d code st room
  have named (h : code.toNat = match d with | .rl => 2 | .rr => 3) : rearOfCode code.toNat = some d := by
    cases d <;> rw [h] <;> rfl
  refine ⟨fun asleep door valid rest away off present auto => ?_, fun alert outside => ?_,
    fun alert door valid window rest => ?_⟩
  · let v := roused (setMask none (elapse dt s))
    let x := setChildTargets (targetOf st.toNat) [d] v
    have cfg : v.cfg = s.cfg := roused_cfg _
    have link : channel v (rearClosure d) = { channel s (rearClosure d) with reported := false } := roused_channel _ _
    have kid : child v d = child s d := roused_child _ d
    have aims : lessMotion x = lessMotion (setChild d (childRecord (targetOf st.toNat) d v) v) := by
      rw [← aimChild_rest (by rw [kid]; exact rest)]
      exact followSettings_lessMotion v _
    have served : serve (.request (.childSet code.toNat st.toNat))
        (maskAfter (.request (.childSet code.toNat st.toNat)) (elapse dt s)) = ⟨x, .ok, []⟩ := by
      refine (serve_childSet (s := setMask none (elapse dt s)) (named door) valid).trans (congrArg (reply .ok) ?_)
      exact childSetTarget_asleep (s := setMask none (elapse dt s)) asleep.run asleep.asleep
    have cfg' : x.cfg = s.cfg := (same_of_motion aims State.cfg fun _ => rfl).trans cfg
    obtain ⟨u, next, rouses⟩ := exec_rouses (i := .childSet dt code st) rfl asleep (by simp) served
      ((same_of_motion aims State.stage fun _ => rfl).trans ((roused_stage _).trans asleep.run))
      ((same_of_motion aims (fun u => u.ctx.state) fun _ => rfl).trans (roused_state _)) cfg'
    have record : child x d = childRecord (targetOf st.toNat) d v := by
      rw [same_of_motion aims (fun u => child u d) fun _ => rfl]
      simp
    have drives : childRecord (targetOf st.toNat) d v =
        { child s d with
          target := targetOf st.toNat, retried := false, settleDeadline := none, phase := .driving
          command := some (childCommandFor (targetOf st.toNat)) } := by
      have sends : ¬((channel v (rearClosure d)).link = .lost ∨ v.cfg.modes.get (rearClosure d) = .forcedOff) := by
        rw [link, cfg, auto]
        simp [present]
      have aside : (child v d).sensed ≠ sensedAt (targetOf st.toNat) := by
        rw [kid, sensedAt_target]
        exact away
      rw [childRecord, if_neg sends, if_neg aside, kid]
    have rate : (channel x (rearClosure d)).rate = .off := by
      rw [same_of_motion aims (fun u => channel u (rearClosure d)) fun _ => rfl]
      exact (congrArg Channel.rate link).trans off
    obtain ⟨⟨drive, bytes, _, carries, _⟩, _, sent, _⟩ := rouses.first (rearClosure d) (by simp [cfg', auto]) rate
    refine ⟨u, driveBytes drive, next, rouses.state, ?_, ?_, bytes, ?_⟩
    · rw [rouses.childPhase, record, drives]
    · rw [sent d rfl]
    · rw [childBits, carries d rfl, record, drives, childCommand_target]
      split <;> rfl
  · exact answersActive_replied (r := .request (.childSet code.toNat st.toNat)) rfl alert (by simp)
      (serve_childSet_outside outside) alert room
  · intro target k there
    have served : serveRequest (.childSet code.toNat st.toNat) (setMask none (elapse dt s)) =
        reply .ok (setChildTargets (targetOf st.toNat) [d] (activity (setMask none (elapse dt s)))) :=
      (serve_childSet (named door) valid).trans (congrArg (reply .ok)
        (childSetTarget_awake (s := setMask none (elapse dt s)) alert.run alert.awake))
    refine answers_afterActivity (kind := .childSet code.toNat st.toNat) rfl alert served (fun last idle => ?_)
      (alert.of_same rfl rfl rfl rfl rfl rfl) room
    let v : State := withActivity last idle (setMask none (elapse dt s))
    have aims : aimChild (targetOf st.toNat) d v = setChild d (childRecord (targetOf st.toNat) d v) v := aimChild_rest rest
    refine (followSettings_child aims window).trans (aims.trans ?_)
    have record : childRecord (targetOf st.toNat) d v =
        if (channel s (rearClosure d)).link = .lost ∨ s.cfg.modes.get (rearClosure d) = .forcedOff then
          { k with phase := .fault, command := none }
        else if there then { k with phase := .idle, command := none }
        else { k with phase := .driving, command := some (if st.toNat = 1 then .engage else .disengage) } := by
      rw [← childCommand_target]
      simp only [there, ← sensedAt_target]
      rfl
    rw [record]
    rfl

end Sys2Proof.Machine
end

section
/-!
PROOFS. CLEAR_NORMALIZED and WINDOW_MOVE (R45 to R49, R57, R59): the window codes, a request of a free window from its
checks to its place in the queue, and what the drives of a step leave of the windows.
-/

namespace Sys2Proof.Machine

/-! ## Window codes and folds over the windows -/

@[simp] theorem setWindow_setWindow (w : WindowId) (x y : Window) (s : State) :
    setWindow w x (setWindow w y s) = setWindow w x s := by simp [setWindow]

@[simp] theorem currentLimit_setWindow (w v : WindowId) (x : Window) (s : State) :
    currentLimit (setWindow w x s) v = currentLimit s v := rfl

@[simp] theorem windowCfg_setWindow (w v : WindowId) (x : Window) (s : State) :
    windowCfg (setWindow w x s) v = windowCfg s v := rfl

theorem windowOfCode_code (w : WindowId) : windowOfCode (windowCode w) = some w := by cases w <;> rfl

theorem windowOfCode_outside {n : Nat} (h : 4 ≤ n) : windowOfCode n = none := by
  obtain ⟨k, rfl⟩ : ∃ k, n = k + 4 := ⟨n - 4, by omega⟩
  rfl

/-- Turns that each replace the record of one window, judged by that record as it was. -/
theorem allWindows_fold {turn : State → WindowId → State} {new : WindowId → Window} {s : State}
    (each : ∀ L w, L.get w = s.windows.get w →
      turn { s with windows := L } w = { s with windows := L.set w (new w) }) :
    allWindows.foldl turn s = { s with windows := s.windows.mapWith fun w _ => new w } := by
  have first : turn s .fl = { s with windows := s.windows.set .fl (new .fl) } := each s.windows .fl rfl
  simp only [allWindows, List.foldl_cons, List.foldl_nil, first]
  rw [each _ .fr (Four.get_set_other (by decide) ..), each _ .rl, each _ .rr]
  · have same : (((s.windows.set .fl (new .fl)).set .fr (new .fr)).set .rl (new .rl)).set .rr (new .rr) =
        s.windows.mapWith fun w _ => new w := Four.ext_get fun w => by cases w <;> rfl
    rw [same]
  · rw [Four.get_set_other (by decide), Four.get_set_other (by decide), Four.get_set_other (by decide)]
  · rw [Four.get_set_other (by decide), Four.get_set_other (by decide)]

/-! ## CLEAR_NORMALIZED (R57) -/

/-- A window once a clear has reached it: noted in REVERSING, and made at once on a window at rest. -/
def clearedWindow (s : State) (w : WindowId) (x : Window) : Window :=
  if x.state = .reversing then { x with clearPending := true }
  else { x with position := (windowCfg s w).travel, normalized := false, clearPending := false }

theorem clearNormalized_eq {s : State} {w : WindowId}
    (rest : (window s w).state = .idle ∨ (window s w).state = .fault ∨ (window s w).state = .reversing) :
    clearNormalized w s = setWindow w (clearedWindow s w (window s w)) s := by
  by_cases reverses : (window s w).state = .reversing
  · have noted : clearNormalized w s = setWindow w { window s w with clearPending := true } s :=
      if_pos (beq_iff_eq.mpr reverses)
    rw [noted, clearedWindow, if_pos reverses]
  · have still : (window s w).state = .idle ∨ (window s w).state = .fault := by
      rcases rest with h | h | h
      · exact .inl h
      · exact .inr h
      · exact absurd h reverses
    have made : clearNormalized w s = setWindow w (unnormalize (windowCfg s w).travel (window s w)) s := by
      have other : ((window s w).state == .reversing) = false := beq_false_of_ne reverses
      simp only [clearNormalized, other, Bool.false_eq_true, if_false, endMotion_still _ still]
    rw [made, clearedWindow, if_neg reverses]
    rfl

/-- Settles O33. -/
theorem clearNormalizedForgetsThePosition : Obligations.ClearNormalizedForgetsThePosition := by
  intro s dt code alert room cleared
  refine ⟨fun outside other => ?_, fun w named rest => ?_, fun all rest => ?_⟩
  · have served : serveRequest (.clearNormalized code.toNat) (setMask none (elapse dt s)) =
        reply .range (setMask none (elapse dt s)) := by
      simp only [serveRequest, serveClearNormalized, other, if_false, windowOfCode_outside outside]
    exact answersActive_replied (r := .request (.clearNormalized code.toNat)) rfl alert (by simp) served alert room
  · have other : code.toNat ≠ 255 := by
      have := windowCode_lt w
      omega
    have served : serveRequest (.clearNormalized code.toNat) (setMask none (elapse dt s)) =
        reply .ok (clearNormalized w (setMask none (elapse dt s))) := by
      rw [serveRequest, serveClearNormalized, if_neg other, named, windowOfCode_code]
    have effect := clearNormalized_eq (s := setMask none (elapse dt s)) rest
    rw [effect] at served
    exact answersActive_replied (r := .request (.clearNormalized code.toNat))
      (t := { s with windows := s.windows.set w (cleared w (window s w)) }) rfl alert (by simp) served
      (alert.of_same rfl rfl rfl rfl rfl rfl) room
  · let v : State := setMask none (elapse dt s)
    have served : serveRequest (.clearNormalized code.toNat) v =
        reply .ok (allWindows.foldl (fun t w => clearNormalized w t) v) := by
      simp only [serveRequest, serveClearNormalized, all, if_true]
    have effect := allWindows_fold (turn := fun t w => clearNormalized w t) (s := v)
      (new := fun w => cleared w (window s w)) fun L w same => by
        have record : window { v with windows := L } w = window s w := same
        have turn := clearNormalized_eq (s := { v with windows := L }) (w := w) (by rw [record]; exact rest w)
        rw [record] at turn
        exact turn
    rw [effect] at served
    have windows : (s.windows.mapWith fun w _ => cleared w (window s w)) = s.windows.mapWith cleared :=
      Four.ext_get fun w => by simp [window]
    rw [← windows]
    exact answersActive_replied (r := .request (.clearNormalized code.toNat))
      (t := { s with windows := s.windows.mapWith fun w _ => cleared w (window s w) }) rfl alert (by simp) served
      (alert.of_same rfl rfl rfl rfl rfl rfl) room

/-! ## A request of a free window (R45, R47 to R49) -/

theorem heatRest_cold {x : Window} (now : Nat) (cold : x.hot = false) : (heatRest now x).hot = false := by
  unfold heatRest heatDecay
  split <;> simp [cold]

/-- What the decay of the heat leaves alone. -/
theorem heatRest_same {α : Type} (f : Window → α) (hf : ∀ (y : Window) heat stamp hot,
    f { y with heat := heat, heatStamp := stamp, hot := hot } = f y) (now : Nat) (x : Window) :
    f (heatRest now x) = f x := by
  unfold heatRest heatDecay
  split
  · rfl
  · exact hf ..

/-- The direction and the effective target of a request on a window of `s`. -/
def requestedOf (r : WindowRequest) (s : State) : Nat := min r.target (windowCfg s r.window).travel

theorem nothingLeft_iff (dir : Direction) (effective position : Nat) :
    nothingLeft dir effective position = true ↔ ¬LeftToMove dir effective position := by
  cases dir <;> simp [nothingLeft, LeftToMove, not_or]

/-- A window whose request was accepted: the heat decayed, the target written, no refusal. -/
def accepted (r : WindowRequest) (s : State) : Window :=
  { heatRest s.now (window s r.window) with requested := requestedOf r s, lastRefusal := none }

/-- The state with the request waiting for its grant. -/
def waitsFor (r : WindowRequest) (dir : Direction) (s : State) : State :=
  { s with
    windows := s.windows.set r.window
      { accepted r s with
        state := .waiting, direction := dir, origin := some r.origin, held := r.held, normHold := none }
    motion := enqueueMotion r.window (switchOrigin (some r.origin)) s.motion }

/-- The state with the request completed at once. -/
def completes (r : WindowRequest) (s : State) : State :=
  handOutcome (some r.origin) r.window .reached
    (setWindow r.window { accepted r s with lastOutcome := some .reached } s)

section
variable {r : WindowRequest} {s : State}

/-- No check refuses a request of a free window (R48). -/
theorem checkRequest_free (free : WindowFree r.window s) :
    checkRequest r s = acceptRequest r (setWindow r.window (heatRest s.now (window s r.window)) s) := by
  have early : earlyRefusal r s = none := by
    have mode : forcedOff s (windowClosure r.window) = false := by simp [forcedOff, free.notForced]
    simp [earlyRefusal, free.idle, mode, free.noOrigin, switchOrigin, free.normalized]
  have thermal (held : Bool) :
      thermalRefusal r.window held (setWindow r.window (heatRest s.now (window s r.window)) s) = none := by
    have cool : (heatRest s.now (window s r.window)).overtemp = false :=
      (heatRest_same (·.overtemp) (fun _ _ _ _ => rfl) ..).trans free.cool
    have supply : ¬ s.ctx.voltage < 90 := Nat.not_lt.mpr free.supply
    simp [thermalRefusal, heatRest_cold _ free.cold, cool, Config.lowSupply, supply]
  unfold checkRequest
  rw [early]
  simp only [thermal]

variable (free : WindowFree r.window s)
include free

theorem acceptRequest_free :
    checkRequest r s =
      if nothingLeft (requestDirection (requestedOf r s) (window s r.window).position)
        (min (requestedOf r s) (currentLimit s r.window)) (window s r.window).position
      then completeAtOnce r (setWindow r.window (accepted r s) s)
      else placeRequest r (requestDirection (requestedOf r s) (window s r.window).position)
        (setWindow r.window (accepted r s) s) := by
  have position : (heatRest s.now (window s r.window)).position = (window s r.window).position :=
    heatRest_same (·.position) (fun _ _ _ _ => rfl) ..
  rw [checkRequest_free free]
  simp only [acceptRequest, effectiveTarget, window_setWindow, setWindow_setWindow, currentLimit_setWindow,
    windowCfg_setWindow, position, accepted, requestedOf]

/-- A request that leaves something to move waits for its grant. -/
theorem checkRequest_waits {dir : Direction}
    (way : requestDirection (requestedOf r s) (window s r.window).position = dir)
    (moves : LeftToMove dir (min (requestedOf r s) (currentLimit s r.window)) (window s r.window).position) :
    checkRequest r s = waitsFor r dir s := by
  have idle : (accepted r s).state = .idle :=
    (heatRest_same (·.state) (fun _ _ _ _ => rfl) ..).trans free.idle
  have left : ¬nothingLeft dir (min (requestedOf r s) (currentLimit s r.window)) (window s r.window).position = true :=
    fun none => (nothingLeft_iff ..).mp none moves
  rw [acceptRequest_free free, way, if_neg left]
  simp only [placeRequest, window_setWindow, setWindow_setWindow, inMotion, idle]
  rfl

/-- A request that leaves nothing to move completes at once. -/
theorem checkRequest_completes {dir : Direction}
    (way : requestDirection (requestedOf r s) (window s r.window).position = dir)
    (stands : ¬LeftToMove dir (min (requestedOf r s) (currentLimit s r.window)) (window s r.window).position) :
    checkRequest r s = completes r s := by
  have idle : (window (setWindow r.window (accepted r s) s) r.window).state = .idle := by
    rw [window_setWindow]
    exact (heatRest_same (·.state) (fun _ _ _ _ => rfl) ..).trans free.idle
  rw [acceptRequest_free free, way, if_pos ((nothingLeft_iff ..).mpr stands)]
  simp only [completeAtOnce, endMotion_still _ (.inl idle), window_setWindow, setWindow_setWindow, completes]

end

/-! ## Refusals (R48) -/

theorem refuseWindow_plain {w : WindowId} {origin : Option Origin} {cause : WindowRefusal} {s : State}
    (other : operationOrigin origin = false) :
    refuseWindow w origin cause s = setWindow w { window s w with lastRefusal := some cause } s := by
  simp [refuseWindow, other]

section
variable {r : WindowRequest} {s : State} (other : operationOrigin (some r.origin) = false)
include other

theorem checkRequest_fault (fault : (window s r.window).state = .fault) :
    checkRequest r s = setWindow r.window { window s r.window with lastRefusal := some .fault } s := by
  have early : earlyRefusal r s = some .fault := by simp [earlyRefusal, fault]
  rw [checkRequest, early]
  exact refuseWindow_plain other

theorem checkRequest_reversing (reverses : (window s r.window).state = .reversing)
    (mode : s.cfg.modes.get (windowClosure r.window) ≠ .forcedOff) :
    checkRequest r s = setWindow r.window { window s r.window with lastRefusal := some .busy } s := by
  have early : earlyRefusal r s = some .busy := by simp [earlyRefusal, reverses, forcedOff, mode]
  rw [checkRequest, early]
  exact refuseWindow_plain other

end

theorem requestMotion_awake {r : WindowRequest} {s : State} (run : s.stage = .run) (awake : s.ctx.state = .awake) :
    requestMotion r s = checkRequest r (activity s) := by
  have on : running s = true := by simp [running, run]
  simp only [requestMotion, on, if_true, wake_activity .request awake]

theorem requestMotion_asleep {r : WindowRequest} {s : State} (run : s.stage = .run)
    (asleep : s.ctx.state = .parked ∨ s.ctx.state = .deep) : requestMotion r s = checkRequest r (roused s) := by
  have on : running s = true := by simp [running, run]
  simp only [requestMotion, on, if_true, wake_roused run asleep]

/-! ## What the drives of a step leave of the windows (R43, R58) -/

/-- A window record less what a drive writes into it. -/
def lessDriven (x : Window) : Window :=
  { x with
    lastDrive := .stop, stopDue := false, coast := none, runCounter := 0, debounce := 0, zeroCount := 0, maxima := []
    startPosition := 0, runStart := none }

/-- `t` has the windows and the queue of `s`, but for what drives wrote. -/
structure WindowsDriven (s t : State) : Prop where
  windows : ∀ w, lessDriven (window t w) = lessDriven (window s w)
  switchQueue : t.motion.switchQueue = s.motion.switchQueue
  otherQueue : t.motion.otherQueue = s.motion.otherQueue

namespace WindowsDriven

theorem refl (s : State) : WindowsDriven s s := ⟨fun _ => rfl, rfl, rfl⟩

theorem trans {s t u : State} (h : WindowsDriven s t) (g : WindowsDriven t u) : WindowsDriven s u :=
  ⟨fun w => (g.windows w).trans (h.windows w), g.switchQueue.trans h.switchQueue, g.otherQueue.trans h.otherQueue⟩

/-- Any field of a window that no drive writes. -/
theorem same {s t : State} (h : WindowsDriven s t) {α : Type} (f : Window → α) (hf : ∀ x, f (lessDriven x) = f x)
    (w : WindowId) : f (window t w) = f (window s w) := by
  rw [← hf (window t w), h.windows w, hf]

end WindowsDriven

theorem drivenRecord_driven (now : Nat) (motor : MotorCommand) (x : Window) :
    lessDriven (drivenRecord now motor x) = lessDriven x := by
  unfold drivenRecord motorStart
  dsimp only
  split <;> rfl

theorem sentMotor_driven (c : Closure) (motor : MotorCommand) (s : State) : WindowsDriven s (sentMotor c motor s) := by
  unfold sentMotor
  split
  · exact .refl s
  · next w _ =>
    refine ⟨fun v => ?_, rfl, rfl⟩
    by_cases here : v = w
    · subst here
      have record : window (setWindow v (drivenRecord s.now motor (window s v)) s) v = drivenRecord s.now motor (window s v) :=
        window_setWindow ..
      exact (congrArg lessDriven record).trans (drivenRecord_driven ..)
    · exact congrArg lessDriven (window_setWindow_other here _ s)

theorem sendDrive_driven (c : Closure) (s : State) : WindowsDriven s (sendDrive c s) := by
  have owners (d : NodeDrive) : WindowsDriven s (sentPayload c (sentRelease d.release (sentChild c (sentLock c s)))) := by
    unfold sentChild
    split <;> exact ⟨fun _ => rfl, rfl, rfl⟩
  have noted (d : NodeDrive) : WindowsDriven s (noteSent c d s) := by
    unfold noteSent
    split
    · exact (owners d).trans (sentMotor_driven c _ _)
    · exact sentMotor_driven c _ s
  exact (noted _).trans ⟨fun _ => rfl, rfl, rfl⟩

theorem setRate_driven (c : Closure) (r : Rate) (s : State) : WindowsDriven s (setRate c r s) := by
  have set (ch : Channel) : WindowsDriven s (setChannel c ch s) := ⟨fun _ => rfl, rfl, rfl⟩
  unfold setRate
  dsimp only
  split
  · exact .refl s
  · split
    · exact set _
    · split
      · exact (set _).trans (sendDrive_driven c _)
      · exact set _

theorem chooseRates_driven (s : State) : WindowsDriven s (chooseRates s) := by
  rw [chooseRates_fold]
  generalize allClosures = l
  induction l generalizing s with
  | nil => exact .refl s
  | cons c l ih => exact (setRate_driven c _ s).trans (ih _)

/-- What the step that wakes the part leaves of a request's effect on the windows and the engine. -/
theorem exec_rouses_windows {i : Instr} {dt : Nat} {r : ManagementRequest} {s x : State} {result : Result}
    {tail : List Byte} (meaning : exec i s = perform dt (manage r) s) (asleep : Asleep s) (h : r ≠ .restart)
    (served : serve r (maskAfter r (elapse dt s)) = ⟨x, result, tail⟩) (stage : x.stage = .run)
    (awake : x.ctx.state = .awake) (cfg : x.cfg = s.cfg) :
    ∃ u, exec i s = .next u ∧ Rouses x u ∧ WindowsDriven x u := by
  refine ⟨_, exec_roused meaning asleep.run h served stage awake (by rw [cfg]; exact asleep.parkDelay),
    chooseRates_rouses ?_ stage awake, WindowsDriven.trans ?_ (chooseRates_driven _)⟩
  · rw [activity_lessMotion]
    exact lessMotion_of_traffic (offer_rest _ _)
  have same (v : State) : WindowsDriven v (activity v) := by
    obtain ⟨last, idle, active⟩ := activity_eq v
    rw [active]
    exact ⟨fun _ => rfl, rfl, rfl⟩
  refine WindowsDriven.trans ⟨fun w => ?_, ?_, ?_⟩ (same _)
  · exact congrArg lessDriven (responded_same (fun u => window u w) (fun _ => rfl) r ⟨x, result, tail⟩)
  · exact responded_same (fun u => u.motion.switchQueue) (fun _ => rfl) r ⟨x, result, tail⟩
  · exact responded_same (fun u => u.motion.otherQueue) (fun _ => rfl) r ⟨x, result, tail⟩

/-! ## WINDOW_MOVE -/

theorem WindowFree.of_same {w : WindowId} {s t : State} (h : WindowFree w s) (windows : window t w = window s w)
    (modes : t.cfg.modes = s.cfg.modes) (voltage : t.ctx.voltage = s.ctx.voltage) : WindowFree w t := by
  refine ⟨?_, ?_, ?_, ?_, ?_, modes ▸ h.notForced, voltage ▸ h.supply⟩
  all_goals rw [windows]
  exacts [h.idle, h.noOrigin, h.normalized, h.cold, h.cool]

/-- A free window stays free as its heat decays. -/
theorem WindowFree.of_heatRest {w : WindowId} {s t : State} {now : Nat} (h : WindowFree w s)
    (windows : window t w = heatRest now (window s w)) (modes : t.cfg.modes = s.cfg.modes)
    (voltage : t.ctx.voltage = s.ctx.voltage) : WindowFree w t := by
  refine ⟨?_, ?_, ?_, ?_, ?_, modes ▸ h.notForced, voltage ▸ h.supply⟩
  all_goals rw [windows]
  · exact (heatRest_same (·.state) (fun _ _ _ _ => rfl) ..).trans h.idle
  · exact (heatRest_same (·.origin) (fun _ _ _ _ => rfl) ..).trans h.noOrigin
  · exact (heatRest_same (·.normalized) (fun _ _ _ _ => rfl) ..).trans h.normalized
  · exact heatRest_cold _ h.cold
  · exact (heatRest_same (·.overtemp) (fun _ _ _ _ => rfl) ..).trans h.cool

theorem roused_window (s : State) (w : WindowId) : window (roused s) w = heatRest s.now (window s w) := by
  rw [roused_same (fun u => window u w) fun _ => rfl]
  simp [woken, window]

theorem requestDirection_up {target position : Nat} (h : target = 0 ∨ target < position) :
    requestDirection target position = .up := if_pos h

theorem requestDirection_down {target position : Nat} (some_ : target ≠ 0) (h : position ≤ target) :
    requestDirection target position = .down := if_neg (by omega)

/-- Settles O34. -/
theorem windowMoveWaitsForItsGrant : Obligations.WindowMoveWaitsForItsGrant := by
  intro s dt code count room
  have valid {w : WindowId} {v : State} (named : code.toNat = windowCode w) (small : count.toNat ≤ 8000) :
      serveRequest (.windowMove code.toNat count.toNat) v =
        reply .ok (requestMotion ⟨w, count.toNat, .management, false⟩ v) := by
    rw [serveRequest, named, windowOfCode_code]
    exact if_pos small
  refine ⟨fun w asleep named small free short => ?_, fun alert outside => ?_, fun w alert named small => ?_⟩
  · let v := roused (setMask none (elapse dt s))
    let r : WindowRequest := ⟨w, count.toNat, .management, false⟩
    have record : window v w = heatRest (s.now + dt) (window s w) := roused_window _ w
    have cfg : v.cfg = s.cfg := roused_cfg _
    have settings : windowCfg v w = windowCfg s w := by simp [windowCfg, cfg]
    have limit : currentLimit v w = currentLimit s w := roused_same (fun u => currentLimit u w) (fun _ => rfl) _
    have able : WindowFree w v := free.of_heatRest record (congrArg (·.modes) cfg)
      (roused_same (fun u => u.ctx.voltage) (fun _ => rfl) _)
    have position : (window v w).position = (window s w).position := by
      rw [record]
      exact heatRest_same (·.position) (fun _ _ _ _ => rfl) ..
    have requested : requestedOf r v = min count.toNat (windowCfg s w).travel := by rw [requestedOf, settings]
    have waits : checkRequest r v = waitsFor r .down v := by
      refine checkRequest_waits able ?_ (.inl ⟨rfl, ?_⟩)
      · rw [requested, position]
        exact requestDirection_down (by omega) (by omega)
      · rw [requested, position, limit]
        omega
    have served : serve (.request (.windowMove code.toNat count.toNat))
        (maskAfter (.request (.windowMove code.toNat count.toNat)) (elapse dt s)) = ⟨waitsFor r .down v, .ok, []⟩ := by
      rw [← waits]
      exact (valid named small).trans (congrArg (reply .ok)
        (requestMotion_asleep (s := setMask none (elapse dt s)) asleep.run asleep.asleep))
    obtain ⟨u, next, rouses, driven⟩ := exec_rouses_windows (i := .windowMove dt code count) rfl asleep (by simp) served
      ((roused_stage _).trans asleep.run) (roused_state _) cfg
    have entry : window (waitsFor r .down v) w =
        { accepted r v with state := .waiting, direction := .down, origin := some .management, held := false, normHold := none } := by
      simp [waitsFor, window, r]
    refine ⟨u, next, rouses.state, rouses.lastWake.trans (roused_lastWake _), ?_, ?_, ?_, rouses.group.trans (roused_group _)⟩
    · rw [driven.same (·.state) (fun _ => rfl), entry]
    · rw [driven.same (·.requested) (fun _ => rfl), entry]
      exact requested
    · rw [driven.otherQueue]
      exact congrArg (fun m : Motion => m.otherQueue ++ [w]) (roused_same State.motion (fun _ => rfl) _)
  · have served : serveRequest (.windowMove code.toNat count.toNat) (setMask none (elapse dt s)) =
        reply .range (setMask none (elapse dt s)) := by
      rcases Nat.lt_or_ge code.toNat 4 with below | above
      · have large : ¬count.toNat ≤ 8000 := by omega
        cases h : windowOfCode code.toNat <;> simp [serveRequest, h, large]
      · rw [serveRequest, windowOfCode_outside above]
    exact answersActive_replied (r := .request (.windowMove code.toNat count.toNat)) rfl alert (by simp) served alert room
  · intro x refused requested target
    let r : WindowRequest := ⟨w, count.toNat, .management, false⟩
    have answers {t : State} (effect : ∀ last idle, checkRequest r (withActivity last idle (setMask none (elapse dt s))) =
        withActivity last idle (setMask none (elapse dt t))) (calm : Alert t) (tx : t.tx.length < Config.txPlaces) :
        AnswersActive (.windowMove dt code count) s (replied dt 0x07 .ok [] t) := by
      refine answers_afterActivity (kind := .windowMove code.toNat count.toNat) (effect := checkRequest r) rfl alert ?_
        effect calm tx
      rw [valid named small]
      exact congrArg (reply .ok) (requestMotion_awake (s := setMask none (elapse dt s)) alert.run alert.awake)
    refine ⟨fun fault => ?_, fun reverses mode => ?_, fun free => ⟨fun short => ?_, fun closing => ?_, fun some_ at_ below => ?_⟩⟩
    · exact answers (fun last idle => checkRequest_fault rfl fault) (alert.of_same rfl rfl rfl rfl rfl rfl) room
    · exact answers (fun last idle => checkRequest_reversing rfl reverses mode) (alert.of_same rfl rfl rfl rfl rfl rfl) room
    · refine answers (fun last idle => ?_) (alert.of_same rfl rfl rfl rfl rfl rfl) room
      have some_ : requested ≠ 0 := by omega
      have above : x.position ≤ requested := by omega
      exact checkRequest_waits (r := r) (s := withActivity last idle (setMask none (elapse dt s)))
        (free.of_same rfl rfl rfl) (requestDirection_down some_ above) (.inl ⟨rfl, short⟩)
    · refine answers (fun last idle => ?_) (alert.of_same rfl rfl rfl rfl rfl rfl) room
      have left : min requested (currentLimit s w) = 0 ∨ min requested (currentLimit s w) < x.position := by omega
      exact checkRequest_waits (r := r) (s := withActivity last idle (setMask none (elapse dt s)))
        (free.of_same rfl rfl rfl) (requestDirection_up closing) (.inr ⟨rfl, left⟩)
    · refine answers (fun last idle => ?_) (alert.of_same rfl rfl rfl rfl rfl rfl) room
      have stands : ¬LeftToMove .down target x.position := by
        rintro (⟨_, short⟩ | ⟨other, _⟩)
        · omega
        · cases other
      exact checkRequest_completes (r := r) (s := withActivity last idle (setMask none (elapse dt s)))
        (free.of_same rfl rfl rfl) (requestDirection_down some_ below) stands

end Sys2Proof.Machine
end

section
/-!
PROOFS. WINDOW_STOP, OPERATION_CANCEL and the steps of an operation (R50, R129, R132 to R134, R138): a status handed to
the engine, the end of an operation, and an abort.
-/

namespace Sys2Proof.Machine

/-! ## Steps (R129, R132) -/

theorem stepEnded_open (x : OpStep) : (!stepEnded x.status) = openStep x := by
  cases h : x.status <;> simp [openStep, stepEnded, h]

/-- A mark leaves the steps of other windows. -/
theorem stepsMarked_absent {w : WindowId} {steps : List OpStep} (status : StepStatus)
    (absent : w ∉ steps.map (·.window)) : stepsMarked w status steps = steps := by
  refine (List.map_congr_left fun y hy => ?_).trans (List.map_id steps)
  have other : y.window ≠ w := fun same => absent (List.mem_map.mpr ⟨y, hy, same⟩)
  simp [other]

section
variable {w : WindowId} {steps : List OpStep} (status : StepStatus) (distinct : (steps.map (·.window)).Nodup)
  (out : ∃ x ∈ steps, x.window = w ∧ openStep x = true)
include distinct out

/-- A mark reaches the window's open step and no other, each window having one step. -/
theorem markStep_marked : markStep w status steps = some (stepsMarked w status steps) := by
  induction steps with
  | nil => simp at out
  | cons x rest ih =>
    obtain ⟨fresh, distinct⟩ := List.nodup_cons.mp (by simpa using distinct : (x.window :: rest.map (·.window)).Nodup)
    rw [markStep, stepEnded_open]
    by_cases here : x.window = w ∧ openStep x = true
    · obtain ⟨rfl, isOpen⟩ := here
      have others := stepsMarked_absent status fresh
      simp only [stepsMarked] at others
      simp [stepsMarked, isOpen, others]
    · have later : ∃ y ∈ rest, y.window = w ∧ openStep y = true := by
        obtain ⟨y, hy, own, isOpen⟩ := out
        rcases List.mem_cons.mp hy with rfl | hy
        · exact absurd ⟨own, isOpen⟩ here
        · exact ⟨y, hy, own, isOpen⟩
      have skipped : ¬(x.window == w && openStep x) = true := by simpa using here
      rw [if_neg skipped, ih distinct later]
      simp [stepsMarked, here]

/-- One open step fewer once a step has ended. -/
theorem countP_stepsMarked (ended : stepEnded status = true) :
    (stepsMarked w status steps).countP openStep + 1 = steps.countP openStep := by
  induction steps with
  | nil => simp at out
  | cons x rest ih =>
    obtain ⟨fresh, distinct⟩ := List.nodup_cons.mp (by simpa using distinct : (x.window :: rest.map (·.window)).Nodup)
    by_cases own : x.window = w
    · subst own
      have isOpen : openStep x = true := by
        obtain ⟨y, hy, same, isOpen⟩ := out
        rcases List.mem_cons.mp hy with rfl | hy
        · exact isOpen
        · exact absurd (List.mem_map.mpr ⟨y, hy, same⟩) fresh
      have others := stepsMarked_absent status fresh
      have closed : openStep { x with status := status } = false := by simp [← stepEnded_open, ended]
      simp only [stepsMarked] at others
      simp [stepsMarked, isOpen, others, closed]
    · have later : ∃ y ∈ rest, y.window = w ∧ openStep y = true := by
        obtain ⟨y, hy, same, isOpen⟩ := out
        rcases List.mem_cons.mp hy with rfl | hy
        · exact absurd same own
        · exact ⟨y, hy, same, isOpen⟩
      have rest' := ih distinct later
      simp only [stepsMarked, List.map_cons, List.countP_cons, own, false_and, if_false] at rest' ⊢
      omega

end

/-! ## The end of an operation's step (R132, R133) -/

/-- A notice on B+2 with room in the queue. -/
theorem offerNotice_room {data : List Byte} {s : State} (run : s.stage = .run) (room : s.tx.length < Config.txPlaces) :
    offerNotice data s = { s with tx := s.tx ++ [⟨.other, s.mgmt.base + 2#11, data, false⟩] } := by
  rw [offerNotice]
  exact offer_other rfl run room

theorem endOperation_room {op : ActiveOp} {s : State} (run : s.stage = .run) (room : s.tx.length < Config.txPlaces) :
    endOperation op s =
      { s with
        op := { s.op with active := none, lastOp := some (endedOp op op.abortCause op.steps) }
        tx := s.tx ++ [operationNotice s (endedOp op op.abortCause op.steps)] } := by
  rw [endOperation]
  exact offerNotice_room (s := { s with op := { s.op with active := none, lastOp := some (endedOp op op.abortCause op.steps) } })
    run room

theorem crashTest_free {s : State} (free : s.group.crashHold = none) : crashTest s = s := by simp [crashTest, free]

/-- A status other than PINCHED handed to an operation with an open step for the window. -/
theorem handStatus_open {w : WindowId} {status : StepStatus} {op : ActiveOp} {s : State} (run : s.stage = .run)
    (room : s.tx.length < Config.txPlaces) (noHold : s.group.crashHold = none) (active : s.op.active = some op)
    (distinct : (op.steps.map (·.window)).Nodup) (counted : op.remaining = op.steps.countP openStep)
    (noCause : op.abortCause = none) (out : ∃ x ∈ op.steps, x.window = w ∧ openStep x = true)
    (ended : stepEnded status = true) (plain : status ≠ .pinched) :
    handStatus w status s = stepEndedAs w status op s := by
  have marked := markStep_marked status distinct out
  have left := countP_stepsMarked status distinct out ended
  have kept : handStatus w status s =
      keepOrEnd { op with steps := stepsMarked w status op.steps, remaining := op.remaining - 1 } s := by
    unfold handStatus
    simp only [crashTest_free noHold, active, marked]
    rw [if_neg (by simpa using plain)]
  rw [kept, keepOrEnd, stepEndedAs]
  by_cases more : (stepsMarked w status op.steps).any openStep = true
  · have some_ : 0 < (stepsMarked w status op.steps).countP openStep := List.countP_pos_iff.mpr (List.any_eq_true.mp more)
    rw [if_neg (by dsimp only; omega)]
    simp only [more, if_true]
  · have none_ : (stepsMarked w status op.steps).countP openStep = 0 :=
      List.countP_eq_zero.mpr fun x hx isOpen => more (List.any_eq_true.mpr ⟨x, hx, isOpen⟩)
    rw [if_pos (by dsimp only; omega), endOperation_room run room]
    simp only [more, noCause, Bool.false_eq_true, if_false]
    rfl

/-- The end of a motion writes the window and the motion record alone. -/
theorem endMotionRecord_rest (w : WindowId) (outcome : MotionOutcome) (s : State) :
    ({ endMotionRecord w outcome s with windows := s.windows, motion := s.motion } : State) = s := by
  unfold endMotionRecord
  (repeat' split) <;> rfl

/-- Any field but those. -/
theorem endMotionRecord_same {α : Type} (f : State → α)
    (hf : ∀ (u : State) windows motion, f { u with windows := windows, motion := motion } = f u) (w : WindowId)
    (outcome : MotionOutcome) (s : State) : f (endMotionRecord w outcome s) = f s := by
  rw [← hf (endMotionRecord w outcome s) s.windows s.motion, endMotionRecord_rest]

/-- The outcome of a motion that an operation's step waits for ends the step with the status of R132. -/
theorem endMotion_step {w : WindowId} {op : ActiveOp} {outcome : MotionOutcome} {status : StepStatus} {s : State}
    (run : s.stage = .run) (room : s.tx.length < Config.txPlaces) (step : StepOut w op s)
    (becomes : outcomeStatus outcome = some status) (plain : status ≠ .pinched) :
    endMotion w outcome s = stepEndedAs w status op (endMotionRecord w outcome s) := by
  have ended : stepEnded status = true := by cases outcome <;> simp_all [outcomeStatus] <;> subst becomes <;> rfl
  have origin : operationOrigin (window s w).origin = true := by rcases step.origin with h | h <;> simp [h, operationOrigin]
  have goes : ((window s w).state == .waiting || inMotion (window s w)) = true := by
    rcases step.out with h | h <;> simp [inMotion, h]
  have out : ∃ x ∈ op.steps, x.window = w ∧ openStep x = true := by
    obtain ⟨x, hx, own, issued⟩ := step.issued
    exact ⟨x, hx, own, by simp [openStep, issued]⟩
  have handed : endMotion w outcome s = handStatus w status (endMotionRecord w outcome s) := by
    simp only [endMotion, goes, if_true, handOutcome, origin, becomes]
  rw [handed]
  refine handStatus_open ?_ ?_ ?_ ?_ step.distinct step.counted step.noCause out ended plain
  · exact (endMotionRecord_same State.stage (fun _ _ _ => rfl) ..).trans run
  · rw [endMotionRecord_same State.tx fun _ _ _ => rfl]
    exact room
  · exact (endMotionRecord_same (fun u => u.group.crashHold) (fun _ _ _ => rfl) ..).trans step.noHold
  · exact (endMotionRecord_same (fun u => u.op.active) (fun _ _ _ => rfl) ..).trans step.active

/-! ## WINDOW_STOP (R50) -/

theorem stopWindow_run {w : WindowId} {s : State} (run : s.stage = .run) :
    stopWindow w s =
      (fun t => if (window t w).state == .reversing then refuseWindow w none .busy t
        else if (window t w).state == .waiting || inMotion (window t w) then
          if switchOrigin (window t w).origin then refuseWindow w none .busy t else endMotion w .stopped t
        else t) (activity s) := by
  have on : running s = true := by simp [running, run]
  simp only [stopWindow, on, if_true]

/-- What WINDOW_STOP does to a window once its activity is taken. -/
def stopEffect (w : WindowId) (t : State) : State :=
  if (window t w).state == .reversing then refuseWindow w none .busy t
  else if (window t w).state == .waiting || inMotion (window t w) then
    if switchOrigin (window t w).origin then refuseWindow w none .busy t else endMotion w .stopped t
  else t

section
variable {w : WindowId} {t : State}

theorem stopEffect_rest (rest : (window t w).state = .idle ∨ (window t w).state = .fault) : stopEffect w t = t := by
  rcases rest with h | h <;> simp [stopEffect, inMotion, h]

theorem stopEffect_reversing (reverses : (window t w).state = .reversing) :
    stopEffect w t = setWindow w { window t w with lastRefusal := some .busy } t := by
  rw [stopEffect, if_pos (beq_iff_eq.mpr reverses), refuseWindow_plain rfl]

section
variable (out : (window t w).state = .waiting ∨ (window t w).state = .movingManual ∨ (window t w).state = .movingAuto)
include out

theorem stopEffect_switch (origin : switchOrigin (window t w).origin = true) :
    stopEffect w t = setWindow w { window t w with lastRefusal := some .busy } t := by
  have refused : stopEffect w t = refuseWindow w none .busy t := by
    rcases out with h | h | h <;> simp [stopEffect, inMotion, h, origin]
  rw [refused, refuseWindow_plain rfl]

theorem stopEffect_ends (origin : switchOrigin (window t w).origin = false) : stopEffect w t = endMotion w .stopped t := by
  rcases out with h | h | h <;> simp [stopEffect, inMotion, h, origin]

end

/-- A waiting entry of no operation is removed (R60, R63). -/
theorem endMotion_waiting {outcome : MotionOutcome} (waits : (window t w).state = .waiting)
    (origin : operationOrigin (window t w).origin = false) (kept : outcome ≠ .lost) :
    endMotion w outcome t =
      { t with
        windows := t.windows.set w
          { window t w with state := .idle, lastOutcome := some outcome, origin := none, held := false }
        motion := { t.motion with
          switchQueue := t.motion.switchQueue.filter (· ≠ w), otherQueue := t.motion.otherQueue.filter (· ≠ w) } } := by
  have others (l : List WindowId) : l.filter (· != w) = l.filter (· ≠ w) := by
    congr 1
    funext v
    simp [bne, Bool.beq_eq_decide_eq]
  simp [endMotion, endMotionRecord, endWaiting, waits, handOutcome, origin, kept, setWindow, dequeue, others]

end

theorem StepOut.of_same {w : WindowId} {op : ActiveOp} {s t : State} (h : StepOut w op s) (opSame : t.op = s.op)
    (group : t.group = s.group) (windows : window t w = window s w) : StepOut w op t := by
  refine ⟨opSame ▸ h.active, h.distinct, h.counted, h.noCause, group ▸ h.noHold, h.issued, ?_, ?_⟩
  · rw [windows]
    exact h.out
  · rw [windows]
    exact h.origin

/-- The end of an operation's step writes the engine's record and the queue alone. -/
theorem stepEndedAs_same {α : Type} (f : State → α) (hf : ∀ (u : State) op tx, f { u with op := op, tx := tx } = f u)
    (w : WindowId) (status : StepStatus) (op : ActiveOp) (s : State) : f (stepEndedAs w status op s) = f s := by
  unfold stepEndedAs
  dsimp only
  split
  · exact hf s _ s.tx
  · exact hf ..

theorem stepEndedAs_room (w : WindowId) (status : StepStatus) (op : ActiveOp) (s : State) :
    (stepEndedAs w status op s).tx.length ≤ s.tx.length + 1 := by
  unfold stepEndedAs
  dsimp only
  split <;> simp

/-- A state as a request of management finds it, its own activity taken. -/
def begun (dt last idle : Nat) (s : State) : State := withActivity last idle (setMask none (elapse dt s))

theorem endMotionRecord_begun (dt last idle : Nat) (w : WindowId) (outcome : MotionOutcome) (s : State) :
    endMotionRecord w outcome (begun dt last idle s) = begun dt last idle (endMotionRecord w outcome s) := by
  rw [endMotionRecord, endMotionRecord, apply_ite (begun dt last idle), apply_ite (begun dt last idle)]
  rfl

theorem stepEndedAs_begun (dt last idle : Nat) (w : WindowId) (status : StepStatus) (op : ActiveOp) (s : State) :
    stepEndedAs w status op (begun dt last idle s) = begun dt last idle (stepEndedAs w status op s) := by
  rw [stepEndedAs, stepEndedAs, apply_ite (begun dt last idle)]
  rfl

/-- A part stays alert whatever the windows, the engine and the queue do. -/
theorem stepEnded_alert {s : State} (alert : Alert s) (w : WindowId) (outcome : MotionOutcome) (status : StepStatus)
    (op : ActiveOp) : Alert (stepEndedAs w status op (endMotionRecord w outcome s)) := by
  have same {α : Type} (f : State → α) (hf : ∀ (u : State) op tx, f { u with op := op, tx := tx } = f u)
      (hg : ∀ (u : State) windows motion, f { u with windows := windows, motion := motion } = f u) :
      f (stepEndedAs w status op (endMotionRecord w outcome s)) = f s :=
    (stepEndedAs_same f hf ..).trans (endMotionRecord_same f hg ..)
  exact alert.of_same (same State.stage (fun _ _ _ => rfl) fun _ _ _ => rfl)
    (same (fun u => u.ctx.state) (fun _ _ _ => rfl) fun _ _ _ => rfl)
    (same (fun u => u.ctx.ignition) (fun _ _ _ => rfl) fun _ _ _ => rfl)
    (same State.channels (fun _ _ _ => rfl) fun _ _ _ => rfl)
    (same (fun u => u.cfg.modes) (fun _ _ _ => rfl) fun _ _ _ => rfl)
    (same (fun u => u.cfg.car.parkDelay) (fun _ _ _ => rfl) fun _ _ _ => rfl)

/-- Settles O35. -/
theorem windowStopEndsTheMotion : Obligations.WindowStopEndsTheMotion := by
  intro s dt code w alert room
  refine ⟨fun outside => ?_, fun named => ?_⟩
  · have served : serveRequest (.windowStop code.toNat) (setMask none (elapse dt s)) =
        reply .range (setMask none (elapse dt s)) := by rw [serveRequest, windowOfCode_outside outside]
    exact answersActive_replied (r := .request (.windowStop code.toNat)) rfl alert (by simp) served alert room
  · intro x busy
    have answers {t : State} (effect : ∀ last idle, stopEffect w (withActivity last idle (setMask none (elapse dt s))) =
        withActivity last idle (setMask none (elapse dt t))) (calm : Alert t) (tx : t.tx.length < Config.txPlaces) :
        AnswersActive (.windowStop dt code) s (replied dt 0x07 .ok [] t) := by
      refine answers_afterActivity (kind := .windowStop code.toNat) (effect := stopEffect w) rfl alert ?_ effect calm tx
      rw [serveRequest, named, windowOfCode_code]
      exact congrArg (reply .ok) (stopWindow_run (s := setMask none (elapse dt s)) alert.run)
    refine ⟨fun rest => ?_, fun reverses => ?_, fun out origin => ?_, fun out origin clear mode => ?_,
      fun waits origin => ?_, fun op step tx clear mode => ?_⟩
    · exact answers (fun last idle => stopEffect_rest rest) alert room
    · exact answers (fun last idle => stopEffect_reversing reverses) (alert.of_same rfl rfl rfl rfl rfl rfl) room
    · have switch : switchOrigin x.origin = true := by rcases origin with h | h <;> rw [h] <;> rfl
      exact answers (fun last idle => stopEffect_switch out switch) (alert.of_same rfl rfl rfl rfl rfl rfl) room
    · have switch : switchOrigin x.origin = false := by rcases origin with h | h <;> rw [h] <;> rfl
      have operation : operationOrigin x.origin = false := by rcases origin with h | h <;> rw [h] <;> rfl
      refine answers (fun last idle => ?_) (alert.of_same rfl rfl rfl rfl rfl rfl) room
      let v := withActivity last idle (setMask none (elapse dt s))
      have sends : channelOff v (windowClosure w) = false := alert.sends mode
      exact (stopEffect_ends (t := v) (.inr out) switch).trans
        (endMotion_plain (s := v) out operation (by simp) clear sends)
    · have switch : switchOrigin x.origin = false := by rcases origin with h | h <;> rw [h] <;> rfl
      have operation : operationOrigin x.origin = false := by rcases origin with h | h <;> rw [h] <;> rfl
      refine answers (fun last idle => ?_) (alert.of_same rfl rfl rfl rfl rfl rfl) room
      let v := withActivity last idle (setMask none (elapse dt s))
      exact (stopEffect_ends (t := v) (.inl waits) switch).trans (endMotion_waiting (t := v) waits operation (by simp))
    · have origin : switchOrigin x.origin = false := by rcases step.origin with h | h <;> rw [h] <;> rfl
      have out : x.state = .waiting ∨ x.state = .movingManual ∨ x.state = .movingAuto := by
        rcases step.out with h | h
        · exact .inl h
        · exact .inr (.inr h)
      refine answers (fun last idle => ?_) (stepEnded_alert alert ..) ?_
      · let v := begun dt last idle s
        have ends := endMotion_step (s := v) (outcome := .stopped) alert.run room (step.of_same rfl rfl rfl) rfl (by simp)
        rw [endMotionRecord_begun, stepEndedAs_begun] at ends
        exact (stopEffect_ends (t := v) out origin).trans ends
      · have longer := stepEndedAs_room w .cancelled op (endMotionRecord w .stopped s)
        rw [endMotionRecord_same State.tx fun _ _ _ => rfl] at longer
        exact Nat.lt_of_le_of_lt longer (Nat.succ_lt_succ tx)

/-! ## OPERATION_CANCEL (R133, R134, R138) -/

/-- A request of management of an alert part, whatever the room in the queue: its response is offered, and its activity
comes after. -/
theorem exec_alert {i : Instr} {dt : Nat} {r : ManagementRequest} {s : State} {x : Reply}
    (meaning : exec i s = perform dt (manage r) s) (run : s.stage = .run) (h : r ≠ .restart)
    (served : serve r (maskAfter r (elapse dt s)) = x) (alert : Alert x.state) :
    exec i s = .next (activity (responded r x)) := by
  have calm : Alert (responded r x) := by
    refine alert.of_same ?_ ?_ ?_ ?_ ?_ ?_
    · exact responded_same State.stage (fun _ => rfl) r x
    · exact responded_same (fun u => u.ctx.state) (fun _ => rfl) r x
    · exact responded_same (fun u => u.ctx.ignition) (fun _ => rfl) r x
    · exact responded_same State.channels (fun _ => rfl) r x
    · exact responded_same (fun u => u.cfg.modes) (fun _ => rfl) r x
    · exact responded_same (fun u => u.cfg.car.parkDelay) (fun _ => rfl) r x
  have answered : answer r x = activity (responded r x) := wake_activity .management calm.awake
  rw [meaning, perform_supplied dt _ (by simp [run]), manage_run (s := elapse dt s) run h, served, answered]
  rw [finish_active]
  · rw [(activity_agreesWith (responded r x)).eq]
    exact calm.of_same rfl rfl rfl rfl rfl rfl
  · rw [activity_run calm.run]
    rfl
  · rw [activity_run calm.run]
    rfl

/-- Any field but the activity and the traffic, at the end of such a request. -/
theorem responded_active {α : Type} (f : State → α) (hf : ∀ u, f (lessTraffic u) = f u)
    (hg : ∀ last idle u, f (withActivity last idle u) = f u) (r : ManagementRequest) (x : Reply) :
    f (activity (responded r x)) = f x.state := by
  rw [(activity_agreesWith (responded r x)).eq, hg]
  exact responded_same f hf r x

theorem cancelSteps_eq (steps : List OpStep) : cancelSteps steps = stepsCancelled steps := by
  refine List.map_congr_left fun x _ => ?_
  cases h : x.status <;> simp [stepEnded, openStep, h]

/-- What the stops of an abort leave alone. -/
theorem stopForEngine_same {α : Type} (f : State → α) (hg : ∀ last idle u, f (withActivity last idle u) = f u) (w : WindowId)
    (hf : ∀ u, f (endMotionRecord w .cancelled u) = f u) (s : State) : f (stopForEngine w s) = f s := by
  have active : f (activity s) = f s := by rw [(activity_agreesWith s).eq, hg]
  unfold stopForEngine
  dsimp only
  split
  · rw [hf, active]
  · exact active

theorem foldl_stopForEngine_same {α : Type} (f : State → α) (hg : ∀ last idle u, f (withActivity last idle u) = f u)
    (steps : List OpStep) (hf : ∀ x ∈ steps, ∀ u, f (endMotionRecord x.window .cancelled u) = f u) (s : State) :
    f (steps.foldl (fun t x => stopForEngine x.window t) s) = f s := by
  induction steps generalizing s with
  | nil => rfl
  | cons x rest ih =>
    rw [List.foldl_cons, ih (fun y hy => hf y (List.mem_cons_of_mem x hy)),
      stopForEngine_same f hg _ (hf x (List.mem_cons_self ..))]

/-- The state in which an abort has stopped the motions of an operation (R134). -/
def stopsMade (op : ActiveOp) (s : State) : State :=
  (op.steps.filter fun x => !stepEnded x.status).foldl (fun t x => stopForEngine x.window t) s

theorem abort_active {cause : AbortCause} {op : ActiveOp} {s : State} (active : s.op.active = some op) :
    abort cause s =
      endOperation { op with steps := stepsCancelled op.steps, remaining := 0, abortCause := op.abortCause <|> some cause }
        (stopsMade op s) := by
  rw [abort, active, ← cancelSteps_eq]
  rfl

theorem stopsMade_op (op : ActiveOp) (s : State) : (stopsMade op s).op = s.op :=
  foldl_stopForEngine_same State.op (fun _ _ _ => rfl) _ (fun _ _ u => endMotionRecord_same State.op (fun _ _ _ => rfl) _ _ u) s

theorem endMotionRecord_window_other {w v : WindowId} (h : v ≠ w) (outcome : MotionOutcome) (s : State) :
    window (endMotionRecord w outcome s) v = window s v := by
  unfold endMotionRecord
  split
  · exact window_setWindow_other h _ s
  · split
    · exact window_setWindow_other h _ s
    · rfl

theorem stopsMade_window {op : ActiveOp} {w : WindowId} (absent : ∀ x ∈ op.steps, x.window ≠ w) (s : State) :
    window (stopsMade op s) w = window s w :=
  foldl_stopForEngine_same (fun u => window u w) (fun _ _ _ => rfl) _
    (fun x hx u => endMotionRecord_window_other (absent x (List.mem_of_mem_filter hx)).symm _ u) s

theorem endOperation_op (op : ActiveOp) (s : State) :
    (endOperation op s).op = { s.op with active := none, lastOp := some (endedOp op op.abortCause op.steps) } :=
  same_of_rest (offerNotice_rest _ _) State.op fun _ => rfl

theorem endOperation_windows (op : ActiveOp) (s : State) : (endOperation op s).windows = s.windows :=
  same_of_rest (offerNotice_rest _ _) State.windows fun _ => rfl

/-- Settles O37. -/
theorem operationCancelEndsTheOperation : Obligations.OperationCancelEndsTheOperation := by
  intro s dt alert room
  let v : State := setMask none (elapse dt s)
  have on : running v = true := by simp [running, v, alert.run]
  refine ⟨fun none_ => ?_, fun op active noCause noHold => ?_⟩
  · refine answers_afterActivity (kind := .operationCancel) (effect := fun t => abort .cancelled (crashTest t)) rfl alert
      (congrArg (reply .ok) (if_pos on)) (fun last idle => ?_) alert room
    have tested : crashTest (begun dt last idle s) = begun dt last idle s := by
      unfold crashTest
      split
      · exact abort_none _ none_
      · rfl
    exact (congrArg (abort .cancelled) tested).trans (abort_none _ none_)
  · let x := cancelOperation v
    obtain ⟨last, idle, begins⟩ := activity_eq v
    have effect : x = abort .cancelled (withActivity last idle v) := by
      have free := crashTest_free (s := withActivity last idle v) noHold
      rw [← free, ← begins]
      exact if_pos on
    have rest : lessMotion x = lessMotion v := by
      rw [effect, abort_lessMotion]
      rfl
    have same {α : Type} (f : State → α) (hf : ∀ u, f (lessMotion u) = f u) : f x = f v := same_of_motion rest f hf
    have calm : Alert x := alert.of_same (same State.stage fun _ => rfl) (same (fun u => u.ctx.state) fun _ => rfl)
      (same (fun u => u.ctx.ignition) fun _ => rfl) (same State.channels fun _ => rfl)
      (same (fun u => u.cfg.modes) fun _ => rfl) (same (fun u => u.cfg.car.parkDelay) fun _ => rfl)
    have ended : x.op = { s.op with
        active := none
        lastOp := some (endedOp op (some .cancelled) (stepsCancelled op.steps)) } := by
      rw [effect, abort_active (s := withActivity last idle v) active, endOperation_op, stopsMade_op, noCause]
      rfl
    have next := exec_alert (i := .operationCancel dt) (r := .request .operationCancel) (x := reply .ok x) rfl alert.run
      (by simp) rfl calm
    refine ⟨_, next, ?_, ?_, ?_, fun w absent => ?_, ?_, ?_, ?_⟩
    · rw [responded_active State.op (fun _ => rfl) fun _ _ _ => rfl]
      exact congrArg OpEngine.active ended
    · rw [responded_active State.op (fun _ => rfl) fun _ _ _ => rfl]
      exact (congrArg OpEngine.lastStart ended).trans rfl
    · rw [responded_active State.op (fun _ => rfl) fun _ _ _ => rfl]
      refine (congrArg OpEngine.lastOp ended).trans ?_
      simp only [endedOp, stepsCancelled, openStep, Bool.or_eq_true, beq_iff_eq]
    · rw [responded_active (fun u => window u w) (fun _ => rfl) fun _ _ _ => rfl]
      have left : window x w = window (stopsMade op (withActivity last idle v)) w := by
        rw [effect, abort_active (s := withActivity last idle v) active, window, endOperation_windows]
        rfl
      exact left.trans (stopsMade_window absent _)
    · rw [responded_active State.closures (fun _ => rfl) fun _ _ _ => rfl]
      exact same State.closures fun _ => rfl
    · rw [responded_active State.group (fun _ => rfl) fun _ _ _ => rfl]
      exact same State.group fun _ => rfl
    · rw [responded_active State.cfg (fun _ => rfl) fun _ _ _ => rfl]
      exact same State.cfg fun _ => rfl

end Sys2Proof.Machine
end

section
/-!
PROOFS. OPERATION_START (R129 to R134): one step of the start pass, the pass over the steps, and the start as a whole.
-/

namespace Sys2Proof.Machine

/-! ## One step of the start pass (R131) -/

/-- The request of a step for an operation that no fob holds. -/
def stepRequest (st : StepSpec) (s : State) : WindowRequest :=
  ⟨st.window, stepCounts (windowCfg s st.window).travel st.target, .operation, false⟩

theorem requestedOf_step (st : StepSpec) (s : State) : requestedOf (stepRequest st s) s = stepTarget st s := by
  cases h : st.target <;> simp [requestedOf, stepRequest, stepCounts, stepTarget, h]

theorem stepDirection_eq (st : StepSpec) (s : State) :
    requestDirection (stepTarget st s) (window s st.window).position = stepDirection st s := rfl

/-- The start pass hands a step on, but for the mark that it is ISSUED. -/
def handStep (st : StepSpec) (s : State) : State :=
  if (window s st.window).state == .fault ||
      (stepCloses (window s st.window).position st.target && !(window s st.window).normalized) then
    handStatus st.window .skipped s
  else requestMotion (stepRequest st s) s

theorem markIssued_none {w : WindowId} {s : State}
    (none_ : ∀ op, s.op.active = some op → ∀ x ∈ op.steps, x.window = w → x.status ≠ .pending) : markIssued w s = s := by
  unfold markIssued
  split
  · rfl
  · next op active =>
    have same : (op.steps.map fun x => if x.window == w && x.status == .pending then { x with status := .issued } else x) =
        op.steps := by
      refine (List.map_congr_left fun x hx => ?_).trans (List.map_id op.steps)
      by_cases own : x.window = w
      · simp [none_ op active x hx own]
      · simp [own]
    simp only [same]
    rw [← active]

/-- What the checks A and B of R48 leave. -/
theorem of_earlyRefusal_none {r : WindowRequest} {s : State} (plain : switchOrigin (some r.origin) = false)
    (h : earlyRefusal r s = none) :
    (window s r.window).state ≠ .fault ∧ s.cfg.modes.get (windowClosure r.window) ≠ .forcedOff ∧
      (window s r.window).state ≠ .reversing ∧ switchOrigin (window s r.window).origin = false := by
  unfold earlyRefusal at h
  dsimp only at h
  split at h
  · cases h
  · next present =>
    split at h
    · cases h
    · next steady =>
      split at h
      · cases h
      · next free =>
        simp only [Bool.or_eq_true, beq_iff_eq, forcedOff_iff, not_or] at present
        exact ⟨present.1, present.2, by simpa using steady, by simpa [plain] using free⟩

/-- What the checks D and E of R48 leave. -/
theorem of_thermalRefusal_none {w : WindowId} {s : State} (h : thermalRefusal w false s = none) :
    (window s w).hot = false ∧ (window s w).overtemp = false ∧ ¬(s.ctx.voltage < 90 ∧ ∃ d ∈ s.ctx.voltageFresh, s.now ≤ d) := by
  unfold thermalRefusal at h
  dsimp only at h
  split at h
  · cases h
  · next cool =>
    split at h
    · cases h
    · next supply =>
      have fresh : voltageFresh s = true ↔ ∃ d ∈ s.ctx.voltageFresh, s.now ≤ d := by
        rw [voltageFresh, live_iff]
        rfl
      simp only [Bool.not_false, Bool.and_true, Bool.or_eq_true, not_or, Bool.not_eq_true] at cool
      simp only [Bool.and_eq_true, decide_eq_true_eq, fresh, Config.lowSupply] at supply
      exact ⟨cool.1, cool.2, fun low => supply ⟨low.2, low.1⟩⟩

section
variable {st : StepSpec} {s : State}

/-- A step whose window is free. -/
theorem handStep_free (run : s.stage = .run) (awake : s.ctx.state = .awake) (free : WindowFree st.window s) :
    handStep st s = checkRequest (stepRequest st s) (activity s) := by
  have passes : ((window s st.window).state == .fault ||
      (stepCloses (window s st.window).position st.target && !(window s st.window).normalized)) = false := by
    simp [free.idle, free.normalized]
  rw [handStep, passes]
  exact requestMotion_awake run awake

/-- The causes for which a step is skipped (R48, R131). -/
def StepBarred (st : StepSpec) (s : State) : Prop :=
  let x := window s st.window
  x.state = .fault ∨ x.state = .reversing ∨ x.origin = some .ownSwitch ∨ x.origin = some .driverPack ∨
    st.target = .closed ∧ x.normalized = false ∨ s.cfg.modes.get (windowClosure st.window) = .forcedOff ∨
    (heatRest s.now x).hot = true ∨ x.overtemp = true ∨
    s.ctx.voltage < 90 ∧ ∃ d ∈ s.ctx.voltageFresh, s.now ≤ d

/-- A request that some check refuses leaves a refusal, which ends the step (R48). -/
theorem checkRequest_refused {r : WindowRequest} {s : State} (origin : r.origin = .operation)
    (refused : earlyRefusal r s = none →
      thermalRefusal r.window
        (r.held && requestDirection (min r.target (windowCfg s r.window).travel) (window s r.window).position == .up)
        (setWindow r.window (heatRest s.now (window s r.window)) s) ≠ none) :
    ∃ y, checkRequest r s = handStatus r.window .skipped (setWindow r.window y s) := by
  have handed (cause : WindowRefusal) (t : State) : refuseWindow r.window (some r.origin) cause t =
      handStatus r.window .skipped (setWindow r.window { window t r.window with lastRefusal := some cause } t) := by
    simp [refuseWindow, origin, operationOrigin]
  unfold checkRequest
  cases early : earlyRefusal r s with
  | some cause => exact ⟨_, handed cause s⟩
  | none =>
    have position : (heatRest s.now (window s r.window)).position = (window s r.window).position :=
      heatRest_same (·.position) (fun _ _ _ _ => rfl) ..
    obtain ⟨cause, thermal⟩ := Option.ne_none_iff_exists'.mp (refused early)
    simp only [window_setWindow, windowCfg_setWindow, position, thermal, handed, setWindow_setWindow]
    exact ⟨_, rfl⟩

/-- A step that is barred ends SKIPPED. -/
theorem handStep_barred (run : s.stage = .run) (awake : s.ctx.state = .awake) (barred : StepBarred st s) :
    ∃ y last idle, handStep st s =
      handStatus st.window .skipped (setWindow st.window y (withActivity last idle s)) := by
  unfold handStep
  split
  · refine ⟨window s st.window, s.ctx.lastActivity, s.ctx.idleDeadline, ?_⟩
    have same : setWindow st.window (window s st.window) (withActivity s.ctx.lastActivity s.ctx.idleDeadline s) = s := by
      simp [setWindow, window, withActivity]
    rw [same]
  · next passes =>
    obtain ⟨last, idle, active⟩ := activity_eq s
    have moves := requestMotion_awake (r := stepRequest st s) run awake
    rw [active] at moves
    have refused : ∃ y, checkRequest (stepRequest st s) (withActivity last idle s) =
        handStatus st.window .skipped (setWindow st.window y (withActivity last idle s)) := by
      refine checkRequest_refused (r := stepRequest st s) (s := withActivity last idle s) rfl fun early thermal => ?_
      obtain ⟨present, mode, steady, free⟩ := of_earlyRefusal_none rfl early
      obtain ⟨cold, cool, supply⟩ := of_thermalRefusal_none thermal
      rw [window_setWindow] at cold cool
      have cool : (window s st.window).overtemp = false :=
        (heatRest_same (·.overtemp) (fun _ _ _ _ => rfl) ..).symm.trans cool
      rcases barred with h | h | h | h | ⟨closed, h⟩ | h | h | h | h
      · exact present h
      · exact steady h
      · exact absurd ((congrArg switchOrigin h).symm.trans free) (by decide)
      · exact absurd ((congrArg switchOrigin h).symm.trans free) (by decide)
      · exact passes (by simp [closed, stepCloses, h])
      · exact mode h
      · exact absurd (h.symm.trans cold) (by decide)
      · exact absurd (h.symm.trans cool) (by decide)
      · exact supply h
    obtain ⟨y, refused⟩ := refused
    exact ⟨y, last, idle, moves.trans refused⟩

end

/-- The start pass comes to a step of an operation that runs (R129, R131). -/
structure StepDue (st : StepSpec) (op : ActiveOp) (s : State) : Prop where
  run : s.stage = .run
  awake : s.ctx.state = .awake
  room : s.tx.length < Config.txPlaces
  active : s.op.active = some op
  distinct : (op.steps.map (·.window)).Nodup
  counted : op.remaining = op.steps.countP openStep
  noCause : op.abortCause = none
  noHold : s.group.crashHold = none
  pending : ⟨st.window, st.target, .pending⟩ ∈ op.steps

section
variable {st : StepSpec} {op : ActiveOp} {s : State} (due : StepDue st op s)
include due

/-- The one step of its window is the pending one. -/
theorem StepDue.only {x : OpStep} (mem : x ∈ op.steps) (own : x.window = st.window) : x.status = .pending :=
  congrArg OpStep.status (List.inj_on_of_nodup_map due.distinct mem due.pending own)

/-- A status handed to the engine for the step ends it. -/
theorem StepDue.ends {status : StepStatus} {t : State} (ended : stepEnded status = true) (plain : status ≠ .pinched)
    (stage : t.stage = s.stage) (tx : t.tx = s.tx) (group : t.group = s.group) (opSame : t.op = s.op) :
    handStatus st.window status t = stepEndedAs st.window status op t :=
  handStatus_open (stage.trans due.run) (tx ▸ due.room) (group ▸ due.noHold) (opSame ▸ due.active) due.distinct due.counted
    due.noCause ⟨_, due.pending, rfl, rfl⟩ ended plain

theorem stepEndedAs_marked {status : StepStatus} {t : State} (known : status ≠ .pending) :
    markIssued st.window (stepEndedAs st.window status op t) = stepEndedAs st.window status op t := by
  refine markIssued_none fun op' active x hx own => ?_
  have marked : op'.steps = stepsMarked st.window status op.steps := by
    unfold stepEndedAs at active
    dsimp only at active
    split at active
    · exact congrArg ActiveOp.steps (Option.some.inj active).symm
    · cases active
  rw [marked] at hx
  obtain ⟨y, hy, rfl⟩ := List.mem_map.mp hx
  have same : y.window = st.window := by
    split at own <;> exact own
  have isOpen : openStep y = true := by simp [openStep, due.only hy same]
  simpa [same, isOpen] using known

/-- A step of a barred window is SKIPPED. -/
theorem issueStep_skipped (barred : StepBarred st s) :
    ∃ y last idle, issueStep .management st s =
      stepEndedAs st.window .skipped op (setWindow st.window y (withActivity last idle s)) := by
  obtain ⟨y, last, idle, handed⟩ := handStep_barred due.run due.awake barred
  have ends : handStep st s = stepEndedAs st.window .skipped op (setWindow st.window y (withActivity last idle s)) :=
    handed.trans (due.ends rfl (by simp) rfl rfl rfl rfl)
  refine ⟨y, last, idle, ?_⟩
  by_cases first : ((window s st.window).state == .fault ||
      (stepCloses (window s st.window).position st.target && !(window s st.window).normalized)) = true
  · exact (if_pos first).trans ((if_pos first).symm.trans ends)
  · have later : issueStep .management st s = markIssued st.window (handStep st s) :=
      (if_neg first).trans (congrArg (markIssued st.window) (if_neg first).symm)
    rw [later, ends, stepEndedAs_marked due (by simp)]

variable (free : WindowFree st.window s)
include free

theorem issueStep_free : ∃ last idle, issueStep .management st s =
    markIssued st.window (checkRequest (stepRequest st s) (withActivity last idle s)) := by
  obtain ⟨last, idle, active⟩ := activity_eq s
  have passes : ((window s st.window).state == .fault ||
      (stepCloses (window s st.window).position st.target && !(window s st.window).normalized)) = false := by
    simp [free.idle, free.normalized]
  have handed := requestMotion_awake (r := stepRequest st s) due.run due.awake
  rw [active] at handed
  refine ⟨last, idle, ?_⟩
  rw [← handed, issueStep, passes]
  rfl

/-- A step that leaves nothing to move is DONE. -/
theorem issueStep_done
    (stands : ¬LeftToMove (stepDirection st s) (min (stepTarget st s) (currentLimit s st.window)) (window s st.window).position) :
    ∃ y last idle, issueStep .management st s =
      stepEndedAs st.window .done op (setWindow st.window y (withActivity last idle s)) := by
  obtain ⟨last, idle, issued⟩ := issueStep_free due free
  have target : requestedOf (stepRequest st s) (withActivity last idle s) = stepTarget st s := requestedOf_step st s
  have completed := checkRequest_completes (r := stepRequest st s) (s := withActivity last idle s) (dir := stepDirection st s)
    (free.of_same rfl rfl rfl) (by rw [target]; exact stepDirection_eq st s) (by rw [target]; exact stands)
  have ends : completes (stepRequest st s) (withActivity last idle s) =
      stepEndedAs st.window .done op (setWindow st.window
        { accepted (stepRequest st s) (withActivity last idle s) with lastOutcome := some .reached } (withActivity last idle s)) :=
    due.ends rfl (by simp) rfl rfl rfl rfl
  exact ⟨_, last, idle, by rw [issued, completed, ends, stepEndedAs_marked due (by simp)]⟩

/-- A step that leaves something to move is ISSUED, and its request waits for its grant. -/
theorem issueStep_issued
    (moves : LeftToMove (stepDirection st s) (min (stepTarget st s) (currentLimit s st.window)) (window s st.window).position) :
    ∃ last idle, issueStep .management st s =
      { waitsFor (stepRequest st s) (stepDirection st s) (withActivity last idle s) with
        op := { s.op with active := some { op with steps := stepsMarked st.window .issued op.steps } } } := by
  obtain ⟨last, idle, issued⟩ := issueStep_free due free
  have target : requestedOf (stepRequest st s) (withActivity last idle s) = stepTarget st s := requestedOf_step st s
  have waits := checkRequest_waits (r := stepRequest st s) (s := withActivity last idle s) (dir := stepDirection st s)
    (free.of_same rfl rfl rfl) (by rw [target]; exact stepDirection_eq st s) (by rw [target]; exact moves)
  have marks : (op.steps.map fun x => if x.window == st.window && x.status == .pending then { x with status := .issued } else x) =
      stepsMarked st.window .issued op.steps := by
    refine List.map_congr_left fun x hx => ?_
    by_cases own : x.window = st.window
    · simp [own, due.only hx own, openStep]
    · simp [own]
  refine ⟨last, idle, ?_⟩
  rw [issued, waits, ← marks]
  have active : (waitsFor (stepRequest st s) (stepDirection st s) (withActivity last idle s)).op.active = some op := due.active
  unfold markIssued
  rw [active]
  rfl

end

/-! ## The start pass (R131) -/

theorem stepTarget_of_same {st : StepSpec} {s t : State} (cfg : t.cfg = s.cfg) : stepTarget st t = stepTarget st s := by
  simp only [stepTarget, windowCfg, cfg]

theorem stepDirection_of_same {st : StepSpec} {s t : State} (cfg : t.cfg = s.cfg)
    (windows : window t st.window = window s st.window) : stepDirection st t = stepDirection st s := by
  simp only [stepDirection, stepTarget_of_same cfg, windows]

/-- What a step comes to depends on its window's record, the settings and the voltage. -/
theorem StepComesTo.of_same {now : Nat} {s t : State} {st : StepSpec} {status : StepStatus}
    (h : StepComesTo now s st status) (windows : window t st.window = window s st.window) (cfg : t.cfg = s.cfg)
    (limit : currentLimit t st.window = currentLimit s st.window) (voltage : t.ctx.voltage = s.ctx.voltage)
    (fresh : t.ctx.voltageFresh = s.ctx.voltageFresh) : StepComesTo now t st status := by
  have modes : t.cfg.modes = s.cfg.modes := congrArg (·.modes) cfg
  unfold StepComesTo at h ⊢
  simp only [windows, stepDirection_of_same cfg windows, stepTarget_of_same cfg, limit, modes, voltage, fresh]
  rcases h with ⟨status, free, moves⟩ | ⟨status, free, stands⟩ | skipped
  · exact .inl ⟨status, free.of_same windows modes voltage, moves⟩
  · exact .inr (.inl ⟨status, free.of_same windows modes voltage, stands⟩)
  · exact .inr (.inr skipped)

/-- The pass leaves all that but the window alone. -/
theorem StepComesTo.of_motion {now : Nat} {s t : State} {st : StepSpec} {status : StepStatus}
    (h : StepComesTo now s st status) (rest : lessMotion t = lessMotion s)
    (windows : window t st.window = window s st.window) : StepComesTo now t st status :=
  have same {α : Type} (f : State → α) (hf : ∀ u, f (lessMotion u) = f u) : f t = f s := same_of_motion rest f hf
  h.of_same windows (same State.cfg fun _ => rfl) (same (fun u => currentLimit u st.window) fun _ => rfl)
    (same (fun u => u.ctx.voltage) fun _ => rfl) (same (fun u => u.ctx.voltageFresh) fun _ => rfl)

/-- The record of a window whose step is ISSUED. -/
def StepWaits (st : StepSpec) (s : State) (x : Window) : Prop :=
  x.state = .waiting ∧ x.direction = stepDirection st s ∧ x.requested = stepTarget st s ∧ x.origin = some .operation ∧
    x.held = false ∧ x.position = (window s st.window).position

/-- The steps that are ISSUED. -/
def issuedOf (status : WindowId → StepStatus) (steps : List StepSpec) : List StepSpec :=
  steps.filter fun st => status st.window = .issued

/-- What the pass over some steps does, but for the engine's record and its notice. -/
structure PassMade (status : WindowId → StepStatus) (steps : List StepSpec) (s u : State) : Prop where
  rest : lessMotion u = lessMotion s
  motion : u.motion =
    { s.motion with otherQueue := s.motion.otherQueue ++ (issuedOf status steps).map (·.window) }
  others : ∀ w, (∀ st ∈ steps, st.window ≠ w) → window u w = window s w
  waits : ∀ st ∈ issuedOf status steps, StepWaits st s (window u st.window)

theorem PassMade.nil (status : WindowId → StepStatus) (s : State) : PassMade status [] s s :=
  ⟨rfl, by simp [issuedOf], fun _ _ => rfl, by simp [issuedOf]⟩

theorem PassMade.cons {status : WindowId → StepStatus} {st : StepSpec} {rest : List StepSpec} {s v u : State}
    (first : PassMade status [st] s v) (later : PassMade status rest v u) (fresh : ∀ x ∈ rest, x.window ≠ st.window) :
    PassMade status (st :: rest) s u := by
  have issued : issuedOf status (st :: rest) = issuedOf status [st] ++ issuedOf status rest := by
    simpa [issuedOf] using List.filter_append (p := fun x : StepSpec => Decidable.decide (status x.window = .issued)) [st] rest
  have cfg : v.cfg = s.cfg := same_of_motion first.rest State.cfg fun _ => rfl
  refine ⟨later.rest.trans first.rest, ?_, fun w absent => ?_, fun x mem => ?_⟩
  · rw [later.motion, first.motion, issued]
    simp
  · rw [later.others w fun x mem => absent x (List.mem_cons_of_mem _ mem), first.others w]
    simpa using absent st (List.mem_cons_self ..)
  · rw [issued, List.mem_append] at mem
    rcases mem with mem | mem
    · have same : x = st := by simpa using List.mem_of_mem_filter mem
      subst same
      rw [later.others x.window fresh]
      exact first.waits x mem
    · have old : window v x.window = window s x.window :=
        first.others x.window (by simpa using (fresh x (List.mem_of_mem_filter mem)).symm)
      have record := later.waits x mem
      rw [StepWaits, stepDirection_of_same cfg old, stepTarget_of_same cfg, old] at record
      exact record

/-- The engine with an operation's steps as they have become: it runs on while one is open, and ends COMPLETE with its
notice when none is (R129, R133). -/
def stepsCome (steps : List OpStep) (op : ActiveOp) (s : State) : State :=
  if steps.any openStep then
    { s with op := { s.op with active := some { op with steps := steps, remaining := steps.countP openStep } } }
  else
    { s with
      op := { s.op with active := none, lastOp := some (endedOp op none steps) }
      tx := s.tx ++ [operationNotice s (endedOp op none steps)] }

section
variable {status : WindowId → StepStatus} {st : StepSpec} {op : ActiveOp} {s : State} (due : StepDue st op s)
include due

theorem stepEndedAs_come {ended : StepStatus} (isEnd : stepEnded ended = true) (t : State) :
    stepEndedAs st.window ended op t = stepsCome (stepsMarked st.window ended op.steps) op t := by
  have left := countP_stepsMarked ended due.distinct ⟨_, due.pending, rfl, rfl⟩ isEnd
  have counted : op.remaining - 1 = (stepsMarked st.window ended op.steps).countP openStep := by
    rw [due.counted]
    exact Nat.sub_eq_of_eq_add left.symm
  rw [stepEndedAs, counted]
  rfl

/-- A step that ends at once leaves the windows of the others and the queue. -/
theorem issueStep_ended {u : State} {y : Window} {last idle : Nat} (isEnd : stepEnded (status st.window) = true)
    (ends : u = stepEndedAs st.window (status st.window) op (setWindow st.window y (withActivity last idle s))) :
    PassMade status [st] s u ∧ u.op = (stepsCome (stepsMarked st.window (status st.window) op.steps) op s).op ∧
      u.tx = (stepsCome (stepsMarked st.window (status st.window) op.steps) op s).tx := by
  have none_ : issuedOf status [st] = [] := by
    have closed : status st.window ≠ .issued := fun h => by simp [h, stepEnded] at isEnd
    simp [issuedOf, closed]
  refine ⟨⟨?_, ?_, fun w absent => ?_, by simp [none_]⟩, ?_⟩
  · rw [ends, stepEndedAs_same lessMotion fun _ _ _ => rfl]
    rfl
  · rw [ends, stepEndedAs_same State.motion fun _ _ _ => rfl, none_]
    simp [setWindow, withActivity]
  · rw [ends, stepEndedAs_same (fun u => window u w) fun _ _ _ => rfl]
    exact window_setWindow_other (absent st (by simp)).symm _ _
  · rw [ends, stepEndedAs_come due isEnd]
    unfold stepsCome
    split <;> exact ⟨rfl, rfl⟩

/-- A step takes the status it comes to, and its window waits where that is ISSUED. -/
theorem issueStep_comes (comes : StepComesTo s.now s st (status st.window)) :
    let u := issueStep .management st s
    PassMade status [st] s u ∧ u.op = (stepsCome (stepsMarked st.window (status st.window) op.steps) op s).op ∧
      u.tx = (stepsCome (stepsMarked st.window (status st.window) op.steps) op s).tx := by
  intro u
  rcases comes with ⟨becomes, free, moves⟩ | ⟨becomes, free, stands⟩ | ⟨becomes, barred⟩
  · obtain ⟨last, idle, issued⟩ := issueStep_issued due free moves
    have queued : issuedOf status [st] = [st] := by simp [issuedOf, becomes]
    have isOpen : (stepsMarked st.window .issued op.steps).any openStep = true :=
      List.any_eq_true.mpr ⟨_, List.mem_map.mpr ⟨_, due.pending, if_pos ⟨rfl, rfl⟩⟩, rfl⟩
    have counted : (stepsMarked st.window .issued op.steps).countP openStep = op.remaining := by
      rw [due.counted, stepsMarked, List.countP_map]
      refine List.countP_congr fun x _ => ?_
      by_cases h : x.window = st.window ∧ openStep x = true
      · obtain ⟨own, isOpen⟩ := h
        simp only [Function.comp_apply, own, isOpen, and_self, if_true, iff_true]
        rfl
      · simp [h]
    have record : u = { waitsFor (stepRequest st s) (stepDirection st s) (withActivity last idle s) with
        op := { s.op with active := some { op with steps := stepsMarked st.window .issued op.steps } } } := issued
    refine ⟨⟨?_, ?_, fun w absent => ?_, fun x mem => ?_⟩, ?_⟩
    · rw [record]
      rfl
    · rw [record, queued]
      rfl
    · rw [record]
      exact window_setWindow_other (absent st (by simp)).symm _ (withActivity last idle s)
    · have same : x = st := by simpa [queued] using mem
      subst same
      have entry : window u x.window =
          { accepted (stepRequest x s) (withActivity last idle s) with
            state := .waiting, direction := stepDirection x s, origin := some .operation, held := false, normHold := none } := by
        rw [record]
        exact window_setWindow (s := withActivity last idle s) ..
      rw [entry]
      exact ⟨rfl, rfl, requestedOf_step x s, rfl, rfl, heatRest_same (·.position) (fun _ _ _ _ => rfl) ..⟩
    · rw [record, becomes, stepsCome, if_pos isOpen, counted]
      exact ⟨rfl, rfl⟩
  · obtain ⟨y, last, idle, ends⟩ := issueStep_done due free stands
    exact issueStep_ended due (by rw [becomes]; rfl) (by rw [becomes]; exact ends)
  · obtain ⟨y, last, idle, ends⟩ := issueStep_skipped due barred
    exact issueStep_ended due (by rw [becomes]; rfl) (by rw [becomes]; exact ends)

end

/-- The steps of a start with the status of each. -/
def stepsAt (status : WindowId → StepStatus) (steps : List StepSpec) : List OpStep :=
  steps.map fun st => ⟨st.window, st.target, status st.window⟩

theorem stepsAt_windows (status : WindowId → StepStatus) (steps : List StepSpec) :
    (stepsAt status steps).map (·.window) = steps.map (·.window) := by
  rw [stepsAt, List.map_map]
  rfl

/-- The steps once the pass has come past the first ones. -/
def stepsPassed (status : WindowId → StepStatus) (done rest : List StepSpec) : List OpStep :=
  stepsAt status done ++ stepsAt (fun _ => .pending) rest

theorem stepsPassed_windows (status : WindowId → StepStatus) (done rest : List StepSpec) :
    (stepsPassed status done rest).map (·.window) = (done ++ rest).map (·.window) := by
  rw [stepsPassed, List.map_append, stepsAt_windows, stepsAt_windows, List.map_append]

theorem stepsPassed_next {status : WindowId → StepStatus} {st : StepSpec} {done rest : List StepSpec}
    (distinct : ((done ++ st :: rest).map (·.window)).Nodup) :
    stepsMarked st.window (status st.window) (stepsPassed status done (st :: rest)) =
      stepsPassed status (done ++ [st]) rest := by
  rw [List.map_append, List.map_cons, List.nodup_append] at distinct
  obtain ⟨_, later, apart⟩ := distinct
  have before : st.window ∉ done.map (·.window) := fun mem => apart _ mem _ (List.mem_cons_self ..) rfl
  have after : st.window ∉ rest.map (·.window) := (List.nodup_cons.mp later).1
  have split (xs ys : List OpStep) : stepsMarked st.window (status st.window) (xs ++ ys) =
      stepsMarked st.window (status st.window) xs ++ stepsMarked st.window (status st.window) ys := List.map_append ..
  have head : stepsMarked st.window (status st.window) [⟨st.window, st.target, .pending⟩] =
      [⟨st.window, st.target, status st.window⟩] := by simp [stepsMarked, openStep]
  have cons : stepsPassed status done (st :: rest) =
      stepsAt status done ++ ([⟨st.window, st.target, .pending⟩] ++ stepsAt (fun _ => .pending) rest) := rfl
  rw [cons, split, split, head, stepsMarked_absent _ (by rwa [stepsAt_windows]),
    stepsMarked_absent _ (by rwa [stepsAt_windows])]
  simp [stepsPassed, stepsAt]

/-- The engine's records depend on those before and on the queue. -/
theorem stepsCome_of_same {steps : List OpStep} {op : ActiveOp} {s t : State} {active : Option ActiveOp}
    (opSame : t.op = { s.op with active := active }) (tx : t.tx = s.tx) (mgmt : t.mgmt = s.mgmt) :
    (stepsCome steps op t).op = (stepsCome steps op s).op ∧ (stepsCome steps op t).tx = (stepsCome steps op s).tx := by
  unfold stepsCome operationNotice
  split <;> simp [opSame, tx, mgmt]

/-- The pass over the steps that are left. -/
theorem passMade {status : WindowId → StepStatus} {op : ActiveOp} (noCause : op.abortCause = none) {done rest : List StepSpec}
    {s : State} (run : s.stage = .run) (awake : s.ctx.state = .awake) (noHold : s.group.crashHold = none)
    (room : s.tx.length < Config.txPlaces)
    (active : s.op.active = some { op with
      steps := stepsPassed status done rest, remaining := (stepsPassed status done rest).countP openStep })
    (distinct : ((done ++ rest).map (·.window)).Nodup)
    (comes : ∀ st ∈ rest, StepComesTo s.now s st (status st.window))
    (goes : rest ≠ [] ∨ (stepsAt status done).any openStep = true) :
    let u := rest.foldl (fun t st => issueStep .management st t) s
    PassMade status rest s u ∧ u.op = (stepsCome (stepsAt status (done ++ rest)) op s).op ∧
      u.tx = (stepsCome (stepsAt status (done ++ rest)) op s).tx := by
  induction rest generalizing done s with
  | nil =>
    have isOpen : (stepsAt status (done ++ [])).any openStep = true := by simpa using goes
    have same : stepsPassed status done [] = stepsAt status (done ++ []) := by simp [stepsPassed, stepsAt]
    refine ⟨.nil status s, ?_, ?_⟩
    · rw [stepsCome, if_pos isOpen, ← same]
      dsimp only [List.foldl_nil]
      rw [← active]
    · rw [stepsCome, if_pos isOpen]
      rfl
  | cons st rest ih =>
    let v := issueStep .management st s
    have due : StepDue st { op with
        steps := stepsPassed status done (st :: rest)
        remaining := (stepsPassed status done (st :: rest)).countP openStep } s :=
      ⟨run, awake, room, active, by rwa [stepsPassed_windows], rfl, noCause, noHold,
        List.mem_append_right _ (List.mem_cons_self ..)⟩
    obtain ⟨first, opFirst, txFirst⟩ := issueStep_comes (status := status) due (comes st (List.mem_cons_self ..))
    rw [stepsPassed_next distinct] at opFirst txFirst
    have regroup : done ++ st :: rest = done ++ [st] ++ rest := by simp
    have apart : ∀ x ∈ rest, x.window ≠ st.window := by
      intro x mem same
      rw [List.map_append, List.map_cons, List.nodup_append] at distinct
      exact (List.nodup_cons.mp distinct.2.1).1 (List.mem_map.mpr ⟨x, mem, same⟩)
    have same {α : Type} (f : State → α) (hf : ∀ u, f (lessMotion u) = f u) : f v = f s := same_of_motion first.rest f hf
    by_cases more : (stepsPassed status (done ++ [st]) rest).any openStep = true
    · rw [stepsCome, if_pos more] at opFirst txFirst
      have now : v.now = s.now := same State.now fun _ => rfl
      obtain ⟨later, opLater, txLater⟩ := ih (done := done ++ [st]) (s := v) ((same State.stage fun _ => rfl).trans run)
        ((same (fun u => u.ctx.state) fun _ => rfl).trans awake)
        ((same (fun u => u.group.crashHold) fun _ => rfl).trans noHold) (by rw [txFirst]; exact room)
        (congrArg OpEngine.active opFirst) (by rwa [← regroup])
        (fun x mem => by
          rw [now]
          exact (comes x (List.mem_cons_of_mem _ mem)).of_motion first.rest
            (first.others _ (by simpa using (apart x mem).symm)))
        (by
          cases rest with
          | nil => exact .inr (by simpa [stepsPassed, stepsAt] using more)
          | cons x rest => exact .inl (by simp))
      obtain ⟨opSame, txSame⟩ := stepsCome_of_same (steps := stepsAt status (done ++ [st] ++ rest)) (op := op) opFirst txFirst
        (same State.mgmt fun _ => rfl)
      rw [regroup]
      exact ⟨first.cons later apart, opLater.trans opSame, txLater.trans txSame⟩
    · have last : rest = [] := by
        cases rest with
        | nil => rfl
        | cons x rest => exact absurd (by simp [stepsPassed, stepsAt, openStep]) more
      subst last
      have all : stepsPassed status (done ++ [st]) [] = stepsAt status (done ++ [st]) := by simp [stepsPassed, stepsAt]
      rw [all] at opFirst txFirst
      exact ⟨first, opFirst, txFirst⟩

end Sys2Proof.Machine
end

section
/-!
PROOFS. OPERATION_START (R129 to R134): the start that supersedes an operation, the decision on a start, and the whole.
-/

namespace Sys2Proof.Machine

theorem Alert.of_motion {s t : State} (alert : Alert s) (rest : lessMotion t = lessMotion s) : Alert t :=
  have same {α : Type} (f : State → α) (hf : ∀ u, f (lessMotion u) = f u) : f t = f s := same_of_motion rest f hf
  alert.of_same (same State.stage fun _ => rfl) (same (fun u => u.ctx.state) fun _ => rfl)
    (same (fun u => u.ctx.ignition) fun _ => rfl) (same State.channels fun _ => rfl)
    (same (fun u => u.cfg.modes) fun _ => rfl) (same (fun u => u.cfg.car.parkDelay) fun _ => rfl)

/-! ## What the stops of an abort make of the windows (R50, R134) -/

/-- A motion or entry of the engine's own. -/
def EnginesOwn (x : Window) : Prop :=
  operationOrigin x.origin = true ∧ (x.state = .waiting ∨ x.state = .movingManual ∨ x.state = .movingAuto)

/-- A window once the engine's stops have passed over it. -/
structure EngineStopped (x y : Window) : Prop where
  idle : y.state = .idle
  outcome : y.lastOutcome = some .cancelled
  origin : y.origin = none
  normalized : x.normalized = false → y.normalized = false
  heat : ∀ now, (heatRest now y).hot = (heatRest now x).hot
  overtemp : y.overtemp = x.overtemp

theorem withActivity_window (last idle : Nat) (s : State) (w : WindowId) : window (withActivity last idle s) w = window s w :=
  rfl

theorem heatRest_hot (now : Nat) (x : Window) : (heatRest now x).hot =
    if x.lastDrive != .stop then x.hot
    else x.hot && Decidable.decide (Config.hotClear < x.heat - (now - x.heatStamp) / 10) := by
  rw [heatRest, apply_ite Window.hot]
  rfl

theorem endedRecord_stopped (travel : Nat) (x : Window) : EngineStopped x (endedRecord travel (some .cancelled) x) := by
  unfold endedRecord
  dsimp only
  split
  · exact ⟨rfl, rfl, rfl, fun _ => rfl, fun now => by rw [heatRest_hot, heatRest_hot]; rfl, rfl⟩
  · exact ⟨rfl, rfl, rfl, id, fun now => by rw [heatRest_hot, heatRest_hot], rfl⟩

theorem removedEntry_stopped (x : Window) : EngineStopped x
    { x with state := .idle, lastOutcome := some .cancelled, origin := none, held := false } :=
  ⟨rfl, rfl, rfl, id, fun now => by rw [heatRest_hot, heatRest_hot], rfl⟩

theorem stopForEngine_owned {w : WindowId} {s : State} (own : EnginesOwn (window s w)) :
    EngineStopped (window s w) (window (stopForEngine w s) w) := by
  obtain ⟨last, idle, active⟩ := activity_eq s
  have origin : operationOrigin (window (withActivity last idle s) w).origin = true := own.1
  have out : ((window (withActivity last idle s) w).state == .waiting || inMotion (window (withActivity last idle s) w)) =
      true := by
    rcases own.2 with h | h | h <;> simp [inMotion, withActivity_window, h]
  have stopped : stopForEngine w s = endMotionRecord w .cancelled (withActivity last idle s) := by
    rw [stopForEngine, active]
    simp only [origin, out, Bool.and_self, if_true]
  rw [stopped, endMotionRecord]
  split
  · have record : window (endWaiting w .cancelled (withActivity last idle s)) w =
        { window s w with state := .idle, lastOutcome := some .cancelled, origin := none, held := false } :=
      window_setWindow (s := withActivity last idle s) ..
    rw [record]
    exact removedEntry_stopped _
  · split
    · have record : window (endRunning w (some .cancelled) (withActivity last idle s)) w =
          endedRecord (windowCfg s w).travel (some .cancelled) (window s w) :=
        window_setWindow (s := withActivity last idle s) ..
      rw [record]
      exact endedRecord_stopped ..
    · next rest moves =>
      have runs : windowMoving (window (withActivity last idle s) w) = true := by
        rcases own.2 with h | h | h
        · exact absurd (beq_iff_eq.mpr h) rest
        · simp [windowMoving, withActivity_window, h]
        · simp [windowMoving, withActivity_window, h]
      exact absurd runs moves

/-- A stop leaves every other window, and one that has no motion or entry of the engine's. -/
theorem stopForEngine_other {w v : WindowId} {s : State} (h : v ≠ w ∨ ¬EnginesOwn (window s v)) :
    window (stopForEngine w s) v = window s v := by
  obtain ⟨last, idle, active⟩ := activity_eq s
  unfold stopForEngine
  rw [active]
  dsimp only
  split
  · next owned =>
    have other : v ≠ w := by
      rintro rfl
      have free := h.resolve_left fun other => other rfl
      simp only [Bool.and_eq_true, Bool.or_eq_true, beq_iff_eq, inMotion] at owned
      exact free owned
    exact endMotionRecord_window_other other _ _
  · rfl

/-- The windows as the stops of an abort leave them. -/
theorem stops_window (steps : List OpStep) (s : State) (w : WindowId) :
    let t := steps.foldl (fun t x => stopForEngine x.window t) s
    (window t w = window s w ∧ ((∃ x ∈ steps, x.window = w) → ¬EnginesOwn (window s w))) ∨
      EnginesOwn (window s w) ∧ EngineStopped (window s w) (window t w) := by
  induction steps generalizing s with
  | nil => exact .inl ⟨rfl, by simp⟩
  | cons x rest ih =>
    by_cases own : w = x.window ∧ EnginesOwn (window s w)
    · obtain ⟨rfl, own⟩ := own
      have stopped := stopForEngine_owned own
      have freed : ¬EnginesOwn (window (stopForEngine x.window s) x.window) := fun ⟨origin, _⟩ => by
        rw [stopped.origin] at origin
        cases origin
      refine .inr ⟨own, ?_⟩
      rcases ih (stopForEngine x.window s) with ⟨same, _⟩ | ⟨again, _⟩
      · rw [List.foldl_cons, same]
        exact stopped
      · exact absurd again freed
    · have same : window (stopForEngine x.window s) w = window s w := by
        refine stopForEngine_other ?_
        by_cases here : w = x.window
        · exact .inr fun h => own ⟨here, h⟩
        · exact .inl here
      have later := ih (stopForEngine x.window s)
      rw [same] at later
      rcases later with ⟨kept, freed⟩ | stopped
      · refine .inl ⟨kept, ?_⟩
        rintro ⟨y, mem, rfl⟩ owned
        rcases List.mem_cons.mp mem with rfl | mem
        · exact own ⟨rfl, owned⟩
        · exact freed ⟨y, mem, rfl⟩ owned
      · exact .inr stopped

/-- What a step comes to is the same after the stops of an abort: a window that they stop is not free, and the causes that
bar a step outlast them (R48, R131). -/
theorem StepComesTo.stopped {now : Nat} {s t : State} {st : StepSpec} {status : StepStatus}
    (h : StepComesTo now s st status) (rest : lessMotion t = lessMotion s) (own : EnginesOwn (window s st.window))
    (stopped : EngineStopped (window s st.window) (window t st.window)) : StepComesTo now t st status := by
  obtain ⟨origin, out⟩ := own
  have same {α : Type} (f : State → α) (hf : ∀ u, f (lessMotion u) = f u) : f t = f s := same_of_motion rest f hf
  have owned (free : WindowFree st.window s) : False := by simp [free.noOrigin, operationOrigin] at origin
  rcases h with ⟨_, free, _⟩ | ⟨_, free, _⟩ | ⟨becomes, barred⟩
  · exact (owned free).elim
  · exact (owned free).elim
  · refine .inr (.inr ⟨becomes, ?_⟩)
    rcases barred with h | h | h | h | ⟨closed, h⟩ | h | h | h | h
    · rcases out with o | o | o <;> cases o.symm.trans h
    · rcases out with o | o | o <;> cases o.symm.trans h
    · simp [h, operationOrigin] at origin
    · simp [h, operationOrigin] at origin
    · exact .inr (.inr (.inr (.inr (.inl ⟨closed, stopped.normalized h⟩))))
    · have mode : t.cfg.modes = s.cfg.modes := same (fun u => u.cfg.modes) fun _ => rfl
      exact .inr (.inr (.inr (.inr (.inr (.inl (by rw [mode]; exact h))))))
    · exact .inr (.inr (.inr (.inr (.inr (.inr (.inl ((stopped.heat now).trans h)))))))
    · exact .inr (.inr (.inr (.inr (.inr (.inr (.inr (.inl (stopped.overtemp.trans h))))))))
    · have voltage : t.ctx.voltage = s.ctx.voltage := same (fun u => u.ctx.voltage) fun _ => rfl
      have fresh : t.ctx.voltageFresh = s.ctx.voltageFresh := same (fun u => u.ctx.voltageFresh) fun _ => rfl
      exact .inr (.inr (.inr (.inr (.inr (.inr (.inr (.inr (by rw [voltage, fresh]; exact h))))))))

/-! ## A start that supersedes (R130 E) -/

/-- The record of the operation that a start supersedes. -/
def supersededOp (s : State) : Option LastOp :=
  s.op.active.map fun old => endedOp old (some .superseded) (stepsCancelled old.steps)

/-- What a start leaves once it has superseded a present operation. -/
structure Superseded (s t : State) : Prop where
  rest : lessMotion t = lessMotion s
  op : t.op = { s.op with active := none, lastOp := supersededOp s <|> s.op.lastOp }
  tx : t.tx = s.tx ++ (supersededOp s).toList.map (operationNotice s)
  comes : ∀ now st status, StepComesTo now s st status → StepComesTo now t st status
  others : ∀ w, ¬EnginesOwn (window s w) → window t w = window s w
  none_ : s.op.active = none → t = s
  old : ∀ old ∈ s.op.active, ∀ x ∈ old.steps, openStep x = true → EnginesOwn (window s x.window) →
    EngineStopped (window s x.window) (window t x.window)

theorem abort_superseded {s : State} (run : s.stage = .run) (room : s.tx.length < Config.txPlaces)
    (noCause : ∀ old ∈ s.op.active, old.abortCause = none) : Superseded s (abort .superseded s) := by
  cases active : s.op.active with
  | none =>
    have same : abort .superseded s = s := abort_none _ active
    have record : supersededOp s = none := by simp [supersededOp, active]
    rw [same]
    refine ⟨rfl, ?_, by simp [record], fun _ _ _ h => h, fun _ _ => rfl, fun _ => rfl, by simp [active]⟩
    rw [record, ← active]
    rfl
  | some old =>
    have record : supersededOp s = some (endedOp old (some .superseded) (stepsCancelled old.steps)) := by
      simp [supersededOp, active]
    have cause : old.abortCause = none := noCause old active
    have rest : lessMotion (stopsMade old s) = lessMotion s := foldl_lessMotion _ (fun _ _ => stopForEngine_lessMotion _ _) _
    have made := abort_active (cause := .superseded) active
    have stage : (stopsMade old s).stage = .run := (same_of_motion rest State.stage fun _ => rfl).trans run
    have tx : (stopsMade old s).tx = s.tx :=
      foldl_stopForEngine_same State.tx (fun _ _ _ => rfl) _ (fun _ _ u => endMotionRecord_same State.tx (fun _ _ _ => rfl) _ _ u) s
    have mgmt : (stopsMade old s).mgmt = s.mgmt := same_of_motion rest State.mgmt fun _ => rfl
    rw [endOperation_room stage (by rw [tx]; exact room), cause] at made
    have windows (w : WindowId) : window (abort .superseded s) w = window (stopsMade old s) w := by rw [made]; rfl
    have lessSame : lessMotion (abort .superseded s) = lessMotion s := abort_lessMotion _ _
    refine ⟨lessSame, ?_, ?_, fun now st status comes => ?_, fun w free => ?_, by simp [active], ?_⟩
    · rw [made, stopsMade_op, record]
      rfl
    · rw [made, tx, record]
      simp only [operationNotice, mgmt]
      rfl
    · rcases stops_window _ s st.window with ⟨same, _⟩ | ⟨own, stopped⟩
      · exact comes.of_motion lessSame ((windows _).trans same)
      · exact comes.stopped lessSame own (by rw [windows]; exact stopped)
    · rcases stops_window _ s w with ⟨same, _⟩ | ⟨own, _⟩
      · exact (windows w).trans same
      · exact absurd own free
    · intro old' active' x mem isOpen own
      rw [active] at active'
      cases active'
      rw [windows]
      rcases stops_window (old.steps.filter fun x => !stepEnded x.status) s x.window with ⟨_, freed⟩ | ⟨_, stopped⟩
      · exact absurd own (freed ⟨x, List.mem_filter.mpr ⟨mem, by rw [stepEnded_open, isOpen]⟩, rfl⟩)
      · exact stopped

/-! ## The decision (R130) -/

/-- The engine's record with the result of a start. -/
def startResult (i : Nat) (r : StartResult) (s : State) : OpEngine := { s.op with lastStart := some ⟨r, i, .management⟩ }

/-- A start of management once its activity is taken and no crash hold is left to test. -/
def decided (i : Nat) (d : Descriptor) (t : State) : State :=
  let result := decideStart i d .management t
  let t := { t with op := startResult i result t }
  match result with
  | .started => takeStart i d .management t
  | .renewed => { t with op := { t.op with active := t.op.active.map (moveLease t.now) } }
  | _ => t

section
variable {i : Nat} {d : Descriptor} {s : State}

theorem startOperation_run (found : s.cfg.descriptors[i]? = some d) (run : s.stage = .run) :
    startOperation i .management s = decided i d (crashTest (activity s)) := by
  have on : running s = true := by simp [running, run]
  have found' : (activity s).cfg.descriptors[i]? = some d := by
    obtain ⟨last, idle, active⟩ := activity_eq s
    rw [active]
    exact found
  simp only [startOperation, on, found]
  rfl

theorem decided_hold (hold : s.group.crashHold.isSome) : decided i d s = { s with op := startResult i .crashHold s } := by
  simp [decided, decideStart, hold]

variable (free : s.group.crashHold = none)
include free

theorem decideStart_free : decideStart i d .management s =
    if d.enabled = false then .disabled else if d.holdToRun = true then .holdRequired else .started := by
  have other : s.op.active.any (sameHolder · i .management) = false := by
    cases s.op.active <;> simp [sameHolder]
  simp [decideStart, free, other]

theorem decided_disabled (off : d.enabled = false) : decided i d s = { s with op := startResult i .disabled s } := by
  simp [decided, decideStart_free free, off]

theorem decided_holdRequired (on : d.enabled = true) (hold : d.holdToRun = true) :
    decided i d s = { s with op := startResult i .holdRequired s } := by
  simp [decided, decideStart_free free, on, hold]

theorem decided_started (on : d.enabled = true) (once : d.holdToRun = false) :
    decided i d s = takeStart i d .management { s with op := startResult i .started s } := by
  simp [decided, decideStart_free free, on, once]

end

/-! ## The start as a whole -/

/-- The operation that a start of management begins, its steps as they have become. -/
def begunOp (i : Nat) (d : Descriptor) (steps : List OpStep) (remaining : Nat) : ActiveOp :=
  { descriptor := i, kind := d.kind, holdToRun := false, source := .management, lease := none
    steps := steps, remaining := remaining, abortCause := none }

theorem newOperation_once {i : Nat} {d : Descriptor} {now : Nat} (once : d.holdToRun = false) :
    newOperation i d .management now = begunOp i d (stepsAt (fun _ => .pending) d.steps) d.steps.length := by
  simp [newOperation, begunOp, once, stepsAt]

theorem countP_pending (steps : List StepSpec) : (stepsAt (fun _ => .pending) steps).countP openStep = steps.length := by
  rw [stepsAt, List.countP_map]
  exact List.countP_eq_length.mpr fun _ _ => rfl

/-- What a start comes to (R129 to R134). -/
theorem takeStart_comes {i : Nat} {d : Descriptor} {status : WindowId → StepStatus} {s : State} (run : s.stage = .run)
    (awake : s.ctx.state = .awake) (noHold : s.group.crashHold = none) (room : s.tx.length < 15) (once : d.holdToRun = false)
    (some_ : d.steps ≠ []) (distinct : (d.steps.map (·.window)).Nodup)
    (noCause : ∀ old ∈ s.op.active, old.abortCause = none)
    (comes : ∀ st ∈ d.steps, StepComesTo s.now s st (status st.window)) :
    let u := takeStart i d .management s
    ∃ v, Superseded s v ∧ PassMade status d.steps v u ∧
      u.op = (stepsCome (stepsAt status d.steps) (begunOp i d [] 0) v).op ∧
      u.tx = (stepsCome (stepsAt status d.steps) (begunOp i d [] 0) v).tx := by
  intro u
  let v := abort .superseded s
  have ended : Superseded s v := abort_superseded run (by simp only [Config.txPlaces]; omega) noCause
  have same {α : Type} (f : State → α) (hf : ∀ u, f (lessMotion u) = f u) : f v = f s := same_of_motion ended.rest f hf
  let x : State := { v with op := { v.op with active := some (newOperation i d .management v.now) } }
  have now : x.now = s.now := same State.now fun _ => rfl
  have less : lessMotion x = lessMotion v := rfl
  have length : v.tx.length ≤ s.tx.length + 1 := by
    rw [ended.tx, List.length_append, List.length_map]
    cases supersededOp s <;> simp
  have passed := passMade (status := status) (op := begunOp i d [] 0) (done := []) (rest := d.steps) (s := x) rfl
    ((same State.stage fun _ => rfl).trans run) ((same (fun u => u.ctx.state) fun _ => rfl).trans awake)
    ((same (fun u => u.group.crashHold) fun _ => rfl).trans noHold) (Nat.lt_of_le_of_lt length (Nat.succ_lt_succ room))
    (by
      have pending : stepsPassed status [] d.steps = stepsAt (fun _ => .pending) d.steps := rfl
      rw [pending, countP_pending]
      exact congrArg some (newOperation_once once))
    distinct
    (fun st mem => by
      rw [now]
      exact (ended.comes _ _ _ (comes st mem)).of_motion less rfl)
    (.inl some_)
  obtain ⟨made, op, tx⟩ := passed
  obtain ⟨opSame, txSame⟩ := stepsCome_of_same (steps := stepsAt status d.steps) (op := begunOp i d [] 0) (s := v) (t := x)
    rfl rfl rfl
  exact ⟨v, ended, ⟨made.rest, made.motion, made.others, made.waits⟩, op.trans opSame, tx.trans txSame⟩

theorem issued_iff_open {status : WindowId → StepStatus} {steps : List StepSpec}
    (known : ∀ st ∈ steps, status st.window ≠ .pending) :
    (stepsAt status steps).countP openStep = (issuedOf status steps).length := by
  rw [stepsAt, List.countP_map, issuedOf, ← List.countP_eq_length_filter]
  refine List.countP_congr fun st mem => ?_
  simp [openStep, known st mem]

section
variable {status : WindowId → StepStatus} {steps : List StepSpec} {op : ActiveOp} {s : State}
  (known : ∀ st ∈ steps, status st.window ≠ .pending)
include known

theorem anyOpen_iff : (stepsAt status steps).any openStep = true ↔ issuedOf status steps ≠ [] := by
  rw [← List.length_pos_iff, ← issued_iff_open known, List.countP_pos_iff, List.any_eq_true]

theorem stepsCome_issued (some_ : issuedOf status steps ≠ []) :
    stepsCome (stepsAt status steps) op s =
      { s with op := { s.op with
          active := some { op with steps := stepsAt status steps, remaining := (issuedOf status steps).length } } } := by
  rw [stepsCome, if_pos ((anyOpen_iff known).mpr some_), issued_iff_open known]

theorem stepsCome_ended (none_ : issuedOf status steps = []) :
    stepsCome (stepsAt status steps) op s =
      { s with
        op := { s.op with active := none, lastOp := some (endedOp op none (stepsAt status steps)) }
        tx := s.tx ++ [operationNotice s (endedOp op none (stepsAt status steps))] } :=
  if_neg fun isOpen => (anyOpen_iff known).mp isOpen none_

end

/-- A start whose one step opens a free window that stands below its limit (R131, R132). -/
theorem takeStart_opens {i : Nat} {d : Descriptor} {w : WindowId} {s : State} (run : s.stage = .run)
    (awake : s.ctx.state = .awake) (noHold : s.group.crashHold = none) (room : s.tx.length < Config.txPlaces)
    (once : d.holdToRun = false) (steps : d.steps = [⟨w, .opened⟩]) (absent : s.op.active = none) (free : WindowFree w s)
    (below : (window s w).position < currentLimit s w) (limit : currentLimit s w ≤ (windowCfg s w).travel) :
    ∃ last idle, takeStart i d .management s =
      { waitsFor (stepRequest ⟨w, .opened⟩ s) .down (withActivity last idle s) with
        op := { s.op with active := some (begunOp i d [⟨w, .opened, .issued⟩] 1) } } := by
  let op := begunOp i d [⟨w, .opened, .pending⟩] 1
  let x : State := { s with op := { s.op with active := some op } }
  have due : StepDue ⟨w, .opened⟩ op x :=
    ⟨run, awake, room, rfl, List.nodup_singleton _, rfl, rfl, noHold, List.mem_singleton.mpr rfl⟩
  have down : stepDirection ⟨w, .opened⟩ x = .down := by
    refine if_neg (show ¬((windowCfg s w).travel = 0 ∨ (windowCfg s w).travel < (window s w).position) from ?_)
    omega
  have moves : LeftToMove (stepDirection ⟨w, .opened⟩ x) (min (stepTarget ⟨w, .opened⟩ x) (currentLimit x w))
      (window x w).position := .inl ⟨down, show (window s w).position < min (windowCfg s w).travel (currentLimit s w) by omega⟩
  obtain ⟨last, idle, issued⟩ := issueStep_issued due (free.of_same rfl rfl rfl) moves
  have marked : stepsMarked w .issued op.steps = [⟨w, .opened, .issued⟩] := by
    simp [stepsMarked, op, begunOp, openStep]
  have starts : takeStart i d .management s = issueStep .management ⟨w, .opened⟩ x := by
    rw [takeStart, abort_none _ absent, newOperation_once once, steps]
    rfl
  refine ⟨last, idle, ?_⟩
  rw [starts, issued, marked, down]
  rfl

/-- Settles O36. -/
theorem operationStartIsCheckedAndIssued : Obligations.OperationStartIsCheckedAndIssued := by
  intro s dt code d alert room four
  let v : State := setMask none (elapse dt s)
  refine ⟨fun outside => ?_, fun found => ?_, fun w op outcome status out mem => ?_⟩
  · have served : serveRequest (.operationStart code.toNat) v = reply .range v := if_neg (by omega)
    exact answersActive_replied (r := .request (.operationStart code.toNat)) rfl alert (by simp) served alert room
  · intro result
    have inside : code.toNat ≤ 3 := by
      have := (List.getElem?_eq_some_iff.mp found).1
      omega
    have served : serveRequest (.operationStart code.toNat) v = reply .ok (decided code.toNat d (crashTest (activity v))) :=
      (if_pos inside).trans (congrArg (reply .ok) (startOperation_run (s := v) found alert.run))
    have answers {op : OpEngine} (effect : ∀ last idle, decided code.toNat d (crashTest (begun dt last idle s)) =
        { begun dt last idle s with op := op }) :
        AnswersActive (.operationStart dt code) s (replied dt 0x07 .ok [] { s with op := op }) :=
      answers_afterActivity (kind := .operationStart code.toNat) (effect := fun t => decided code.toNat d (crashTest t))
        rfl alert served effect (alert.of_same rfl rfl rfl rfl rfl rfl) room
    have starts (free : s.group.crashHold = none) (on : d.enabled = true) (once : d.holdToRun = false) : ∃ last idle,
        decided code.toNat d (crashTest (activity v)) =
          takeStart code.toNat d .management { begun dt last idle s with op := result .started } := by
      obtain ⟨last, idle, active⟩ := activity_eq v
      have begins : activity v = begun dt last idle s := active
      refine ⟨last, idle, ?_⟩
      rw [begins, crashTest_free (s := begun dt last idle s) free]
      exact decided_started (s := begun dt last idle s) free on once
    refine ⟨fun hold absent => answers fun last idle => ?_, fun free off => answers fun last idle => ?_,
      fun free on hold => answers fun last idle => ?_, ?_, ?_⟩
    · have tested : crashTest (begun dt last idle s) = begun dt last idle s :=
        (if_pos hold).trans (abort_none _ absent)
      rw [tested]
      exact decided_hold (s := begun dt last idle s) hold
    · rw [crashTest_free (s := begun dt last idle s) free]
      exact decided_disabled (s := begun dt last idle s) free off
    · rw [crashTest_free (s := begun dt last idle s) free]
      exact decided_holdRequired (s := begun dt last idle s) free on hold
    · intro w free on once steps absent able below limit
      obtain ⟨last, idle, effect⟩ := starts free on once
      let b : State := { begun dt last idle s with op := result .started }
      obtain ⟨last', idle', started⟩ := takeStart_opens (i := code.toNat) (s := b) alert.run alert.awake free room once steps absent
        (able.of_same rfl rfl rfl) below limit
      rw [effect, started] at served
      refine answersActive_agreeing (r := .request (.operationStart code.toNat)) rfl alert (by simp) served ?_
        (alert.of_same rfl rfl rfl rfl rfl rfl) room
      have target : requestedOf (stepRequest ⟨w, .opened⟩ b) (withActivity last' idle' b) = (windowCfg s w).travel :=
        requestedOf_step ⟨w, .opened⟩ b
      simp only [waitsFor, accepted, target]
      rfl
    · intro status free on once some_ distinct short noCause comes steps issued taken superseded complete
      obtain ⟨last, idle, effect⟩ := starts free on once
      let b : State := { begun dt last idle s with op := result .started }
      let x := takeStart code.toNat d .management b
      obtain ⟨t, ended, made, op, tx⟩ := takeStart_comes (i := code.toNat) (s := b) (status := status) alert.run alert.awake free
        (Nat.lt_trans short (by simp)) once some_ distinct noCause
        (fun st mem => (comes st mem).of_same rfl rfl rfl rfl rfl)
      have rest : lessMotion x = lessMotion v := made.rest.trans ended.rest
      have next := exec_alert (i := .operationStart dt code) (r := .request (.operationStart code.toNat)) (x := reply .ok x)
        rfl alert.run (by simp) (served.trans (congrArg (reply .ok) effect)) ((alert.of_same rfl rfl rfl rfl rfl rfl : Alert v).of_motion rest)
      have known : ∀ st ∈ d.steps, status st.window ≠ .pending := by
        intro st mem
        rcases comes st mem with ⟨h, _⟩ | ⟨h, _⟩ | ⟨h, _⟩ <;> rw [h] <;> simp
      have opOpen (h : issued ≠ []) : x.op = { t.op with active := some taken } := by
        rw [op, stepsCome_issued known h]
        rfl
      have opEnded (h : issued = []) : x.op = { t.op with active := none, lastOp := some complete } := by
        rw [op, stepsCome_ended known h]
        rfl
      have length : t.tx.length ≤ s.tx.length + 1 := by
        rw [ended.tx, List.length_append, List.length_map]
        exact Nat.add_le_add_left (Option.length_toList_le ..) _
      have queue : x.tx = t.tx ++ if issued = [] then [operationNotice t complete] else [] := by
        by_cases h : issued = []
        · rw [tx, stepsCome_ended known h, if_pos h]
          rfl
        · rw [tx, stepsCome_issued known h, if_neg h, List.append_nil]
      have joined : (activity (responded (.request (.operationStart code.toNat)) (reply .ok x))).tx =
          x.tx ++ [responseFrame x 0x07 .ok []] := by
        rw [(activity_agreesWith _).eq]
        have places : x.tx.length < Config.txPlaces := by
          rw [queue, List.length_append]
          split <;> simp [Config.txPlaces] <;> omega
        exact congrArg State.tx (offer_response rfl places)
      have lastStart : x.op.lastStart = (result .started).lastStart := by
        have kept : t.op.lastStart = (result .started).lastStart := by rw [ended.op]
        by_cases h : issued = []
        · rw [opEnded h, ← kept]
        · rw [opOpen h, ← kept]
      have opLast {α : Type} (f : OpEngine → α) :
          f (activity (responded (.request (.operationStart code.toNat)) (reply .ok x))).op = f x.op :=
        responded_active (fun u => f u.op) (fun _ => rfl) (fun _ _ _ => rfl) _ _
      have windows (w : WindowId) :
          window (activity (responded (.request (.operationStart code.toNat)) (reply .ok x))) w = window x w :=
        responded_active (fun u => window u w) (fun _ => rfl) (fun _ _ _ => rfl) _ _
      have kept {α : Type} (f : State → α) (hf : ∀ u, f (lessMotion u) = f u) (hg : ∀ u, f (lessTraffic u) = f u)
          (ha : ∀ last idle u, f (withActivity last idle u) = f u) :
          f (activity (responded (.request (.operationStart code.toNat)) (reply .ok x))) = f v :=
        (responded_active f hg ha _ _).trans (same_of_motion rest f hf)
      refine ⟨_, next, ?_, fun some_ => ⟨?_, ?_⟩, fun none_ => ⟨?_, ?_⟩, ?_, ?_, fun absent => ⟨?_, fun w other => ?_⟩, ?_,
        kept State.group (fun _ => rfl) (fun _ => rfl) fun _ _ _ => rfl,
        kept State.closures (fun _ => rfl) (fun _ => rfl) fun _ _ _ => rfl,
        kept State.cfg (fun _ => rfl) (fun _ => rfl) fun _ _ _ => rfl⟩
      · exact (opLast OpEngine.lastStart).trans lastStart
      · rw [opLast OpEngine.active, opOpen some_]
      · rw [opLast OpEngine.lastOp, opOpen some_, ended.op]
        rfl
      · rw [opLast OpEngine.active, opEnded none_]
      · rw [opLast OpEngine.lastOp, opEnded none_]
      · have mgmt : t.mgmt = v.mgmt := same_of_motion ended.rest State.mgmt fun _ => rfl
        have mgmt' : x.mgmt = v.mgmt := same_of_motion rest State.mgmt fun _ => rfl
        rw [joined, queue, ended.tx]
        simp only [operationNotice, responseFrame, responseId, mgmt, mgmt', List.append_assoc]
        rfl
      · intro st mem
        dsimp only
        rw [windows]
        have free : WindowFree st.window s := by
          have status := of_decide_eq_true (List.mem_filter.mp mem).2
          rcases comes st (List.mem_of_mem_filter mem) with ⟨_, free, _⟩ | ⟨h, _⟩ | ⟨h, _⟩
          · exact free
          · cases status.symm.trans h
          · cases status.symm.trans h
        have same : window t st.window = window b st.window := by
          refine ended.others _ fun own => ?_
          have origin : (window b st.window).origin = none := free.noOrigin
          rw [EnginesOwn, origin] at own
          cases own.1
        have cfg : t.cfg = b.cfg := same_of_motion ended.rest State.cfg fun _ => rfl
        have record := made.waits st mem
        rw [StepWaits, stepDirection_of_same cfg same, stepTarget_of_same cfg, same] at record
        exact record
      · rw [responded_active State.motion (fun _ => rfl) fun _ _ _ => rfl]
        have same : t = b := ended.none_ absent
        rw [same] at made
        exact made.motion
      · rw [windows, made.others w other, ended.none_ absent]
        rfl
      · intro old active y mem isOpen origin out other
        have stopped := ended.old old active y mem isOpen 
          ⟨by rcases origin with h | h <;> exact (congrArg operationOrigin h).trans rfl, out.imp_right Or.inr⟩
        have record : window (activity (responded (.request (.operationStart code.toNat)) (reply .ok x))) y.window =
            window t y.window := (windows _).trans (made.others _ other)
        rw [record]
        exact ⟨stopped.idle, stopped.outcome⟩
  · have becomes : outcomeStatus outcome = some status ∧ status ≠ .pinched := by
      fin_cases mem <;> exact ⟨rfl, by simp⟩
    exact endMotion_step alert.run room out becomes.1 becomes.2

end Sys2Proof.Machine
end

section
/-!
PROOFS. Start-up, power loss and restart (R196, R204, R207, R209 to R213).
-/

namespace Sys2Proof.Machine

/-- Before RUN no fault notice goes out (R205). -/
theorem raise_before_run {cls : FaultClass} {who : Option Closure} {s : State} (h : s.stage ≠ .run) :
    raise cls who s = countFault cls who s := by
  have silent (f : TxFrame) (kind : f.kind ≠ .response) : offer f (countFault cls who s) = countFault cls who s := by
    have stage : (countFault cls who s).stage = s.stage := rfl
    cases f
    simp_all [offer, txTakes, running]
  unfold raise raiseWith
  dsimp only
  split
  · rfl
  · exact silent _ (by simp [faultNotice])

/-- A good image is loaded as it is. -/
theorem loadStage_good {kind : ResetKind} {tables image : Tables} {s t : State} (good : s.store.image = .good image) :
    loadStage kind tables s t =
      { t with
        stage := .load, draws := s.draws, cfg := tables
        mgmt := ⟨⟨0, 0, 0⟩, none, formBase tables.ids s.strapPins, s.strapPins, kind⟩
        store := { t.store with blankAtLoad := false } } := by
  simp [loadStage, readImage, drawsAfter, good]

/-- A bad image raises STORE_BLANK (R207). -/
theorem loadStage_bad {kind : ResetKind} {tables : Tables} {s t : State} (bad : s.store.image = .bad) :
    loadStage kind tables s t =
      countFault .storeBlank none
        { t with
          stage := .load, draws := s.draws, cfg := tables
          mgmt := ⟨⟨0, 0, 0⟩, none, formBase tables.ids s.strapPins, s.strapPins, kind⟩
          store := { t.store with blankAtLoad := true } } := by
  have blank : readImage s = none := by rw [readImage, bad]
  have draws : drawsAfter s = s.draws := by rw [drawsAfter, bad]
  rw [← raise_before_run (by simp), loadStage, blank, draws]
  rfl

theorem loadedTables_good {s : State} {image : Tables} (good : s.store.image = .good image) :
    loadedTables s = loadTables s.store.lockCell image := by
  rw [loadedTables, readImage, good]
  rfl

theorem loadedTables_bad {s : State} (bad : s.store.image = .bad) :
    loadedTables s = loadTables s.store.lockCell .factory := by
  rw [loadedTables, readImage, bad]
  rfl

/-- Settles O38. -/
theorem powerOnBeginsLoad : Obligations.PowerOnBeginsLoad := by
  intro s dt a b c started
  let v : State := { elapse dt s with strapPins := ⟨a, b, c⟩ }
  have starts : exec (.powerOn dt a b c) s = .next (loadStage .powerOn (loadedTables v) v
      { cold v with windows := (loadedTables v).windows.mapWith fun _ p => .reset p.travel v.now }) := rfl
  have ignition : ignitionOf s.pins.ign = if s.pins.ign = .high then .run else .off := by
    cases s.pins.ign <;> rfl
  refine ⟨fun t good => ?_, fun bad => ?_⟩
  · rw [starts, loadStage_good (s := v) good, loadedTables_good (s := v) good]
    simp only [started, ← ignition]
    rfl
  · rw [starts, loadStage_bad (s := v) bad, loadedTables_bad (s := v) bad]
    simp only [started, ← ignition]
    rfl

/-! ## Power loss (R209) -/

/-- Settles O41. -/
theorem powerLossLeavesTheImage : Obligations.PowerLossLeavesTheImage := by
  intro s dt extent supplied
  let v : State := { elapse dt s with store := { s.store with image := tornImage extent s.store } }
  have next : exec (.powerLoss dt extent) s = .next (cold v) := by
    have ends : exec (.powerLoss dt extent) s =
        perform dt (fun t => cold { t with store := { t.store with image := tornImage extent t.store } }) s := rfl
    rw [ends, perform_supplied dt _ supplied]
    exact congrArg Host.Outcome.next (finish_before_run _ (by simp [cold]))
  refine ⟨_, next, rfl, rfl, rfl, rfl, rfl, rfl, rfl, fun w => ?_, ?_⟩
  · cases w <;> rfl
  · change tornImage extent s.store = _
    unfold tornImage
    cases s.store.snapshot <;> cases extent <;> rfl

/-! ## LISTEN and POLL (R211, R212) -/

theorem setWindow_window (w : WindowId) (s : State) : setWindow w (window s w) s = s := by
  simp [setWindow, window]

/-- No motor has run, and no slot is held: what a start finds. -/
structure MotorsStill (s : State) : Prop where
  windows : ∀ w, (window s w).lastDrive = .stop ∧ (window s w).coast = none ∧ (window s w).stopDue = false
  slots : s.motion.slots = []

/-- A STOP drive changes nothing while the motors are still. -/
theorem sentMotor_still (c : Closure) {s : State} (still : MotorsStill s) : sentMotor c .stop s = s := by
  unfold sentMotor
  split
  · rfl
  · next w _ =>
    obtain ⟨drive, coast, stopDue⟩ := still.windows w
    have record : drivenRecord s.now .stop (window s w) = window s w := by
      have same : window s w = { window s w with coast := none, lastDrive := .stop, stopDue := false } := by
        rw [← drive, ← coast, ← stopDue]
      rw [same]
      rfl
    have freed : freeEnded w s.motion.slots = s.motion.slots := by
      rw [still.slots]
      rfl
    rw [record, setWindow_window]
    simp only [beq_self_eq_true, if_true, freed]

/-- A channel whose first drive has gone out in POLL. -/
def polledChannel (now : Nat) (ch : Channel) : Channel :=
  { ch with rate := .fast, answered := false, cycleEnd := some (now + 10), drive := some [0, 0, 0, 0, 0] }

theorem rateChosen_poll {c : Closure} {s : State} (poll : s.stage = .poll) (still : MotorsStill s)
    (off : (channel s c).rate = .off) : rateChosen s c = setChannel c (polledChannel s.now (channel s c)) s := by
  let t := setChannel c { channel s c with rate := .fast } s
  have on : running t = false := by simp [running, t, poll]
  have starts : rateChosen s c = sendDrive c t := by
    simp [rateChosen, setRate, chosenRate, poll, off, t]
  have drive : driveBytes (buildDrive t c) = [0, 0, 0, 0, 0] := by
    simp only [buildDrive, driveLamps, on, Bool.false_eq_true, if_false, Bool.false_and]
    decide
  have motor : (buildDrive t c).motor = .stop := by
    simp only [buildDrive, on]
    rfl
  have noted : noteSent c (buildDrive t c) t = t := by
    rw [noteSent, on, motor]
    exact sentMotor_still c (s := t) ⟨still.windows, still.slots⟩
  rw [starts, sendDrive, noted, drive]
  simp [t, polledChannel, channel, setChannel, period, Config.fastPeriod]

theorem foldl_rateChosen_poll {l : List Closure} (distinct : l.Nodup) {s : State} (poll : s.stage = .poll)
    (still : MotorsStill s) (off : ∀ c ∈ l, (channel s c).rate = .off) :
    l.foldl rateChosen s =
      { s with channels := l.foldl (fun chs c => chs.set c (polledChannel s.now (chs.get c))) s.channels } := by
  induction l generalizing s with
  | nil => rfl
  | cons c l ih =>
    obtain ⟨fresh, distinct⟩ := List.nodup_cons.mp distinct
    rw [List.foldl_cons, rateChosen_poll poll still (off c (List.mem_cons_self ..)),
      ih (s := setChannel c (polledChannel s.now (channel s c)) s) distinct poll ⟨still.windows, still.slots⟩ fun d mem => ?_]
    · rfl
    · have other : d ≠ c := fun same => fresh (same ▸ mem)
      have kept : channel (setChannel c (polledChannel s.now (channel s c)) s) d = channel s d :=
        channel_setChannel_other other _ s
      rw [kept]
      exact off d (List.mem_cons_of_mem _ mem)

/-- Settles O39. -/
theorem listenAndPollBegin : Obligations.ListenAndPollBegin := by
  intro s dt
  refine ⟨fun load edges => ?_, fun d listen deadline off motors slots => ?_⟩
  · let v : State := elapse dt s
    have quiet (l : List WakeLine) (t : State) (lines : t.cfg.lines = s.cfg.lines) :
        l.foldl (fun u x => judgeLevel x u) t = t := by
      induction l with
      | nil => rfl
      | cons x l ih =>
        have unmet : judgeLevel x t = t := by
          refine judgeLevel_unmet (.inl ?_)
          rcases edges x with h | h <;> rw [lines, h] <;> rfl
        rw [List.foldl_cons, unmet, ih]
    let u : State :=
      { v with
        stage := .listen, listenEnd := some (s.now + dt + 100)
        lines := s.pins.mapWith fun l level => { s.lines.get l with level := level }
        ctx := { s.ctx with ignition := ignitionOf s.pins.ign } }
    have listens : beginListen v = u := quiet allLines u rfl
    have begins : exec (.loadComplete dt) s = .next u := by
      have meaning : exec (.loadComplete dt) s = perform dt (fun t => if t.stage = .load then beginListen t else t) s := rfl
      rw [meaning, perform_supplied dt _ (by simp [load]), if_pos (show (elapse dt s).stage = .load from load), listens,
        finish_before_run _ (by simp [u])]
    have ignition : ignitionOf s.pins.ign = if s.pins.ign = .high then .run else .off := by
      cases s.pins.ign <;> rfl
    rw [begins, ← ignition]
    rfl
  · let v : State := { reach d (elapse dt s) with stage := .poll, listenEnd := none }
    have begins : exec (.listenEnd dt) s = .next (chooseRates v) := by
      have meaning : exec (.listenEnd dt) s = perform dt (fun t => atDeadline t.listenEnd beginPoll t) s := rfl
      have taken : atDeadline (elapse dt s).listenEnd beginPoll (elapse dt s) = chooseRates v := by
        rw [elapse_listenEnd, deadline]
        rfl
      have stage : (chooseRates v).stage ≠ .run := by
        rw [(chooseRates_sent v).stage]
        simp [v]
      rw [meaning, perform_supplied dt _ (by simp [listen]), taken, finish_before_run _ stage]
    rw [begins, chooseRates_fold, foldl_rateChosen_poll (s := v) (by decide) rfl ⟨motors, slots⟩ fun c _ => off c]
    rfl

end Sys2Proof.Machine
end

section
/-!
PROOFS. The report that completes POLL (R28, R168, R212, R213).
-/

namespace Sys2Proof.Machine

/-- What the end of POLL is judged by, and what stands ready for the entry into RUN. -/
def startView (s : State) :=
  (s.stage, s.pins, s.group.crashKept, s.group.inFlight, s.group.slot,
    fun d => ((channel s d).firstSense, (channel s d).link))

section
variable (s : State)

theorem startView_of_motion {s t : State} (h : lessMotion t = lessMotion s) : startView t = startView s :=
  same_of_motion h startView fun _ => rfl

theorem startView_of_traffic {s t : State} (h : lessTraffic t = lessTraffic s) : startView t = startView s :=
  startView_of_motion (lessMotion_of_traffic h)

@[simp] theorem startView_setWindow (w : WindowId) (x : Window) : startView (setWindow w x s) = startView s := rfl

@[simp] theorem startView_setClosure (c : Closure) (k : ClosureLock) : startView (setClosure c k s) = startView s := rfl

@[simp] theorem startView_setChild (d : RearDoor) (k : ChildLock) : startView (setChild d k s) = startView s := rfl

@[simp] theorem startView_endMotion (w : WindowId) (outcome : MotionOutcome) :
    startView (endMotion w outcome s) = startView s := startView_of_motion (endMotion_lessMotion s w outcome)

@[simp] theorem startView_activity : startView (activity s) = startView s := startView_of_motion (activity_lessMotion s)

@[simp] theorem startView_endIfReached (w : WindowId) : startView (endIfReached w s) = startView s := by
  unfold endIfReached
  dsimp only
  split <;> simp

@[simp] theorem startView_endRunning (w : WindowId) (outcome : Option MotionOutcome) :
    startView (endRunning w outcome s) = startView s := rfl

@[simp] theorem startView_takePinch (w : WindowId) (cause : PinchCause) (zone current : Nat) :
    startView (takePinch w cause zone current s) = startView s := by
  unfold takePinch
  dsimp only
  refine (startView_of_traffic (raiseWith_rest ..)).trans ?_
  unfold handOutcome
  split
  · split
    · exact startView_of_motion (handStatus_lessMotion ..)
    · rfl
  · rfl

@[simp] theorem startView_endStop (w : WindowId) : startView (endStop w s) = startView s := by
  unfold endStop
  dsimp only
  rw [startView_endMotion]
  split <;> rfl

@[simp] theorem startView_carryOut (w : WindowId) (zone current : Nat) (decision : Decision) :
    startView (carryOut w zone current decision s) = startView s := by
  cases decision <;> simp [carryOut]

@[simp] theorem startView_closingReport (w : WindowId) (d i : Nat) : startView (closingReport w d i s) = startView s := by
  unfold closingReport
  dsimp only
  rw [startView_endIfReached]
  generalize (if d = 0 then _ else _ : Window) = x
  split <;> simp

@[simp] theorem startView_openingReport (w : WindowId) (d : Nat) : startView (openingReport w d s) = startView s := by
  unfold openingReport
  dsimp only
  split <;> simp

@[simp] theorem startView_reversalReport (w : WindowId) (d : Nat) : startView (reversalReport w d s) = startView s := by
  unfold reversalReport
  dsimp only
  split <;> simp

@[simp] theorem startView_coastReport (w : WindowId) (dir : Direction) (d : Nat) :
    startView (coastReport w dir d s) = startView s := rfl

/-- The motor data of a report. -/
@[simp] theorem startView_motorData (w : WindowId) (d i : Nat) : startView (motorData w d i s) = startView s := by
  unfold motorData
  dsimp only
  split
  · split <;> simp
  · split
    · split <;> simp
    · simp
  · split <;> simp

@[simp] theorem startView_windowReport (w : WindowId) (rep : Report) : startView (windowReport w rep s) = startView s := by
  simp [windowReport]

@[simp] theorem startView_dropRetained : startView (dropRetained s) = startView s := by
  have ends (l : List WindowId) (u : State) : startView (l.foldl (fun t w =>
      if (window t w).held && switchOrigin (window t w).origin &&
        ((window t w).state == .waiting || inMotion (window t w)) then endMotion w .released t else t) u) =
      startView u := by
    induction l generalizing u with
    | nil => rfl
    | cons w l ih =>
      rw [List.foldl_cons, ih]
      split <;> simp
  unfold dropRetained
  dsimp only
  split
  · split
    · exact (ends allWindows _).trans rfl
    · rfl
  · rfl

variable (notRun : running s = false)
include notRun

theorem wake_before_run (cause : WakeCause) : wake cause s = s := by simp [wake, notRun]

/-- The latch and lock fields of a report before RUN (R1; log entry 20). -/
theorem startView_lockReport (c : Closure) (rep : Report) (recovery : Bool) :
    startView (lockReport c rep recovery s) = startView s := by
  have changed (old new : Latch) (u : State) (off : running u = false) : startView (latchChanged c old new u) = startView u := by
    have still (v : State) (h : startView v = startView u) :
        startView (if (old == .shut && new == .ajar) = true then wake .latch v else v) = startView u := by
      split
      · rw [wake_before_run v, h]
        have stage : v.stage = u.stage := congrArg Prod.fst h
        simpa [running, stage] using off
      · exact h
    unfold latchChanged
    dsimp only
    split
    · rfl
    · refine still _ ?_
      rw [apply_ite startView]
      have recomputed (v : State) : startView (recomputeIdle v) = startView v := rfl
      rw [recomputed, ite_self, apply_ite startView, startView_activity, ite_self, apply_ite startView, apply_ite startView,
        startView_dropRetained, ite_self]
      split <;> rfl
  unfold lockReport
  dsimp only
  exact (changed _ _ (setClosure c _ s) notRun).trans rfl

end

/-! ## A good report in POLL -/

/-- A good report, but for the judgement whether it ends POLL. -/
def reportRecorded (c : Closure) (rep : Report) (s : State) : State :=
  let ch := channel s c
  let awake := isAwake s
  let recovery := nodeLost s c
  let old := if ch.comparable then ch.lastReport else none
  let s := recoverNode c (setChannel c (countGood rep ch) s)
  let s := takeMotor c rep (takeLocks c rep recovery s)
  let s := takeEdges c old rep (takeFaults c old rep s)
  let s := takeUplink c rep (handleEvents c rep s)
  followGroup (setChannel c (recordReport rep awake (channel s c)) s)

theorem goodReport_eq (c : Closure) (rep : Report) (s : State) :
    goodReport c rep s = pollCheck (reportRecorded c rep s) := rfl

/-- The view with the channel's first report and its link. -/
def viewReported (c : Closure) (first : Option (LockSensed × ChildSensed)) (s : State) :=
  (s.stage, s.pins, s.group.crashKept, s.group.inFlight, s.group.slot,
    fun d => if d = c then (first, LinkState.present) else ((channel s d).firstSense, (channel s d).link))

section
variable {c : Closure} {rep : Report} {s t : State}

theorem startView_eq (h : startView t = startView s) : t.stage = s.stage ∧ t.pins = s.pins ∧
    t.group.crashKept = s.group.crashKept ∧ t.group.inFlight = s.group.inFlight ∧ t.group.slot = s.group.slot ∧
    ∀ d, (channel t d).firstSense = (channel s d).firstSense ∧ (channel t d).link = (channel s d).link := by
  simp only [startView, Prod.mk.injEq] at h
  obtain ⟨stage, pins, kept, flight, slot, channels⟩ := h
  exact ⟨stage, pins, kept, flight, slot, fun d => by simpa using congrFun channels d⟩

variable (notRun : running s = false) (noFlight : s.group.inFlight = none) (noSlot : s.group.slot = none)
include notRun noFlight noSlot

theorem startView_takeLocks (recovery : Bool) : startView (takeLocks c rep recovery s) = startView s := by
  have locks := startView_lockReport s notRun c rep recovery
  have idle (u : State) (view : startView u = startView s) : startView (followGroup u) = startView s := by
    obtain ⟨_, _, _, flight, slot, _⟩ := startView_eq view
    rw [followGroup_still (flight.trans noFlight) (slot.trans noSlot)]
    exact view
  unfold takeLocks
  dsimp only
  split
  · exact idle _ ((startView_setChild ..).trans locks)
  · exact idle _ locks

omit noFlight noSlot

omit notRun in
theorem startView_takeMotor : startView (takeMotor c rep s) = startView s := by
  unfold takeMotor
  split <;> simp

theorem startView_takeFaults (old : Option Report) : startView (takeFaults c old rep s) = startView s := by
  unfold takeFaults windowOvertemp
  simp only [notRun, Bool.false_and, Bool.false_eq_true, if_false]
  split
  · split <;> simp
  · rfl

theorem startView_takeEdges (old : Option Report) : startView (takeEdges c old rep s) = startView s := by
  have cleared : startView (match closureWindow c with | some w => clearSuppressed w rep.ownSwitch s | none => s) =
      startView s := by
    unfold clearSuppressed
    split
    · split <;> simp
    · rfl
  unfold takeEdges
  simp only [notRun, Bool.false_eq_true, if_false]
  cases old <;> exact cleared

theorem handleEvents_before_run : handleEvents c rep s = s := by simp [handleEvents, notRun]

theorem takeUplink_before_run : takeUplink c rep s = s := by
  unfold takeUplink
  split
  · exact if_neg (by simp [notRun])
  · rfl

end

/-- The state with the first report of a channel counted, its node recovered where it was LOST. -/
structure FirstCounted (c : Closure) (rep : Report) (s t : State) : Prop where
  stage : t.stage = s.stage
  pins : t.pins = s.pins
  crashKept : t.group.crashKept = s.group.crashKept
  inFlight : t.group.inFlight = s.group.inFlight
  slot : t.group.slot = s.group.slot
  first : (channel t c).firstSense = some ((channel s c).firstSense.getD (rep.lockSensed, rep.childSensed))
  others : ∀ d, d ≠ c → (channel t d).firstSense = (channel s d).firstSense ∧ (channel t d).link = (channel s d).link

namespace FirstCounted

variable {c : Closure} {rep : Report} {s t u : State}

theorem of_view (h : FirstCounted c rep s t) (view : startView u = startView t) : FirstCounted c rep s u := by
  obtain ⟨stage, pins, kept, flight, slot, channels⟩ := startView_eq view
  exact ⟨stage.trans h.stage, pins.trans h.pins, kept.trans h.crashKept, flight.trans h.inFlight, slot.trans h.slot,
    (channels c).1.trans h.first, fun d other => ⟨(channels d).1.trans (h.others d other).1, (channels d).2.trans (h.others d other).2⟩⟩

/-- A write of the channel that leaves its first report. -/
theorem of_channel (h : FirstCounted c rep s t) {ch : Channel} (first : ch.firstSense = (channel t c).firstSense) :
    FirstCounted c rep s (setChannel c ch t) := by
  refine ⟨h.stage, h.pins, h.crashKept, h.inFlight, h.slot, ?_, fun d other => ?_⟩
  · rw [channel_setChannel, first, h.first]
  · rw [channel_setChannel_other other]
    exact h.others d other

end FirstCounted

section
variable {c : Closure} {rep : Report} {s : State}

theorem firstCounted_counted : FirstCounted c rep s (setChannel c (countGood rep (channel s c)) s) := by
  refine ⟨rfl, rfl, rfl, rfl, rfl, ?_, fun d other => ?_⟩
  · rw [channel_setChannel]
    cases h : (channel s c).firstSense <;> simp [countGood, h]
  · rw [channel_setChannel_other other]
    exact ⟨rfl, rfl⟩

theorem FirstCounted.recovered {t : State} (h : FirstCounted c rep s t) : FirstCounted c rep s (recoverNode c t) := by
  have present := h.of_channel (ch := { channel t c with link := .present }) rfl
  unfold recoverNode windowRecovered
  dsimp only
  split
  · split
    · exact present.of_view (startView_setWindow ..)
    · exact present
  · exact h

/-- A good report in POLL keeps the channel's first report and prepares nothing. -/
theorem firstCounted_recorded (poll : s.stage = .poll) (noFlight : s.group.inFlight = none) (noSlot : s.group.slot = none) :
    FirstCounted c rep s (reportRecorded c rep s) := by
  have off {t : State} (h : FirstCounted c rep s t) : running t = false := by simp [running, h.stage, poll]
  have flight {t : State} (h : FirstCounted c rep s t) : t.group.inFlight = none := h.inFlight.trans noFlight
  have slot {t : State} (h : FirstCounted c rep s t) : t.group.slot = none := h.slot.trans noSlot
  have recovered := (firstCounted_counted (c := c) (rep := rep) (s := s)).recovered
  unfold reportRecorded
  dsimp only
  have locks := recovered.of_view (startView_takeLocks (rep := rep) (c := c) (off recovered) (flight recovered) (slot recovered) (nodeLost s c))
  have motor := locks.of_view (startView_takeMotor (c := c) (rep := rep))
  have faults := motor.of_view (startView_takeFaults (c := c) (rep := rep) (off motor)
    (if (channel s c).comparable then (channel s c).lastReport else none))
  have edges := faults.of_view (startView_takeEdges (c := c) (rep := rep) (off faults)
    (if (channel s c).comparable then (channel s c).lastReport else none))
  rw [handleEvents_before_run (off edges), takeUplink_before_run (off edges)]
  have recorded := edges.of_channel (ch := recordReport rep (isAwake s) (channel _ c)) rfl
  rw [followGroup_still (flight recorded) (slot recorded)]
  exact recorded

end

/-! ## The entry into RUN (R212, R213) -/

/-- The part in RUN, before its activity is noted. -/
def runBegun (s : State) : State :=
  { s with stage := .run, ctx := { s.ctx with state := .awake, ignition := ignitionOf s.pins.ign, lastWake := none } }

/-- The part in RUN, before the rates are chosen. -/
def runEntered (s : State) : State := clearReported (activity (runBegun s))

/-- Any field but the activity and reported since AWAKE. -/
theorem runEntered_same {α : Type} (f : State → α) (hf : ∀ u, f (lessMotion u) = f u)
    (hr : ∀ u, f (clearReported u) = f u) (s : State) : f (runEntered s) = f (runBegun s) :=
  (hr _).trans (same_of_motion (activity_lessMotion _) f hf)

/-- The end of the entry into RUN: a kept crash unlock, and the STARTED notice (R19, R213). -/
def runAnnounced (s : State) : State :=
  let s := if s.group.crashKept then takeCrash { s with group := { s.group with crashKept := false } } else s
  offerNotice (startedNotice s) s

theorem enterRun_eq (s : State) :
    enterRun s = runAnnounced (startStatus (idleForcedOff (chooseRates (runEntered s)))) := by
  unfold enterRun runAnnounced runEntered runBegun
  dsimp only

theorem runAnnounced_same {α : Type} (f : State → α) (hf : ∀ u, f (lessMotion u) = f u) {s : State}
    (noKept : s.group.crashKept = false) : f (runAnnounced s) = f s := by
  unfold runAnnounced
  simp only [noKept, Bool.false_eq_true, if_false]
  exact same_of_motion (offerNotice_lessMotion s _) f hf

theorem startStatus_same {α : Type} (f : State → α) (hf : ∀ u, f (lessTraffic u) = f u)
    (hn : ∀ (u : State) next, f { u with nextStatus := next } = f u) (s : State) : f (startStatus s) = f s :=
  (offerPages_same f hf _).trans (hn s _)

/-- What the entry into RUN adds to the choice of the rates leaves all but the windows, the status period and the
traffic. -/
theorem enterRun_same {α : Type} (f : State → α) (hf : ∀ u, f (lessMotion u) = f u)
    (hn : ∀ (u : State) next, f { u with nextStatus := next } = f u) {s : State} (noKept : s.group.crashKept = false) :
    f (enterRun s) = f (chooseRates (runEntered s)) := by
  have rest (u : State) : f (startStatus (idleForcedOff u)) = f u := by
    rw [startStatus_same f (fun v => ?_) hn]
    · exact same_of_motion (s := u) (t := idleForcedOff u) rfl f hf
    · rw [← hf (lessTraffic v), ← hf v]
      rfl
  have kept : (startStatus (idleForcedOff (chooseRates (runEntered s)))).group.crashKept = false := by
    have before : (runEntered s).group.crashKept = s.group.crashKept :=
      runEntered_same (fun u => u.group.crashKept) (fun _ => rfl) (fun _ => rfl) s
    have chosen : (chooseRates (runEntered s)).group.crashKept = (runEntered s).group.crashKept :=
      (chooseRates_sent (runEntered s)).same (fun u => u.group.crashKept) fun _ => rfl
    have idle (u : State) : (startStatus (idleForcedOff u)).group.crashKept = u.group.crashKept :=
      startStatus_same (fun u => u.group.crashKept) (fun _ => rfl) (fun _ _ => rfl) _
    rw [idle, chosen, before, noKept]
  rw [enterRun_eq, runAnnounced_same f hf kept, rest]

/-! ## The report that completes POLL -/

/-- The close of a step of an AWAKE part whose ignition is in RUN. -/
theorem finish_ignition {b s : State} (run : s.stage = .run) (awake : s.ctx.state = .awake) (on : s.ctx.ignition = .run) :
    finish b s = chooseRates (closeHold b s) := by
  have agrees := closeHold_agrees b s
  have state : (closeHold b s).ctx.state = .awake := (agrees.same (fun u => u.ctx.state) fun _ => rfl).trans awake
  have ignition : (closeHold b s).ctx.ignition = .run := (agrees.same (fun u => u.ctx.ignition) fun _ => rfl).trans on
  have unparked : closeState (closeHold b s) = closeHold b s := by
    simp [closeState, mayPark, maySinkDeep, state, ignition]
  have unfolded : finish b s = closePages b (chooseRates (closeState (closeHold b s))) := by
    simp [finish, running, run]
  have there : (chooseRates (closeHold b s)).ctx.state = .awake := by
    rw [(chooseRates_sent _).ctx]
    exact state
  rw [unfolded, unparked]
  simp [closePages, there]

section
variable {b s : State} (run : s.stage = .run) (awake : s.ctx.state = .awake) (on : s.ctx.ignition = .run)
include run awake on

/-- Any field but the activity and what drives touch. -/
theorem finish_ignition_same {α : Type} (f : State → α) (hf : ∀ u, f (lessActivity u) = f u)
    (hd : ∀ u, f (lessDrives u) = f u) : f (finish b s) = f s := by
  rw [finish_ignition run awake on, (chooseRates_sent _).same f hd]
  exact (closeHold_agrees b s).same f hf

theorem finish_ignition_target (d : Closure) : (closure (finish b s) d).target = (closure s d).target := by
  rw [finish_ignition run awake on, (chooseRates_sent _).target]
  exact (closeHold_agrees b s).same (fun u => (closure u d).target) fun _ => rfl

end

/-- The part as the entry into RUN leaves it. -/
structure RunEntered (s u : State) : Prop where
  run : u.stage = .run
  awake : u.ctx.state = .awake
  ignition : u.ctx.ignition = .run
  inFlight : u.group.inFlight = s.group.inFlight
  target : ∀ d, (closure u d).target = (closure s d).target

theorem enterRun_entered {s : State} (noKept : s.group.crashKept = false) (on : s.pins.ign = .high) :
    RunEntered s (enterRun s) := by
  have sent := chooseRates_sent (runEntered s)
  have same {α : Type} (f : State → α) (hf : ∀ u, f (lessMotion u) = f u)
      (hn : ∀ (u : State) next, f { u with nextStatus := next } = f u) (hd : ∀ u, f (lessDrives u) = f u)
      (hr : ∀ u, f (clearReported u) = f u) : f (enterRun s) = f (runBegun s) :=
    ((enterRun_same f hf hn noKept).trans (sent.same f hd)).trans (runEntered_same f hf hr s)
  have target (d : Closure) : (closure (enterRun s) d).target = (closure s d).target := by
    have entered : (closure (enterRun s) d).target = (closure (chooseRates (runEntered s)) d).target :=
      enterRun_same (fun u => (closure u d).target) (fun _ => rfl) (fun _ _ => rfl) noKept
    have begun : (closure (runEntered s) d).target = (closure s d).target :=
      runEntered_same (fun u => (closure u d).target) (fun _ => rfl) (fun _ => rfl) s
    rw [entered, sent.target, begun]
  have ignition : (enterRun s).ctx.ignition = ignitionOf s.pins.ign :=
    same (fun u => u.ctx.ignition) (fun _ => rfl) (fun _ _ => rfl) (fun _ => rfl) fun _ => rfl
  refine ⟨?_, ?_, ?_, ?_, target⟩
  · exact same State.stage (fun _ => rfl) (fun _ _ => rfl) (fun _ => rfl) fun _ => rfl
  · exact same (fun u => u.ctx.state) (fun _ => rfl) (fun _ _ => rfl) (fun _ => rfl) fun _ => rfl
  · rw [ignition, on]
    rfl
  · exact same (fun u => u.group.inFlight) (fun _ => rfl) (fun _ _ => rfl) (fun _ => rfl) fun _ => rfl

/-- The close of the step keeps it. -/
theorem RunEntered.finished {b s u : State} (h : RunEntered s u) : RunEntered s (finish b u) := by
  have same {α : Type} (f : State → α) (hf : ∀ u, f (lessActivity u) = f u) (hd : ∀ u, f (lessDrives u) = f u) :
      f (finish b u) = f u := finish_ignition_same h.run h.awake h.ignition f hf hd
  refine ⟨?_, ?_, ?_, ?_, fun d => (finish_ignition_target h.run h.awake h.ignition d).trans (h.target d)⟩
  · exact (same State.stage (fun _ => rfl) fun _ => rfl).trans h.run
  · exact (same (fun u => u.ctx.state) (fun _ => rfl) fun _ => rfl).trans h.awake
  · exact (same (fun u => u.ctx.ignition) (fun _ => rfl) fun _ => rfl).trans h.ignition
  · exact (same (fun u => u.group.inFlight) (fun _ => rfl) fun _ => rfl).trans h.inFlight

/-- The target that SENSE takes from a first report (R28). -/
theorem sensedTarget_some (c : Closure) (p : LockSensed × ChildSensed) : (sensedTarget c (some p)).getD .locked =
    match some p with
    | some (.unlocked, _) => .unlocked
    | some (.deadlocked, _) => if c = .tg then .locked else .deadlocked
    | _ => .locked := by
  obtain ⟨lock, child⟩ := p
  by_cases tail : c = .tg <;> cases lock <;> simp [sensedTarget, sensedOf, manualTarget, tail]

/-- A good report in an open cycle (R165). -/
theorem exec_nodeReport {dt : Nat} {c : Closure} {record : List Byte} {rep : Report} {s : State} (supplied : s.stage ≠ .off)
    (isOpen : cycleOpen (elapse dt s) c = true) (reads : readReport record = some rep) :
    exec (.nodeReport dt c record) s = .next (finish (elapse dt s) (goodReport c rep (elapse dt s))) := by
  have meaning : exec (.nodeReport dt c record) s = perform dt (fun t =>
      match readReport record with
      | some rep => if cycleOpen t c then goodReport c rep t else t
      | none => t) s := rfl
  rw [meaning, perform_supplied dt _ supplied, reads]
  dsimp only
  rw [if_pos isOpen]

/-- Settles O40. -/
theorem lastReportEntersRun : Obligations.LastReportEntersRun := by
  intro s dt c record rep poll taken reads others noKept noFlight noSlot on
  let v := elapse dt s
  let t := reportRecorded c rep v
  have counted : FirstCounted c rep v t := firstCounted_recorded (s := v) poll noFlight noSlot
  have all : ∀ d, (channel t d).firstSense.isSome || nodeLost t d := by
    intro d
    by_cases here : d = c
    · subst here
      simp [counted.first]
    · obtain ⟨first, link⟩ := counted.others d here
      rcases others d here with h | h
      · simp [first, show (channel v d).firstSense.isSome from h]
      · simp [nodeLost, link, show (channel v d).link = .lost from h]
  have ends : goodReport c rep v = enterRun (sense t) := by
    rw [goodReport_eq, pollCheck]
    refine if_pos ?_
    have stage : t.stage = .poll := counted.stage.trans poll
    simp only [t] at all stage
    simp [stage, all]
  have next : exec (.nodeReport dt c record) s = .next (finish v (enterRun (sense t))) := by
    rw [← ends]
    exact exec_nodeReport (by simp [poll]) taken reads
  clear_value t
  obtain ⟨stage, state, ignition, flight, target⟩ := RunEntered.finished (b := v)
    (enterRun_entered (s := sense t) (counted.crashKept.trans noKept) ((congrArg (·.ign) counted.pins).trans on))
  refine ⟨_, next, stage, state, ignition, flight.trans (counted.inFlight.trans noFlight), fun d => ?_⟩
  have record : (closure (sense t) d).target = (sensedTarget d (channel t d).firstSense).getD .locked := by
    simp [sense, closure, senseLock]
  rw [target, record]
  by_cases here : d = c
  · subst here
    rw [counted.first, sensedTarget_some, if_pos rfl]
    rfl
  · rw [(counted.others d here).1, if_neg here]
    have same : (channel v d).firstSense = (channel s d).firstSense := rfl
    rw [same]
    cases (channel s d).firstSense with
    | none => rfl
    | some p => exact sensedTarget_some d p

end Sys2Proof.Machine
end

section
/-!
PROOFS. RESTART and the saves (R69, R110, R190, R204, R207 to R210).
-/

namespace Sys2Proof.Machine

/-! ## RESTART -/

/-- What a management request is answered with, RESTART too. -/
theorem answersActive_managed {i : Instr} {dt : Nat} {r : ManagementRequest} {s t : State} {result : Result} {tail : List Byte}
    (meaning : exec i s = perform dt (manage r) s) (alert : Alert s)
    (managed : manage r (elapse dt s) = answer r ⟨setMask none (elapse dt t), result, tail⟩) (calm : Alert t)
    (room : t.tx.length < Config.txPlaces) : AnswersActive i s (replied dt (requestCode r) result tail t) := by
  have calm' : Alert (setMask none (elapse dt t)) := calm.of_same rfl rfl rfl rfl rfl rfl
  let v : State := replied dt (requestCode r) result tail t
  have active : manage r (elapse dt s) = activity v := managed.trans (answer_calm calm'.run calm'.awake room)
  have noted : activity v = withActivity v.now (idleDeadlineOf (withActivity v.now v.ctx.idleDeadline v)) v := by
    rw [activity_run (s := v) calm.run]
    rfl
  refine ⟨activity v, ?_, activity_agreeing v, ?_, ?_⟩
  · rw [meaning, perform_supplied dt _ alert.supplied, active, finish_active]
    · rw [noted]
      exact calm.of_same rfl rfl rfl rfl rfl rfl
    · rw [noted]
      rfl
    · rw [noted]
      rfl
  · rw [noted]
    rfl
  · rw [noted]
    rfl

/-- A stored fob as LOAD takes it keeps its serial and its counter (R109). -/
theorem loadFobs_getElem {fobs : List Fob} {i : Nat} {f : Fob} (stored : fobs[i]? = some f) :
    ∃ g, (loadFobs fobs)[i]? = some g ∧ g.serial = f.serial ∧ g.accepted = f.accepted := by
  have there : fobs.zipIdx[i]? = some (f, i) := by simp [stored]
  unfold loadFobs
  rw [List.getElem?_map, there]
  dsimp only [Option.map]
  split
  · exact ⟨_, rfl, rfl, rfl⟩
  · exact ⟨_, rfl, rfl, rfl⟩

theorem keptCounters_getElem {working loaded : List Fob} {i : Nat} {w l : Fob} (h : working[i]? = some w)
    (g : loaded[i]? = some l) :
    (keptCounters working loaded)[i]? = some (if w.serial = l.serial then { l with accepted := w.accepted } else l) := by
  simp [keptCounters, List.getElem?_zipWith, h, g]

/-- A window whose Travel stands keeps its position across a restart (R69). -/
theorem restartWindow_kept {travel now : Nat} {x : Window} (clear : x.clearPending = false) :
    (restartWindow travel travel now x).position = x.position ∧
      (restartWindow travel travel now x).normalized = x.normalized := by
  simp [restartWindow, clear]

/-- LOAD at a restart, from a good image or from the defaults: it raises STORE_BLANK at most. -/
theorem restart_loads {s : State} {t : Tables} (image : s.store.image = .good t ∨ s.store.image = .bad ∧ t = .factory) :
    ∃ faults blank, restart s =
      let loaded := loadTables s.store.lockCell t
      let tables := { loaded with profiles := s.cfg.profiles, fobs := keptCounters s.cfg.fobs loaded.fobs }
      { cold s with
        stage := .load, cfg := tables, faults := faults
        mgmt := ⟨⟨0, 0, 0⟩, none, formBase tables.ids s.strapPins, s.strapPins, .restart⟩
        group := { (cold s).group with
          tokens := s.group.tokens, crashHold := s.group.crashHold
          refillDeadline := if s.group.tokens < Config.tokenMax then some (s.now + Config.refillTime) else none }
        windows := s.windows.mapWith fun w x =>
          restartWindow (windowCfg s w).travel (tables.windows.get w).travel s.now x
        ctx := { (cold s).ctx with speed := s.ctx.speed, voltage := s.ctx.voltage }
        store := { (cold s).store with blankAtLoad := blank } } := by
  refine ⟨(restart s).faults, (restart s).store.blankAtLoad, ?_⟩
  rcases image with good | ⟨bad, rfl⟩
  · rw [restart, loadedTables_good good, loadStage_good good]
    rfl
  · rw [restart, loadedTables_bad bad, loadStage_bad bad]
    rfl

/-- Settles O42. -/
theorem restartKeepsWhatR210Keeps : Obligations.RestartKeepsWhatR210Keeps := by
  intro s dt alert room
  let v : State := setMask none (elapse dt s)
  have on : running v = true := by simp [running, v, alert.run]
  have follows : following (elapse dt s) = true := by simp [following, alert.run]
  have takes : manage .restart (elapse dt s) = if !saveBusy v then takeRestart v else answer .restart (reply .busy v) := by
    have unfolded : manage .restart (elapse dt s) =
        if !following (elapse dt s) then elapse dt s
        else if running v then
          (if ManagementRequest.restart = .restart ∧ !saveBusy v then takeRestart v else answer .restart (serve .restart v))
        else if ManagementRequest.restart = .status then answer .restart (serve .restart v)
        else answer .restart (reply .starting (setMask none v)) := rfl
    rw [unfolded, follows, on]
    simp
    rfl
  refine ⟨fun busy => ?_, fun t noSave noKept image => ?_⟩
  · have saves : saveBusy v = true := by
      rcases busy with h | h <;> simp [saveBusy, saving, v, h]
    rw [saves] at takes
    exact answersActive_managed (r := .restart) (t := s) rfl alert takes alert room
  · have free : saveBusy v = false := by simp [saveBusy, saving, v, noSave, noKept]
    rw [free] at takes
    obtain ⟨faults, blank, loads⟩ := restart_loads (s := v) image
    have next : exec (.restart dt) s = .next (takeRestart v) := by
      have meaning : exec (.restart dt) s = perform dt (manage .restart) s := rfl
      have stage : (takeRestart v).stage ≠ .run := by
        rw [takeRestart, loads]
        simp
      rw [meaning, perform_supplied dt _ alert.supplied, takes]
      exact congrArg Host.Outcome.next (finish_before_run _ stage)
    rw [takeRestart, loads] at next
    refine ⟨_, next, rfl, rfl, rfl, rfl, rfl, rfl, rfl, rfl, rfl, rfl, rfl, rfl, rfl, rfl, rfl, rfl, rfl, fun c => ?_,
      fun i working stored there load => ?_, fun w => ⟨?_, ?_, ?_, fun clear same => ?_⟩⟩
    · cases c <;> rfl
    · obtain ⟨g, loaded, serial, accepted⟩ := loadFobs_getElem load
      refine ⟨_, keptCounters_getElem (working := s.cfg.fobs) there loaded, ?_, ?_⟩
      · rw [← serial]
        split <;> rfl
      · rw [serial, ← accepted]
        split <;> rfl
    · cases w <;> rfl
    · cases w <;> rfl
    · cases w <;> rfl
    · have kept : (restartWindow (windowCfg s w).travel (t.windows.get w).travel (s.now + dt) (window s w)).position =
            (window s w).position ∧
          (restartWindow (windowCfg s w).travel (t.windows.get w).travel (s.now + dt) (window s w)).normalized =
            (window s w).normalized := by
        rw [same]
        exact restartWindow_kept clear
      cases w <;> exact kept

/-! ## A part whose state stands (R188 to R191) -/

/-- The close of a step that leaves a settled part's holds, pages and rates as they were. -/
theorem finish_settled {dt : Nat} {s t : State} (settled : Settled dt s) (stage : t.stage = s.stage) (ctx : t.ctx = s.ctx)
    (now : t.now = s.now + dt) (hold : awakeHold t = awakeHold s) (pages : statusPages t = statusPages s)
    (rates : ∀ c, (channel t c).rate = chosenRate t c) : finish (elapse dt s) t = t := by
  have run : running t = true := by simp [running, stage, settled.run]
  have noEnd : closeHold (elapse dt s) t = t := by
    have before : awakeHold (elapse dt s) = awakeHold t := hold.symm
    unfold closeHold
    rw [before]
    exact if_neg (by simp)
  have notParking : mayPark t = false := by
    by_cases awake : s.ctx.state = .awake
    · rcases settled.awake awake with on | held | ahead
      · simp [mayPark, ctx, on]
      · simp [mayPark, hold, held]
      · have later : ¬ t.ctx.idleDeadline ≤ t.now := by
          rw [ctx, now]
          omega
        simp [mayPark, later]
    · simp [mayPark, isAwake, ctx, awake]
  have notSinking : maySinkDeep t = false := by
    by_cases parked : s.ctx.state = .parked
    · rcases settled.parked parked with held | ahead
      · simp [maySinkDeep, hold, held]
      · cases deadline : s.ctx.deepDeadline with
        | none => simp [maySinkDeep, ctx, deadline]
        | some d =>
          have later : ¬ d ≤ t.now := by
            have := ahead d deadline
            rw [now]
            omega
          simp [maySinkDeep, ctx, deadline, later]
    · simp [maySinkDeep, ctx, parked]
  have unfolded : finish (elapse dt s) t =
      closePages (elapse dt s) (chooseRates (closeState (closeHold (elapse dt s) t))) := by
    simp [finish, run]
  have settledState : closeState t = t := by simp [closeState, notParking, notSinking]
  rw [unfolded, noEnd, settledState, chooseRates_settled rates]
  have same : statusPages (elapse dt s) = statusPages t := pages.symm
  unfold closePages
  rw [same]
  exact if_neg (by simp)

/-! ## The fault table (R205) -/

theorem faultRecord_countFault {cls : FaultClass} {who : Option Closure} {s : State} (places : s.faults.length = 14) :
    (faultRecord (countFault cls who s) cls).count = min 255 ((faultRecord s cls).count + 1) := by
  have inside : faultClassCode cls < s.faults.length := by
    rw [places]
    cases cls <;> decide
  simp [faultRecord, countFault, List.getD, inside]

theorem faultRecord_countFault_other {cls other : FaultClass} {who : Option Closure} {s : State}
    (h : faultClassCode other ≠ faultClassCode cls) : faultRecord (countFault other who s) cls = faultRecord s cls := by
  simp [faultRecord, countFault, List.getD, h]

/-- Offering a frame touches no fault class but TX_OVERFLOW (R160 C). -/
theorem faultRecord_offer {cls : FaultClass} (other : cls ≠ .txOverflow) (f : TxFrame) (s : State) :
    faultRecord (offer f s) cls = faultRecord s cls := by
  have apart : faultClassCode .txOverflow ≠ faultClassCode cls := by
    revert other
    cases cls <;> decide
  have overflow : faultRecord (raiseTxOverflow s) cls = faultRecord s cls := by
    refine Eq.trans ?_ (faultRecord_countFault_other (who := none) (s := s) apart)
    unfold raiseTxOverflow
    dsimp only
    split
    · rfl
    · split <;> rfl
  unfold offer
  split
  · split
    · rfl
    · exact overflow
  · rfl

theorem faultRecord_raiseWith {detail : Option PinchDetail} {cls : FaultClass} {who : Option Closure} {s : State}
    (other : cls ≠ .txOverflow) (places : s.faults.length = 14) :
    (faultRecord (raiseWith detail cls who s) cls).count = min 255 ((faultRecord s cls).count + 1) := by
  unfold raiseWith
  dsimp only
  split
  · exact faultRecord_countFault places
  · rw [faultRecord_offer other]
    exact faultRecord_countFault places

/-! ## Saves (R190, R204, R208, R209) -/

/-- A command that writes the store alone, in a settled part. -/
theorem answers_store {dt : Nat} {s : State} {store : Store} {i : Instr} (settled : Settled dt s)
    (next : exec i s = .next (finish (elapse dt s) { elapse dt s with store := store })) :
    Answers i s { s with now := s.now + dt, store := store } := by
  rw [finish_settled (t := { elapse dt s with store := store }) settled rfl rfl rfl rfl rfl settled.rates] at next
  exact ⟨_, next, rfl⟩

theorem exec_parkSave {dt : Nat} {s : State} (run : s.stage = .run) :
    exec (.parkSave dt) s = .next (finish (elapse dt s) (parkSave (elapse dt s))) := by
  have on : running (elapse dt s) = true := by simp [running, run]
  have meaning : exec (.parkSave dt) s = perform dt (fun t => if running t then parkSave t else t) s := rfl
  rw [meaning, perform_supplied dt _ (by simp [run]), on]
  rfl

theorem exec_saveComplete {dt : Nat} {verified : Bool} {image : Tables} {s : State} (supplied : s.stage ≠ .off)
    (saves : s.store.snapshot = some image) : exec (.saveComplete dt verified) s = .next (finish (elapse dt s)
      (startKept (if verified then saveGood image (elapse dt s) else saveFailed image (elapse dt s)))) := by
  have meaning : exec (.saveComplete dt verified) s = perform dt (fun t =>
      match t.store.snapshot with
      | some image => startKept (if verified then saveGood image t else saveFailed image t)
      | none => t) s := rfl
  rw [meaning, perform_supplied dt _ supplied, elapse_store, saves]

/-- The image, the lock cell and a kept park save at the end of a save with a good verify. -/
theorem startKept_saveGood (image : Tables) (s : State) : startKept (saveGood image s) =
    let cell := s.store.lockCell <|> (if image.protection.lock then some image.protection else none)
    { s with store := { s.store with
        image := .good image, parkKept := false, lastResult := some true, lockCell := cell
        snapshot :=
          if s.store.parkKept then some { s.cfg with protection := cell.getD s.cfg.protection } else none } } := by
  cases kept : s.store.parkKept
  · simp [startKept, saveGood, kept]
  · simp [startKept, saveGood, beginSave, savedTables, kept]

/-- A kept park save begins at the end of a save that failed too. -/
theorem startKept_same {α : Type} (f : State → α) (hf : ∀ (u : State) snapshot kept,
    f { u with store := { u.store with snapshot := snapshot, parkKept := kept } } = f u) (s : State) :
    f (startKept s) = f s := by
  unfold startKept
  split
  · exact hf s (some (savedTables s)) false
  · rfl

/-- Settles O43. -/
theorem savesBeginAndComplete : Obligations.SavesBeginAndComplete := by
  intro s dt snapshot
  let v : State := setMask none (elapse dt s)
  have saved (cell : Option Protection) : snapshot cell = some { s.cfg with protection := cell.getD s.cfg.protection } := by
    cases cell <;> rfl
  refine ⟨fun alert room busy => ?_, fun alert room noSave noKept => ?_, fun settled noSave => ?_, fun settled saves => ?_,
    fun image settled saves => ⟨?_, fun places => ?_⟩⟩
  · have served : serveSave v = reply .busy v := by
      refine if_pos ?_
      rcases busy with h | h <;> simp [saveBusy, saving, v, h]
    exact answersActive_replied (r := .save) rfl alert (by simp) served alert room
  · have served : serveSave v = reply .ok (beginSave v) := if_neg (by simp [saveBusy, saving, v, noSave, noKept])
    rw [saved]
    exact answersActive_replied (r := .save) rfl alert (by simp) served (alert.of_same rfl rfl rfl rfl rfl rfl) room
  · have parks : parkSave (elapse dt s) = { elapse dt s with
        store := { s.store with
          snapshot := some { s.cfg with protection := s.store.lockCell.getD s.cfg.protection }, parkKept := false } } := by
      simp [parkSave, saving, beginSave, savedTables, noSave]
    rw [saved]
    exact answers_store settled ((exec_parkSave settled.run).trans (by rw [parks]))
  · have parks : parkSave (elapse dt s) = { elapse dt s with store := { s.store with parkKept := true } } := by
      simp [parkSave, saving, saves]
    exact answers_store settled ((exec_parkSave settled.run).trans (by rw [parks]))
  · have next := exec_saveComplete (dt := dt) (verified := true) (by simp [settled.run]) saves
    rw [if_pos rfl, startKept_saveGood image (elapse dt s)] at next
    rw [saved]
    refine answers_store settled (next.trans ?_)
    simp only [elapse_store, elapse_cfg]
    cases s.store.lockCell <;> rfl
  · let failed := saveFailed image (elapse dt s)
    have next := exec_saveComplete (dt := dt) (verified := false) (by simp [settled.run]) saves
    rw [if_neg (by simp)] at next
    have raised {α : Type} (f : State → α) (hf : ∀ u, f (lessTraffic u) = f u)
        (hs : ∀ (u : State) store, f { u with store := store } = f u) : f (startKept failed) = f (elapse dt s) :=
      (startKept_same f (fun u _ _ => hs u _) failed).trans ((same_of_rest (raise_rest .storeFail none _) f hf).trans (hs ..))
    have store : failed.store = { s.store with
        image := .unknown (imageCandidates s.store.image ++ [image]), snapshot := none, lastResult := some false } :=
      same_of_rest (raise_rest .storeFail none _) State.store fun _ => rfl
    have stays := finish_settled (t := startKept failed) settled (raised State.stage (fun _ => rfl) fun _ _ => rfl)
      (raised State.ctx (fun _ => rfl) fun _ _ => rfl) (raised State.now (fun _ => rfl) fun _ _ => rfl)
      (raised awakeHold (fun _ => rfl) fun _ _ => rfl) (raised statusPages (fun _ => rfl) fun _ _ => rfl) fun c => by
        rw [raised (fun u => chosenRate u c) (fun _ => rfl) fun _ _ => rfl,
          raised (fun u => channel u c) (fun _ => rfl) fun _ _ => rfl]
        exact settled.rates c
    rw [stays] at next
    refine ⟨_, next, ?_, ?_, ?_, ?_, raised State.cfg (fun _ => rfl) fun _ _ => rfl,
      raised (fun u => u.ctx.state) (fun _ => rfl) fun _ _ => rfl⟩
    · rw [startKept_same (fun u => u.store.lastResult) fun _ _ _ => rfl, store]
    · have cfg : failed.cfg = s.cfg := (same_of_rest (raise_rest .storeFail none _) State.cfg fun _ => rfl).trans rfl
      rw [saved, startKept, store, apply_ite State.store, apply_ite Store.snapshot]
      simp only [beginSave, savedTables, store, cfg]
    · rw [startKept_same (fun u => u.store.lockCell) fun _ _ _ => rfl, store]
    · rw [startKept_same (fun u => (faultRecord u .storeFail).count) fun _ _ _ => rfl]
      exact faultRecord_raiseWith (s := { elapse dt s with store := _ }) (by simp) places

end Sys2Proof.Machine
end

section
/-!
PROOFS. The deadlines of the locks, the keys and the context (R5, R12 to R14, R22, R24, R27, R32, R39, R98, R106, R180).
-/

namespace Sys2Proof.Machine

section
variable {i : Instr} {dt d : Nat} {s t : State} {due : State → Option Nat} {f : State → State}

/-- A deadline that is present is taken at the time it names, or later (log entry 2). -/
theorem exec_deadline (meaning : exec i s = perform dt (fun u => atDeadline (due u) f u) s) (supplied : s.stage ≠ .off)
    (there : due (elapse dt s) = some d) : exec i s = .next (finish (elapse dt s) (f (reach d (elapse dt s)))) := by
  rw [meaning, perform_supplied dt _ supplied, there]
  rfl

theorem answers_deadline (meaning : exec i s = perform dt (fun u => atDeadline (due u) f u) s) (supplied : s.stage ≠ .off)
    (there : due (elapse dt s) = some d) (effect : f (reach d (elapse dt s)) = t) (calm : Calm t) : Answers i s t := by
  refine ⟨_, exec_deadline meaning supplied there, ?_⟩
  rw [effect]
  exact finish_calm_agrees _ calm

end

/-- Settles O44. -/
theorem refillRaisesTheTokens : Obligations.RefillRaisesTheTokens := by
  intro s dt d calm there below
  refine answers_deadline (due := fun t => t.group.refillDeadline) (f := fun u => { u with group := refilled u.now u.group })
    rfl calm.supplied there ?_ (calm.of_same rfl rfl rfl rfl rfl)
  have tokens : min 12 (s.group.tokens + 1) = s.group.tokens + 1 := by omega
  simp [refilled, Config.tokenMax, Config.refillTime, reach, elapse, tokens]

/-- Settles O45. -/
theorem deadlinesTakeTheirOwnRecord : Obligations.DeadlinesTakeTheirOwnRecord := by
  intro s dt d calm at_
  refine ⟨fun there => ?_, fun there => ?_, fun i there => ?_, fun p there => ?_, fun i n r run there => ?_,
    fun h there same => ?_, fun there => ?_, fun there => ?_⟩
  · exact answers_deadline (due := fun t => t.release.deadline)
      (f := fun u => { u with release := { u.release with deadline := none } })
      rfl calm.supplied there rfl (calm.of_same rfl rfl rfl rfl rfl)
  · exact answers_deadline (due := fun t => t.group.driverFirst)
      (f := fun u => { u with group := { u.group with driverFirst := none } })
      rfl calm.supplied there rfl (calm.of_same rfl rfl rfl rfl rfl)
  · exact answers_deadline (due := fun t => t.group.doubleLock.map (·.deadline))
      (f := fun u => { u with group := { u.group with doubleLock := none } })
      rfl calm.supplied (by simp [there]) rfl (calm.of_same rfl rfl rfl rfl rfl)
  · exact answers_deadline (due := fun t => t.timed.map (·.deadline)) (f := fun u => { u with timed := none })
      rfl calm.supplied (by simp [there]) rfl (calm.of_same rfl rfl rfl rfl rfl)
  · have record : fobRun s i = r := fobRun_of_getElem run
    refine answers_deadline (d := d) (due := fun t => (fobRun t i).candidate.map (·.deadline))
      (f := fun u => setFobRun i { fobRun u i with candidate := none } u) rfl calm.supplied ?_ ?_
      (calm.of_same rfl rfl rfl rfl rfl)
    · have same : fobRun (elapse dt s) i = r := record
      simp [same, there]
    · have same : fobRun (reach d (elapse dt s)) i = r := record
      simp only [setFobRun, same]
      rfl
  · exact answers_deadline (due := fun t => t.key.hold.map (·.deadline)) (f := setHold none)
      rfl calm.supplied (by simp [there, same]) rfl (calm.of_same rfl rfl rfl rfl rfl)
  · exact answers_deadline (due := fun t => t.ctx.speedFresh)
      (f := fun u => { u with ctx := { u.ctx with speedFresh := none } })
      rfl calm.supplied there rfl (calm.of_same rfl rfl rfl rfl rfl)
  · exact answers_deadline (due := fun t => t.ctx.voltageFresh)
      (f := fun u => { u with ctx := { u.ctx with voltageFresh := none } })
      rfl calm.supplied there rfl (calm.of_same rfl rfl rfl rfl rfl)

/-! ## The settle deadline of a closure (R13, R14, R17) -/

/-- The close of the step of a calm part leaves all but the activity. -/
theorem finish_calm_same {α : Type} (f : State → α) (hf : ∀ u, f (lessActivity u) = f u) (b : State) {s : State}
    (calm : Calm s) : f (finish b s) = f s := (finish_calm_agrees b calm).same f hf

/-- While the group is busy nothing completes and nothing pending is taken (R11, R17). -/
theorem followGroup_waits {s : State} (busy : groupBusy s = true) : followGroup s = s := by
  have wait : completeOne s = (s, false) := by
    unfold completeOne
    split
    · rfl
    · rw [if_pos busy]
  have pending : takePending s = s := by
    unfold takePending
    split
    · rfl
    · exact if_pos (by simp [busy])
  simp [followGroup, wait, pending]

theorem faultRecord_countFault_last {cls : FaultClass} {who : Option Closure} {s : State} (places : s.faults.length = 14) :
    (faultRecord (countFault cls who s) cls).last = who := by
  have inside : faultClassCode cls < s.faults.length := by
    rw [places]
    cases cls <;> decide
  simp [faultRecord, countFault, List.getD, inside]

theorem faultRecord_raiseWith_last {detail : Option PinchDetail} {cls : FaultClass} {who : Option Closure} {s : State}
    (other : cls ≠ .txOverflow) (places : s.faults.length = 14) :
    (faultRecord (raiseWith detail cls who s) cls).last = who := by
  unfold raiseWith
  dsimp only
  split
  · exact faultRecord_countFault_last places
  · rw [faultRecord_offer other]
    exact faultRecord_countFault_last places

/-- The closure's second settle deadline away from the target (R14, R39). -/
def retryFailed (c : Closure) (s : State) : State :=
  setTimed .fast 10000 (raise .lockFault (some c) (setClosure c (standAt .fault (closure s c)) s))

section
variable {c : Closure} {s : State}

theorem settleExpired_fails (retrying : (closure s c).phase = .retrying)
    (away : atTarget (closure s c).sensed (closure s c).target = false) :
    settleExpired c s = followGroup (retryFailed c s) := by
  simp [settleExpired, retrying, away, retryFailed]

theorem settleExpired_retries (settling : (closure s c).phase = .settling)
    (away : atTarget (closure s c).sensed (closure s c).target = false) :
    settleExpired c s = followGroup (setClosure c (driveAt .retrying s.cfg.car.pulseSteps (closure s c)) s) := by
  simp [settleExpired, settling, away]

/-- Any field but the lock, the lamp and the traffic. -/
theorem retryFailed_same {α : Type} (f : State → α) (hf : ∀ u, f (lessTraffic u) = f u)
    (hc : ∀ (u : State) k, f (setClosure c k u) = f u) (ht : ∀ (u : State) timed, f { u with timed := timed } = f u) :
    f (retryFailed c s) = f s :=
  (ht _ _).trans ((same_of_rest (raise_rest ..) f hf).trans (hc s _))

theorem retryFailed_closure : closure (retryFailed c s) c = standAt .fault (closure s c) :=
  (same_of_rest (raise_rest ..) (fun u => closure u c) fun _ => rfl).trans (closure_setClosure c _ s)

theorem retryFailed_closure_other {e : Closure} (other : e ≠ c) : closure (retryFailed c s) e = closure s e :=
  (same_of_rest (raise_rest ..) (fun u => closure u e) fun _ => rfl).trans (closure_setClosure_other other _ s)

theorem closureBusy_iff (k : ClosureLock) :
    closureBusy k = true ↔ k.phase = .driving ∨ k.phase = .settling ∨ k.phase = .retrying := by
  simp [closureBusy, or_assoc]

theorem retryFailed_busy : groupBusy (retryFailed c s) = true ↔ ∃ e, e ≠ c ∧ closureBusy (closure s e) = true := by
  constructor
  · intro busy
    obtain ⟨e, _, held⟩ := List.any_eq_true.mp busy
    refine ⟨e, ?_, ?_⟩
    · rintro rfl
      rw [retryFailed_closure] at held
      cases held
    · by_cases here : e = c
      · subst here
        rw [retryFailed_closure] at held
        cases held
      · rwa [retryFailed_closure_other here] at held
  · rintro ⟨e, other, held⟩
    refine List.any_eq_true.mpr ⟨e, by cases e <;> decide, ?_⟩
    rw [retryFailed_closure_other other]
    exact held

end

/-- A request that names a closure in FAULT completes with no STEADY pattern (R17, R39). -/
theorem completeItems_failed {f : InFlight} {s : State} (lock : f.request.kind = .lockAll ∨ f.request.kind = .deadlockAll)
    (fault : ∃ c, (closure s c).phase = .fault) : completeItems f s = { s with group := { s.group with inFlight := none } } := by
  have locks : lockType f.request.kind = true := by rcases lock with h | h <;> simp [h, lockType]
  obtain ⟨c, fault⟩ := fault
  have failed : ¬((named f.request.kind f.driver).all fun c => (closure s c).phase == .idle) = true := by
    intro all
    have every : c ∈ allClosures := by cases c <;> decide
    have mem : c ∈ named f.request.kind f.driver := by rcases lock with h | h <;> rw [h] <;> exact every
    have idle := List.all_eq_true.mp all c mem
    rw [fault] at idle
    cases idle
  unfold completeItems
  dsimp only
  rw [if_pos locks]
  exact if_neg failed

/-- What a completion leaves of the group, whatever its kind (R17, R21). -/
theorem completeItems_group (f : InFlight) (s : State) :
    (completeItems f s).group.inFlight = none ∧ (completeItems f s).group.tokens = s.group.tokens ∧
      (completeItems f s).group.slot = s.group.slot ∧
      (¬(f.request.kind = .lockAll ∨ f.request.kind = .deadlockAll) →
        (completeItems f s).group.driveAwayArmed = true ∧ (completeItems f s).timed = s.timed) := by
  unfold completeItems
  dsimp only
  split
  · next locks =>
    have lock : f.request.kind = .lockAll ∨ f.request.kind = .deadlockAll := by
      cases h : f.request.kind <;> simp_all [lockType]
    split <;> exact ⟨rfl, rfl, rfl, fun other => absurd lock other⟩
  · unfold startRelock
    dsimp only
    split <;> exact ⟨rfl, rfl, rfl, fun _ => ⟨rfl, rfl⟩⟩

/-- A completion writes the group and the lamp alone. -/
theorem completeItems_same {α : Type} (g : State → α)
    (hg : ∀ (u : State) group timed, g { u with group := group, timed := timed } = g u) (f : InFlight) (s : State) :
    g (completeItems f s) = g s := by
  unfold completeItems startRelock
  dsimp only
  (repeat' split) <;> exact hg s _ _

theorem standAt_target (phase : LockPhase) (k : ClosureLock) : (standAt phase k).target = k.target := by
  unfold standAt dropPulse
  dsimp only
  split <;> rfl

/-- The state after the second settle deadline: the request in flight goes on while another closure is busy, and completes
where this was the last (R14, R17). -/
structure RetryOver (f : InFlight) (c : Closure) (s t : State) : Prop where
  closure : closure t c = standAt .fault (closure s c)
  timed : t.timed = some ⟨.fast, s.now + 10000⟩
  faults : t.faults = (retryFailed c s).faults
  calm : Calm s → Calm t
  waits : (∃ e, e ≠ c ∧ closureBusy (Machine.closure s e) = true) → t.group = s.group
  completes : (∀ e, e ≠ c → closureBusy (Machine.closure s e) = false) →
    t.group.inFlight = none ∧ t.group.tokens = s.group.tokens ∧
      (f.request.kind = .lockAll ∨ f.request.kind = .deadlockAll → t.group = { s.group with inFlight := none }) ∧
      (¬(f.request.kind = .lockAll ∨ f.request.kind = .deadlockAll) → t.group.driveAwayArmed = true)

theorem retryOver {f : InFlight} {c : Closure} {s : State} (flight : s.group.inFlight = some f)
    (noDue : f.request.releaseAfter = false)
    (waits : (∃ e, e ≠ c ∧ closureBusy (closure s e) = true) ∨ s.group.slot = none) :
    RetryOver f c s (followGroup (retryFailed c s)) := by
  have group : (retryFailed c s).group = s.group :=
    retryFailed_same State.group (fun _ => rfl) (fun _ _ => rfl) fun _ _ => rfl
  have timed : (retryFailed c s).timed = some ⟨.fast, s.now + 10000⟩ := by
    have now : (raise .lockFault (some c) (setClosure c (standAt .fault (closure s c)) s)).now = s.now :=
      same_of_rest (raise_rest ..) State.now fun _ => rfl
    rw [retryFailed, setTimed, now]
  have calmBefore (calm : Calm s) : Calm (retryFailed c s) :=
    calm.of_same (retryFailed_same State.stage (fun _ => rfl) (fun _ _ => rfl) fun _ _ => rfl)
      (retryFailed_same (fun u => u.ctx.state) (fun _ => rfl) (fun _ _ => rfl) fun _ _ => rfl)
      (retryFailed_same (fun u => u.ctx.ignition) (fun _ => rfl) (fun _ _ => rfl) fun _ _ => rfl)
      (retryFailed_same State.channels (fun _ => rfl) (fun _ _ => rfl) fun _ _ => rfl)
      (retryFailed_same (fun u => u.cfg.modes) (fun _ => rfl) (fun _ _ => rfl) fun _ _ => rfl)
  by_cases other : ∃ e, e ≠ c ∧ closureBusy (closure s e) = true
  · rw [followGroup_waits (retryFailed_busy.mpr other)]
    refine ⟨retryFailed_closure, timed, rfl, calmBefore, fun _ => group, fun alone => ?_⟩
    obtain ⟨e, apart, busy⟩ := other
    rw [alone e apart] at busy
    cases busy
  · have noSlot : s.group.slot = none := waits.resolve_left other
    have idle : groupBusy (retryFailed c s) = false := by
      rw [← Bool.not_eq_true, retryFailed_busy]
      exact other
    let t := completeItems f (retryFailed c s)
    obtain ⟨noFlight, tokens, slot, unlocked⟩ := completeItems_group f (retryFailed c s)
    have ends : followGroup (retryFailed c s) = t :=
      followGroup_completes (by rw [group]; exact flight) idle rfl noDue noFlight (by rw [slot, group]; exact noSlot)
    have fault : ∃ e, (closure (retryFailed c s) e).phase = .fault := ⟨c, by rw [retryFailed_closure]; rfl⟩
    have same {α : Type} (g : State → α)
        (hg : ∀ (u : State) group timed, g { u with group := group, timed := timed } = g u) :
        g t = g (retryFailed c s) := completeItems_same g hg f _
    rw [ends]
    refine ⟨(same (fun u => closure u c) fun _ _ _ => rfl).trans retryFailed_closure, ?_, same State.faults fun _ _ _ => rfl,
      fun calm => (calmBefore calm).of_same (same State.stage fun _ _ _ => rfl) (same (fun u => u.ctx.state) fun _ _ _ => rfl)
        (same (fun u => u.ctx.ignition) fun _ _ _ => rfl) (same State.channels fun _ _ _ => rfl)
        (same (fun u => u.cfg.modes) fun _ _ _ => rfl),
      fun busy => absurd busy other, fun _ => ⟨noFlight, tokens.trans (congrArg LockGroup.tokens group), fun lock => ?_, fun unlock => (unlocked unlock).1⟩⟩
    · by_cases lock : f.request.kind = .lockAll ∨ f.request.kind = .deadlockAll
      · exact (congrArg State.timed (completeItems_failed lock fault)).trans timed
      · exact (unlocked lock).2.trans timed
    · refine (congrArg State.group (completeItems_failed lock fault)).trans ?_
      rw [group]

theorem driveExpired_driving {c : Closure} {s : State} (driving : (closure s c).phase = .driving) :
    driveExpired c s = setClosure c
      { closure s c with
        phase := .settling, driveDeadline := none, settleDeadline := some (s.now + 300), command := .abandon
        pulseSteps := 0 } s := by
  simp [driveExpired, settleFrom, driving, Config.settleTime]

section
variable {r : RearDoor} {s : State} (away : childThere (child s r) = false)
include away

theorem childSettleExpired_retries (first : (child s r).retried = false) :
    childSettleExpired r s = setChild r { childDrive (child s r) with retried := true } s := by
  simp [childSettleExpired, away, first]

theorem childSettleExpired_fails (again : (child s r).retried = true) :
    childSettleExpired r s = raise .childFault (some (rearClosure r)) (setChild r (childStand .fault (child s r)) s) := by
  simp [childSettleExpired, away, again]

end

/-- Settles O46. -/
theorem lockDeadlinesRetryOnce : Obligations.LockDeadlinesRetryOnce := by
  intro s dt d c calm k now busy
  let v : State := reach d (elapse dt s)
  have calm' : Calm v := calm.of_same rfl rfl rfl rfl rfl
  have busy_iff (e : Closure) : closureBusy (closure v e) = true ↔ busy e := closureBusy_iff (closure s e)
  refine ⟨fun there driving => ?_, fun there settling away => ?_, fun f there retrying away flight noDue places waits => ?_,
    fun r there away => ⟨fun first => ?_, fun again places => ?_⟩⟩
  · exact answers_deadline (due := fun t => (closure t c).driveDeadline) (f := driveExpired c) rfl calm.supplied there
      (driveExpired_driving (s := v) driving) (calm.of_same rfl rfl rfl rfl rfl)
  · refine answers_deadline (due := fun t => (closure t c).settleDeadline) (f := settleExpired c) rfl calm.supplied there ?_
      (calm.of_same rfl rfl rfl rfl rfl)
    have driven : groupBusy (setClosure c (driveAt .retrying v.cfg.car.pulseSteps (closure v c)) v) = true := by
      refine List.any_eq_true.mpr ⟨c, by cases c <;> decide, ?_⟩
      rw [closure_setClosure]
      rfl
    exact (settleExpired_retries (s := v) settling away).trans (followGroup_waits driven)
  · have next := exec_deadline (i := .settleDeadline dt c) (due := fun t => (closure t c).settleDeadline)
      (f := settleExpired c) rfl calm.supplied there
    have ended : RetryOver f c v (settleExpired c v) := by
      rw [settleExpired_fails (s := v) retrying away]
      refine retryOver (s := v) flight noDue (waits.imp_left ?_)
      rintro ⟨e, apart, held⟩
      exact ⟨e, apart, (busy_iff e).mpr held⟩
    have same {α : Type} (g : State → α) (hg : ∀ u, g (lessActivity u) = g u) :
        g (finish (elapse dt s) (settleExpired c v)) = g (settleExpired c v) := finish_calm_same g hg _ (ended.calm calm')
    have record (cls : FaultClass) : faultRecord (settleExpired c v) cls = faultRecord (retryFailed c v) cls := by
      rw [faultRecord, ended.faults, faultRecord]
    refine ⟨_, next, ?_, ?_, ?_, ?_, ?_, fun held => ?_, fun alone => ?_⟩
    · rw [same (fun u => (closure u c).phase) fun _ => rfl, ended.closure]
      rfl
    · rw [same (fun u => (closure u c).target) fun _ => rfl, ended.closure]
      exact standAt_target .fault (closure v c)
    · exact (same State.timed fun _ => rfl).trans ended.timed
    · rw [same (fun u => (faultRecord u .lockFault).count) fun _ => rfl, record]
      exact faultRecord_raiseWith (s := setClosure c _ v) (by simp) places
    · rw [same (fun u => (faultRecord u .lockFault).last) fun _ => rfl, record]
      exact faultRecord_raiseWith_last (s := setClosure c _ v) (by simp) places
    · rw [same State.group fun _ => rfl]
      obtain ⟨e, apart, held⟩ := held
      exact ended.waits ⟨e, apart, (busy_iff e).mpr held⟩
    · rw [same State.group fun _ => rfl]
      obtain ⟨noFlight, tokens, locks, unlocks⟩ := ended.completes fun e apart => by
        rw [← Bool.not_eq_true, busy_iff]
        exact alone e apart
      exact ⟨noFlight, tokens, locks, fun h g => unlocks (by rintro (l | l) <;> contradiction)⟩
  · refine answers_deadline (due := fun t => (child t r).settleDeadline) (f := childSettleExpired r) rfl calm.supplied there ?_
      (calm.of_same rfl rfl rfl rfl rfl)
    exact childSettleExpired_retries (s := v) away first
  · have next := exec_deadline (i := .childSettleDeadline dt r) (due := fun t => (child t r).settleDeadline)
      (f := childSettleExpired r) rfl calm.supplied there
    have failed : childSettleExpired r (reach d (elapse dt s)) =
        raise .childFault (some (rearClosure r)) (setChild r (childStand .fault (child v r)) v) :=
      childSettleExpired_fails (s := v) away again
    rw [failed] at next
    have same {α : Type} (g : State → α) (hg : ∀ u, g (lessTraffic u) = g u) :
        g (raise .childFault (some (rearClosure r)) (setChild r (childStand .fault (child v r)) v)) =
          g (setChild r (childStand .fault (child v r)) v) := same_of_rest (raise_rest ..) g hg
    have after : Calm (raise .childFault (some (rearClosure r)) (setChild r (childStand .fault (child v r)) v)) :=
      calm'.of_same (same State.stage fun _ => rfl) (same (fun u => u.ctx.state) fun _ => rfl)
        (same (fun u => u.ctx.ignition) fun _ => rfl) (same State.channels fun _ => rfl)
        (same (fun u => u.cfg.modes) fun _ => rfl)
    refine ⟨_, next, ?_, ?_⟩
    · rw [finish_calm_same (fun u => (child u r).phase) (fun _ => rfl) _ after, same (fun u => (child u r).phase) fun _ => rfl,
        child_setChild]
      rfl
    · rw [finish_calm_same (fun u => (faultRecord u .childFault).count) (fun _ => rfl) _ after]
      exact faultRecord_raiseWith (s := setChild r _ v) (by simp) places

end Sys2Proof.Machine
end

section
/-!
PROOFS. The relock deadline and the pending request (R8, R11, R22).
-/

namespace Sys2Proof.Machine

/-- The close of a step of an AWAKE part that an awake hold keeps so. -/
theorem finish_held {b s : State} (run : s.stage = .run) (awake : s.ctx.state = .awake) (hold : awakeHold s = true)
    (rates : ∀ c, (channel s c).rate = chosenRate s c) : finish b s = s := by
  have unfolded : finish b s = closePages b (chooseRates (closeState (closeHold b s))) := by
    simp [finish, running, run]
  have noEnd : closeHold b s = s := by simp [closeHold, hold]
  have stays : closeState s = s := by simp [closeState, mayPark, maySinkDeep, hold]
  rw [unfolded, noEnd, stays, chooseRates_settled rates]
  simp [closePages, awake]

section
variable {r : LockRequest} {s : State}

/-- A request that arrives in a group that is ready notes its activity and is actuated. -/
theorem arriveLock_taken (h : LockReady s) (relock : r.source ≠ .autoRelock ∨ s.group.relockTimer = none)
    (plain : r.kind ≠ .crashUnlock) (drives : Drives r.kind s) : arriveLock r s = lockTaken 0 r (activity s) := by
  obtain ⟨last, idle, active⟩ := activity_eq s
  have ready : LockReady (withActivity last idle s) :=
    h.of_fields (h.alert.of_same rfl rfl rfl rfl rfl rfl) h.room rfl rfl rfl rfl
  rw [arriveLock_awake h.alert.run h.alert.awake plain, active, placeLock_ready ready relock plain,
    followGroup_taken 0 (s := withActivity last idle s) h.noSlot drives]

/-- While it drives a closure, the group keeps the part awake (R188). -/
theorem lockTaken_busy (dt : Nat) (drives : Drives r.kind s) : groupBusy (lockTaken dt r s) = true := by
  obtain ⟨c, named, away⟩ := drives
  refine List.any_eq_true.mpr ⟨c, by cases c <;> decide, ?_⟩
  rw [lockTaken_closure, if_pos named]
  simp [actuated, away, closureBusy]

theorem awakeHold_busy (busy : groupBusy s = true) : awakeHold s = true := by
  simp [awakeHold, holdFlags, busy]

theorem actuated_latch (target : LockTarget) (source : LockSource) (steps : Nat) (k : ClosureLock) :
    (actuated target source steps k).latch = k.latch := by
  simp only [actuated, apply_ite ClosureLock.latch, ite_self]

/-- A pending request that can be taken is actuated (R11). -/
theorem followGroup_pending (ready : LockReady { s with group := { s.group with slot := none } })
    (slot : s.group.slot = some r) (relock : r.source ≠ .autoRelock ∨ s.group.relockTimer = none)
    (plain : r.kind ≠ .crashUnlock) (drives : Drives r.kind s) :
    followGroup s = lockTaken 0 r { s with group := { s.group with slot := none } } := by
  let t : State := { s with group := { s.group with slot := none } }
  have first : completeOne s = (s, false) := by
    have noFlight : s.group.inFlight = none := ready.noFlight
    simp [completeOne, noFlight]
  have idle : groupBusy s = false := groupBusy_idle (s := t) ready.idle
  have can : Machine.ready s r = true := ready_reported r ready.alert.awake ready.reported
  have taken : takePending s = lockTaken 0 r t := by
    have request : takeRequest r t = actuate r t := by rw [takeRequest, lockRefusal_none ready]
    rw [takePending, slot]
    simp only [idle, can, Bool.not_true, Bool.or_self, Bool.false_eq_true, if_false]
    exact request.trans (actuate_eq ready relock plain)
  have again : completeOne (lockTaken 0 r t) = (lockTaken 0 r t, false) := by
    have busy := lockTaken_busy (s := t) 0 drives
    unfold completeOne
    split
    · rfl
    · rw [if_pos busy]
  simp [followGroup, first, taken, again, t]

end

/-- Settles O47. -/
theorem relockAndPendingAreActuated : Obligations.RelockAndPendingAreActuated := by
  intro s dt d all emptied
  refine ⟨fun ready there drives => ?_, fun r ready slot plain relock drives => ?_⟩
  · let r : LockRequest := ⟨.lockAll, .autoRelock, false⟩
    let v : State := reach d (elapse dt s)
    let w : State := { v with group := { v.group with relockTimer := none } }
    have ready' : LockReady w :=
      ⟨ready.alert.of_same rfl rfl rfl rfl rfl rfl, ready.room, ready.idle, ready.unsent, ready.noFlight, ready.noSlot,
        ready.reported, ready.present, ready.notForced, ready.tokens, ready.noHold, ready.noAjar⟩
    have drives' : Drives r.kind w := drives
    have taken := arriveLock_taken (r := r) ready' (.inr rfl) (by simp [r]) drives'
    have next : exec (.relockDeadline dt) s = .next (finish (elapse dt s) (lockTaken 0 r (activity w))) := by
      have meaning : exec (.relockDeadline dt) s = perform dt (fun t =>
        match t.group.relockTimer with
        | some timer => relockExpired timer.restore (reach timer.deadline t)
        | none => t) s := rfl
      rw [meaning, perform_supplied dt _ ready.alert.supplied, elapse_group, there, ← taken]
      rfl
    have noted : activity w = withActivity w.now (idleDeadlineOf (withActivity w.now w.ctx.idleDeadline w)) w := by
      rw [activity_run (s := w) ready.alert.run]
      rfl
    have alert : Alert (lockTaken 0 r (activity w)) := by
      rw [noted]
      exact ready.alert.of_same rfl rfl rfl rfl rfl rfl
    have last : (lockTaken 0 r (activity w)).ctx.lastActivity = (lockTaken 0 r (activity w)).now := by
      rw [noted]
      rfl
    have latches : idleDeadlineOf (lockTaken 0 r (activity w)) = idleDeadlineOf (activity w) := by
      have same (c : Closure) : (closure (lockTaken 0 r (activity w)) c).latch = (closure (activity w) c).latch := by
        rw [lockTaken_closure]
        split
        · exact actuated_latch ..
        · rfl
      simp only [idleDeadlineOf, anyAjar, same]
      rfl
    have idle : (lockTaken 0 r (activity w)).ctx.idleDeadline = idleDeadlineOf (lockTaken 0 r (activity w)) := by
      rw [latches, noted]
      rfl
    rw [finish_active alert last idle] at next
    refine ⟨_, next, ?_, last, idle⟩
    have later : s.now + (max (s.now + dt) d - s.now) = max (s.now + dt) d := by omega
    rw [noted, lockedBy, later]
    rfl
  · have run : (elapse dt s).stage = .run := ready.alert.run
    let v : State := { elapse dt s with group := { s.group with slot := none } }
    have next : exec (.pendingRequestTaken dt) s = .next (finish (elapse dt s) (lockTaken 0 r v)) := by
      have meaning : exec (.pendingRequestTaken dt) s = perform dt (fun t => if running t then followGroup t else t) s := rfl
      have on : running (elapse dt s) = true := beq_iff_eq.mpr run
      have ready' : LockReady v := ready.of_fields (ready.alert.of_same rfl rfl rfl rfl rfl rfl) ready.room rfl rfl rfl rfl
      rw [meaning, perform_supplied (s := s) dt _ ready.alert.supplied, if_pos on,
        followGroup_pending (s := elapse dt s) ready' slot relock plain drives]
      rfl
    have hold := awakeHold_busy (lockTaken_busy (r := r) (s := v) 0 drives)
    rw [finish_held (s := lockTaken 0 r v) run ready.alert.awake hold
      (ready.alert.of_same rfl rfl rfl rfl rfl rfl : Alert (lockTaken 0 r v)).rates] at next
    exact ⟨_, next, rfl⟩

end Sys2Proof.Machine
end

section
/-!
PROOFS. The retained, normalization and run-time deadlines (R51, R56, R62).
-/

namespace Sys2Proof.Machine

theorem Calm.of_motion {s t : State} (calm : Calm s) (rest : lessMotion t = lessMotion s) : Calm t :=
  have same {α : Type} (f : State → α) (hf : ∀ u, f (lessMotion u) = f u) : f t = f s := same_of_motion rest f hf
  calm.of_same (same State.stage fun _ => rfl) (same (fun u => u.ctx.state) fun _ => rfl)
    (same (fun u => u.ctx.ignition) fun _ => rfl) (same State.channels fun _ => rfl)
    (same (fun u => u.cfg.modes) fun _ => rfl)

/-! ## The window whose motion ends (R63) -/

/-- The record of a motion, entry or reversal that ended, other than by a loss. -/
theorem endMotionRecord_ended {w : WindowId} {outcome : MotionOutcome} {s : State} (kept : outcome ≠ .lost)
    (out : (window s w).state = .waiting ∨ windowMoving (window s w) = true) :
    (window (endMotionRecord w outcome s) w).state = .idle ∧
      (window (endMotionRecord w outcome s) w).lastOutcome = some outcome ∧
      (window (endMotionRecord w outcome s) w).origin = none ∧
      (windowMoving (window s w) = true → (window (endMotionRecord w outcome s) w).normHold = none) := by
  unfold endMotionRecord
  by_cases waits : (window s w).state = .waiting
  · have still : ¬windowMoving (window s w) = true := by simp [windowMoving, waits]
    rw [if_pos (beq_iff_eq.mpr waits)]
    have record : window (endWaiting w outcome s) w = _ := window_setWindow ..
    rw [record]
    exact ⟨if_neg (by simpa using kept), rfl, rfl, fun moves => absurd moves still⟩
  · have moves := out.resolve_left waits
    rw [if_neg (by simpa using waits), if_pos moves]
    have record : window (endRunning w (some outcome) s) w = endedRecord (windowCfg s w).travel (some outcome) (window s w) :=
      window_setWindow ..
    have idle : (if some outcome == some MotionOutcome.lost then WindowState.fault else .idle) = .idle :=
      if_neg (by simpa using kept)
    rw [record, endedRecord, idle]
    split <;> exact ⟨rfl, rfl, rfl, fun _ => rfl⟩

theorem not_enginesOwn_idle {x : Window} (idle : x.state = .idle) : ¬EnginesOwn x := by
  rintro ⟨_, h | h | h⟩ <;> rw [idle] at h <;> cases h

section
variable {v : WindowId} {s : State} (free : ¬EnginesOwn (window s v))
include free

/-- An abort leaves a window that has no motion or entry of the engine's. -/
theorem abort_window (cause : AbortCause) : window (abort cause s) v = window s v := by
  unfold abort
  split
  · rfl
  · have stops (steps : List OpStep) :
        window (steps.foldl (fun t x => stopForEngine x.window t) s) v = window s v := by
      rcases stops_window steps s v with ⟨same, _⟩ | ⟨own, _⟩
      · exact same
      · exact absurd own free
    rw [window, endOperation_windows]
    exact stops _

theorem crashTest_window : window (crashTest s) v = window s v := by
  unfold crashTest
  split
  · exact abort_window free _
  · rfl

/-- So does a status handed to the engine. -/
theorem handStatus_window (w : WindowId) (status : StepStatus) : window (handStatus w status s) v = window s v := by
  have tested := crashTest_window free
  have still : ¬EnginesOwn (window (crashTest s) v) := by rwa [tested]
  unfold handStatus
  generalize crashTest s = u at tested still
  have aborts (op : OpEngine) : window (abort .pinchAbort { u with op := op }) v = window s v :=
    (abort_window (s := { u with op := op }) still _).trans tested
  dsimp only
  split
  · exact tested
  · split
    · exact tested
    · split
      · exact aborts _
      · unfold keepOrEnd
        split
        · rw [window, endOperation_windows]
          exact tested
        · exact tested

end

/-- A motion, entry or reversal that ends, whatever its origin. -/
theorem endMotion_ended {w : WindowId} {outcome : MotionOutcome} {s : State} (kept : outcome ≠ .lost)
    (out : (window s w).state = .waiting ∨ windowMoving (window s w) = true) :
    window (endMotion w outcome s) w = window (endMotionRecord w outcome s) w := by
  obtain ⟨idle, _⟩ := endMotionRecord_ended kept out
  unfold endMotion handOutcome
  dsimp only
  split
  · split
    · split
      · exact handStatus_window (not_enginesOwn_idle idle) ..
      · rfl
    · rfl
  · rfl

/-! ## The end of honouring (R51) -/

/-- One window's turn at the end of honouring. -/
def releaseHeld (t : State) (w : WindowId) : State :=
  if (window t w).held && switchOrigin (window t w).origin &&
      ((window t w).state == .waiting || inMotion (window t w)) then endMotion w .released t
  else t

theorem endHonouring_eq (s : State) : endHonouring s = allWindows.foldl releaseHeld s := rfl

/-- A held motion or entry of a switch. -/
def HeldOut (x : Window) : Prop :=
  x.held = true ∧ switchOrigin x.origin = true ∧ (x.state = .waiting ∨ x.state = .movingManual ∨ x.state = .movingAuto)

theorem releaseHeld_held {t : State} {w : WindowId} (held : HeldOut (window t w)) :
    (window (releaseHeld t w) w).state = .idle ∧ (window (releaseHeld t w) w).lastOutcome = some .released := by
  obtain ⟨held, origin, out⟩ := held
  have goes : (window t w).state = .waiting ∨ windowMoving (window t w) = true := by
    rcases out with h | h | h <;> simp [windowMoving, h]
  have taken : releaseHeld t w = endMotion w .released t := by
    refine if_pos ?_
    rcases out with h | h | h <;> simp [held, origin, inMotion, h]
  obtain ⟨idle, outcome, _⟩ := endMotionRecord_ended (outcome := .released) (by simp) goes
  rw [taken, endMotion_ended (by simp) goes]
  exact ⟨idle, outcome⟩

/-- Nothing is handed to the engine for a switch's motion (R63). -/
theorem releaseHeld_eq (t : State) (w : WindowId) :
    releaseHeld t w = t ∨ releaseHeld t w = endMotionRecord w .released t := by
  unfold releaseHeld
  split
  · next held =>
    simp only [Bool.and_eq_true] at held
    obtain ⟨⟨_, origin⟩, _⟩ := held
    have plain : operationOrigin (window t w).origin = false := by
      revert origin
      cases (window t w).origin with
      | none => decide
      | some o => cases o <;> decide
    exact .inr (by simp [endMotion, handOutcome, plain])
  · exact .inl rfl

theorem releaseHeld_other {t : State} {w v : WindowId} (h : v ≠ w ∨ (window t v).state = .idle) :
    window (releaseHeld t w) v = window t v := by
  by_cases other : v = w
  · subst other
    have idle := h.resolve_left fun apart => apart rfl
    have still : releaseHeld t v = t := if_neg (by simp [inMotion, idle])
    rw [still]
  · rcases releaseHeld_eq t w with same | ended
    · rw [same]
    · rw [ended]
      exact endMotionRecord_window_other other ..

/-- At the end of honouring every held motion and entry of a switch ends RELEASED. -/
theorem endHonouring_held {s : State} {w : WindowId} (held : HeldOut (window s w)) :
    (window (endHonouring s) w).state = .idle ∧ (window (endHonouring s) w).lastOutcome = some .released := by
  have settled (l : List WindowId) (t : State)
      (idle : (window t w).state = .idle ∧ (window t w).lastOutcome = some .released) :
      (window (l.foldl releaseHeld t) w).state = .idle ∧
        (window (l.foldl releaseHeld t) w).lastOutcome = some .released := by
    induction l generalizing t with
    | nil => exact idle
    | cons v l ih => exact ih _ (by rwa [releaseHeld_other (.inr idle.1)])
  have turns (l : List WindowId) (mem : w ∈ l) (t : State) (held : HeldOut (window t w)) :
      (window (l.foldl releaseHeld t) w).state = .idle ∧
        (window (l.foldl releaseHeld t) w).lastOutcome = some .released := by
    induction l generalizing t with
    | nil => cases mem
    | cons v l ih =>
      by_cases here : w = v
      · subst here
        exact settled l _ (releaseHeld_held held)
      · exact ih ((List.mem_cons.mp mem).resolve_left here) _ (by rwa [releaseHeld_other (.inl here)])
  rw [endHonouring_eq]
  exact turns allWindows (by cases w <;> decide) s held

/-! ## What the end of a motion leaves of the fault table -/

/-- `t` has the fault table of `s`, but for TX_OVERFLOW. -/
structure FaultsKept (s t : State) : Prop where
  length : t.faults.length = s.faults.length
  record : ∀ cls, cls ≠ .txOverflow → faultRecord t cls = faultRecord s cls

namespace FaultsKept

theorem of_faults {s t : State} (h : t.faults = s.faults) : FaultsKept s t :=
  ⟨by rw [h], fun cls _ => by rw [faultRecord, h, faultRecord]⟩

theorem refl (s : State) : FaultsKept s s := .of_faults rfl

theorem trans {s t u : State} (h : FaultsKept s t) (g : FaultsKept t u) : FaultsKept s u :=
  ⟨g.length.trans h.length, fun cls other => (g.record cls other).trans (h.record cls other)⟩

end FaultsKept

theorem offer_faultsKept (f : TxFrame) (s : State) : FaultsKept s (offer f s) := by
  refine ⟨?_, fun cls other => faultRecord_offer other f s⟩
  have overflow : (raiseTxOverflow s).faults.length = s.faults.length := by
    unfold raiseTxOverflow
    dsimp only
    split
    · exact List.length_set ..
    · split <;> exact List.length_set ..
  unfold offer
  split
  · split
    · rfl
    · exact overflow
  · rfl

theorem endMotionRecord_faultsKept (w : WindowId) (outcome : MotionOutcome) (s : State) :
    FaultsKept s (endMotionRecord w outcome s) := .of_faults (endMotionRecord_same State.faults (fun _ _ _ => rfl) ..)

theorem endOperation_faultsKept (op : ActiveOp) (s : State) : FaultsKept s (endOperation op s) := by
  have ended (record : OpEngine) : FaultsKept s { s with op := record } := .of_faults rfl
  exact (ended _).trans (offer_faultsKept ..)

theorem abort_faultsKept (cause : AbortCause) (s : State) : FaultsKept s (abort cause s) := by
  have stops (steps : List OpStep) (t : State) :
      FaultsKept t (steps.foldl (fun t x => stopForEngine x.window t) t) :=
    .of_faults (foldl_stopForEngine_same State.faults (fun _ _ _ => rfl) steps
      (fun _ _ u => endMotionRecord_same State.faults (fun _ _ _ => rfl) _ _ u) t)
  unfold abort
  split
  · exact .refl s
  · exact (stops _ s).trans (endOperation_faultsKept ..)

theorem handStatus_faultsKept (w : WindowId) (status : StepStatus) (s : State) : FaultsKept s (handStatus w status s) := by
  have tested : FaultsKept s (crashTest s) := by
    unfold crashTest
    split
    · exact abort_faultsKept ..
    · exact .refl s
  unfold handStatus
  generalize crashTest s = u at tested
  have marked (op : OpEngine) : FaultsKept s { u with op := op } := tested.trans (.of_faults rfl)
  have aborts (op : OpEngine) : FaultsKept s (abort .pinchAbort { u with op := op }) :=
    (marked op).trans (abort_faultsKept ..)
  have ends (op : ActiveOp) : FaultsKept s (keepOrEnd op u) := by
    unfold keepOrEnd
    split
    · exact tested.trans (endOperation_faultsKept ..)
    · exact marked _
  dsimp only
  split
  · exact tested
  · split
    · exact tested
    · split
      · exact aborts _
      · exact ends _

theorem endMotion_faultsKept (w : WindowId) (outcome : MotionOutcome) (s : State) :
    FaultsKept s (endMotion w outcome s) := by
  have ended := endMotionRecord_faultsKept w outcome s
  unfold endMotion handOutcome
  dsimp only
  split
  · split
    · split
      · exact ended.trans (handStatus_faultsKept ..)
      · exact ended
    · exact ended
  · exact ended

/-! ## What the close of a step leaves of the windows -/

/-- The windows and the motion record, but for what drives write. -/
structure MotionDriven (s t : State) : Prop where
  windows : WindowsDriven s t
  retained : t.motion.retained = s.motion.retained

namespace MotionDriven

theorem of_same {s t : State} (windows : t.windows = s.windows) (motion : t.motion = s.motion) : MotionDriven s t :=
  ⟨⟨fun w => by rw [window, windows, window], by rw [motion], by rw [motion]⟩, by rw [motion]⟩

theorem refl (s : State) : MotionDriven s s := .of_same rfl rfl

theorem trans {s t u : State} (h : MotionDriven s t) (g : MotionDriven t u) : MotionDriven s u :=
  ⟨h.windows.trans g.windows, g.retained.trans h.retained⟩

end MotionDriven

theorem sendDrive_retained (c : Closure) (s : State) : (sendDrive c s).motion.retained = s.motion.retained := by
  have motor (motor : MotorCommand) (t : State) : (sentMotor c motor t).motion.retained = t.motion.retained := by
    unfold sentMotor
    split <;> rfl
  have child (t : State) : (sentChild c t).motion.retained = t.motion.retained := by
    unfold sentChild
    split <;> rfl
  have noted : (noteSent c (buildDrive s c) s).motion.retained = s.motion.retained := by
    unfold noteSent
    split
    · exact (motor _ _).trans (child _)
    · exact motor _ _
  exact noted

theorem chooseRates_motion (s : State) : MotionDriven s (chooseRates s) := by
  refine ⟨chooseRates_driven s, ?_⟩
  rw [chooseRates_fold]
  generalize allClosures = l
  induction l generalizing s with
  | nil => rfl
  | cons c l ih =>
    rw [List.foldl_cons, ih]
    unfold rateChosen setRate
    dsimp only
    split
    · rfl
    · split
      · rfl
      · split
        · exact sendDrive_retained ..
        · rfl

theorem activity_motion (s : State) : MotionDriven s (activity s) := by
  rw [(activity_agreesWith s).eq]
  exact .of_same rfl rfl

theorem offerPages_motion (s : State) : MotionDriven s (offerPages s) :=
  .of_same (offerPages_same State.windows (fun _ => rfl) s) (offerPages_same State.motion (fun _ => rfl) s)

/-- The close of a step sends drives, and stops no motion. -/
theorem finish_motion (b s : State) : MotionDriven s (finish b s) := by
  have parked (t : State) : MotionDriven t (enterParked t) := by
    have parks (u : State) : MotionDriven u (parkSave u) := by
      unfold parkSave
      split <;> exact .of_same rfl rfl
    have enters (ctx : Context) (next : Option Nat) : MotionDriven t { t with ctx := ctx, nextStatus := next } :=
      .of_same rfl rfl
    unfold enterParked
    dsimp only
    refine MotionDriven.trans ?_ (parks _)
    refine MotionDriven.trans ?_ (offerPages_motion _)
    exact (enters _ _).trans (chooseRates_motion _)
  have deep (t : State) : MotionDriven t (enterDeep t) := by
    have enters (ctx : Context) (timed : Option TimedPattern) : MotionDriven t { t with ctx := ctx, timed := timed } :=
      .of_same rfl rfl
    unfold enterDeep
    exact MotionDriven.trans (enters _ _) (chooseRates_motion _)
  have held : MotionDriven s (closeHold b s) := by
    unfold closeHold
    split
    · exact activity_motion s
    · exact .refl s
  have state (t : State) : MotionDriven t (closeState t) := by
    have parks : MotionDriven t (if mayPark t then enterParked t else t) := by
      split
      · exact parked t
      · exact .refl t
    have sinks (u : State) : MotionDriven u (if maySinkDeep u then enterDeep u else u) := by
      split
      · exact deep u
      · exact .refl u
    unfold closeState
    exact parks.trans (sinks _)
  have pages (t : State) : MotionDriven t (closePages b t) := by
    unfold closePages
    split
    · exact offerPages_motion t
    · exact .refl t
  unfold finish
  split
  · exact ((held.trans (state _)).trans (chooseRates_motion _)).trans (pages _)
  · exact .refl s

/-! ## The deadlines -/

theorem dropRetained_off {s : State} {d : Nat} (there : s.motion.retained = some d) (off : s.ctx.ignition = .off) :
    dropRetained s = endHonouring { s with motion := { s.motion with retained := none } } := by
  simp [dropRetained, there, off]

theorem dropRetained_run {s : State} {d : Nat} (there : s.motion.retained = some d) (on : s.ctx.ignition = .run) :
    dropRetained s = { s with motion := { s.motion with retained := none } } := by
  simp [dropRetained, there, on]

theorem endHonouring_retained (s : State) : (endHonouring s).motion.retained = s.motion.retained := by
  have ended (w : WindowId) (t : State) : (endMotionRecord w .released t).motion.retained = t.motion.retained := by
    unfold endMotionRecord
    split
    · rfl
    · split <;> rfl
  have turn (t : State) (w : WindowId) : (releaseHeld t w).motion.retained = t.motion.retained := by
    rcases releaseHeld_eq t w with h | h
    · rw [h]
    · rw [h, ended]
  have turns (l : List WindowId) (t : State) : (l.foldl releaseHeld t).motion.retained = t.motion.retained := by
    induction l generalizing t with
    | nil => rfl
    | cons w l ih => exact (ih _).trans (turn t w)
  exact turns allWindows s

/-- Settles O48. -/
theorem windowDeadlinesEndTheMotion : Obligations.WindowDeadlinesEndTheMotion := by
  intro s dt d
  let v : State := reach d (elapse dt s)
  refine ⟨fun calm there run => ?_, fun run off there => ?_, ?_, ?_⟩
  · exact answers_deadline (due := fun t => t.motion.retained) (f := dropRetained) rfl calm.supplied there
      (dropRetained_run (s := v) there (calm.ignition run)) (calm.of_same rfl rfl rfl rfl rfl)
  · have next := exec_deadline (i := .retainedDeadline dt) (due := fun t => t.motion.retained) (f := dropRetained) rfl
      (by simp [run]) there
    have ends : dropRetained (reach d (elapse dt s)) = endHonouring { v with motion := { v.motion with retained := none } } :=
      dropRetained_off (s := v) there off
    rw [ends] at next
    have closed := finish_motion (elapse dt s) (endHonouring { v with motion := { v.motion with retained := none } })
    refine ⟨_, next, ?_, ?_⟩
    · rw [closed.retained, endHonouring_retained]
    · intro w x held origin out
      have switch : switchOrigin x.origin = true := by rcases origin with h | h <;> rw [h] <;> rfl
      obtain ⟨idle, outcome⟩ := endHonouring_held (s := { v with motion := { v.motion with retained := none } }) (w := w)
        ⟨held, switch, out⟩
      rw [closed.windows.same (·.state) (fun _ => rfl) w, closed.windows.same (·.lastOutcome) (fun _ => rfl) w]
      exact ⟨idle, outcome⟩
  · intro w x calm there moving origin
    have moves : windowMoving (window v w) = true := by simp [windowMoving, show (window v w).state = _ from moving]
    have next := exec_deadline (i := .normalizationHoldDeadline dt w) (due := fun t => (window t w).normHold)
      (f := normalize w) rfl calm.supplied there
    obtain ⟨idle, outcome, _, noHold⟩ := endMotionRecord_ended (w := w) (outcome := .reached) (by simp) (.inr moves)
    have ended := endMotion_ended (w := w) (outcome := .reached) (by simp) (.inr moves)
    have record : window (normalize w v) w =
        { window (endMotionRecord w .reached v) w with position := 0, normalized := true, requested := 0 } := by
      rw [normalize, window_setWindow, ended]
    have closed := (finish_motion (elapse dt s) (normalize w v)).windows
    refine ⟨_, next, ?_, ?_, ?_, ?_, ?_, ?_⟩
    · rw [closed.same (·.position) (fun _ => rfl) w, record]
    · rw [closed.same (·.normalized) (fun _ => rfl) w, record]
    · rw [closed.same (·.requested) (fun _ => rfl) w, record]
    · rw [closed.same (·.state) (fun _ => rfl) w, record]
      exact idle
    · rw [closed.same (·.lastOutcome) (fun _ => rfl) w, record]
      exact outcome
    · rw [closed.same (·.normHold) (fun _ => rfl) w, record]
      exact noHold moves
  · intro w x calm there out places
    let u : State := reach (d + 8000) (elapse dt s)
    have moves : windowMoving (window u w) = true := by
      have state : (window u w).state = x.state := rfl
      rcases out with h | h | h <;> simp [windowMoving, state, h]
    have limit : runLimit (window (elapse dt s) w) = some (d + 8000) := by
      have same : window (elapse dt s) w = x := rfl
      have moves' : windowMoving x = true := moves
      rw [same, runLimit, if_pos moves', there]
      rfl
    have next := exec_deadline (i := .runTimeLimit dt w) (due := fun t => runLimit (window t w)) (f := runTimeOut w) rfl
      calm.supplied limit
    obtain ⟨idle, outcome, _⟩ := endMotionRecord_ended (s := u) (w := w) (outcome := .runtime) (by simp) (.inr moves)
    have ended := endMotion_ended (s := u) (w := w) (outcome := .runtime) (by simp) (.inr moves)
    have raised {α : Type} (g : State → α) (hg : ∀ u, g (lessTraffic u) = g u) :
        g (runTimeOut w u) = g (endMotion w .runtime u) := same_of_rest (raise_rest ..) g hg
    have after : Calm (runTimeOut w u) := Calm.of_motion (s := u) (calm.of_same rfl rfl rfl rfl rfl)
      ((lessMotion_of_traffic (raise_rest ..)).trans (endMotion_lessMotion ..))
    have same {α : Type} (g : State → α) (hg : ∀ u, g (lessActivity u) = g u) :
        g (finish (elapse dt s) (runTimeOut w u)) = g (runTimeOut w u) := finish_calm_same g hg _ after
    have kept := endMotion_faultsKept w .runtime u
    refine ⟨_, next, ?_, ?_, ?_, ?_⟩
    · rw [same State.now fun _ => rfl, raised State.now fun _ => rfl]
      exact same_of_motion (endMotion_lessMotion ..) State.now fun _ => rfl
    · rw [same (fun u => (window u w).state) fun _ => rfl, raised (fun u => (window u w).state) fun _ => rfl, ended]
      exact idle
    · rw [same (fun u => (window u w).lastOutcome) fun _ => rfl, raised (fun u => (window u w).lastOutcome) fun _ => rfl, ended]
      exact outcome
    · rw [same (fun u => (faultRecord u .runtime).count) fun _ => rfl]
      have counted := faultRecord_raiseWith (detail := none) (cls := .runtime) (who := some (windowClosure w))
        (s := endMotion w .runtime u) (by simp) (kept.length.trans places)
      rw [kept.record .runtime (by simp)] at counted
      exact counted

end Sys2Proof.Machine
end

section
/-!
PROOFS. The deadlines of the lease, the searches and the held frames (R125, R136, R156), the status period and the entries
into PARKED and DEEP (R162, R163, R176, R189 to R191).
-/

namespace Sys2Proof.Machine

/-- Settles O49. -/
theorem leaseSearchAndTrapExpire : Obligations.LeaseSearchAndTrapExpire := by
  intro s dt d steady
  let v : State := reach d (elapse dt s)
  have calm : Calm v := steady.toCalm.of_same rfl rfl rfl rfl rfl
  refine ⟨fun op active lease noCause noHold => ?_, fun n x there due => ?_, fun ticket f rest held own due single room => ?_⟩
  · have there : (elapse dt s).op.active.bind (·.lease) = some d := by simp [active, lease]
    have next := exec_deadline (i := .leaseDeadline dt) (due := fun t => t.op.active.bind (·.lease))
      (f := fun u => abort .leaseLost (crashTest u)) rfl steady.supplied there
    have tested : crashTest (reach d (elapse dt s)) = v := crashTest_free (s := v) noHold
    rw [tested] at next
    have rest : lessMotion (abort .leaseLost v) = lessMotion v := abort_lessMotion v _
    have ended : (abort .leaseLost v).op = { s.op with
        active := none, lastOp := some (endedOp op (some .leaseLost) (stepsCancelled op.steps)) } := by
      rw [abort_active (s := v) active, endOperation_op, stopsMade_op, noCause]
      rfl
    have after : Calm (abort .leaseLost v) := calm.of_motion rest
    refine ⟨_, next, ?_, ?_, ?_⟩
    · rw [finish_calm_same State.op (fun _ => rfl) _ after, ended]
    · rw [finish_calm_same State.op (fun _ => rfl) _ after, ended]
      simp only [endedOp, stepsCancelled, openStep, Bool.or_eq_true, beq_iff_eq]
    · rw [finish_calm_same State.group (fun _ => rfl) _ after]
      exact same_of_motion rest State.group fun _ => rfl
  · have open_ : slot (elapse dt s) n = some x := by simp [slot, there]
    have next : exec (.searchDeadline dt n) s = .next (finish (elapse dt s) (closeSlot n x .noKey none v)) := by
      have meaning : exec (.searchDeadline dt n) s = perform dt (fun t =>
          match slot t n with
          | some x => closeSlot n x .noKey none (reach x.deadline t)
          | none => t) s := rfl
      rw [meaning, perform_supplied dt _ steady.supplied, open_]
      dsimp only
      rw [due]
    exact ⟨_, next, finish_calm_agrees _ (s := closeSlot n x .noKey none v) (calm.of_same rfl rfl rfl rfl rfl)⟩
  · have found : heldFrame (elapse dt s) ticket.toNat = some f := by simp [heldFrame, held, own]
    have next : exec (.trapExpiry dt ticket) s = .next (finish (elapse dt s) (expireFrame f v)) := by
      have meaning : exec (.trapExpiry dt ticket) s = perform dt (fun t =>
          match heldFrame t ticket.toNat with
          | some f => expireFrame f (reach f.expiry t)
          | none => t) s := rfl
      rw [meaning, perform_supplied dt _ steady.supplied, found]
      dsimp only
      rw [due]
    have left : (f :: rest).filter (fun g => g.ticket != f.ticket) = rest := by
      rw [List.filter_cons, if_neg (by simp)]
      exact List.filter_eq_self.mpr fun g mem => by simpa using single g mem
    have freed : freeTrap f.ticket v = { v with trap := { s.trap with held := rest } } := by
      have there : v.trap.held = f :: rest := held
      rw [freeTrap, there, left]
      rfl
    have dropped : expireFrame f v = { v with
        trap := { s.trap with held := rest }
        tx := s.tx ++ [⟨.other, s.mgmt.base + 2#11, trapNoticeData true f, false⟩] } := by
      rw [expireFrame, freed]
      exact offerNotice_room (s := { v with trap := { s.trap with held := rest } }) steady.run room
    rw [dropped] at next
    exact ⟨_, next, finish_calm_agrees _ (calm.of_same rfl rfl rfl rfl rfl)⟩

/-! ## The lamps of a channel (02 section 2.5) -/

theorem channelLamps_next (s : State) (c : Closure) :
    channelLamps s c = ((nextDrive c s).lockLamp, (nextDrive c s).childLamp, (nextDrive c s).lockoutLamp) := by
  have base : basePattern s =
      if ∀ d ∈ [Closure.fl, .fr, .rl, .rr], (closure s d).sensed = .deadlocked then .slow else .off := by
    simp [basePattern]
  have lock : lockLamp s = (s.timed.map (·.pattern)).getD
      (if ∀ d ∈ [Closure.fl, .fr, .rl, .rr], (closure s d).sensed = .deadlocked then .slow else .off) := by
    rw [lockLamp, base]
    cases s.timed <;> rfl
  have child_ : childLamp s =
      if (child s .rl).phase = .fault ∨ (child s .rr).phase = .fault then .fast
      else if (child s .rl).target ≠ (child s .rr).target then .slow
      else if (child s .rl).target = .engaged then .steady
      else .off := by
    have fault : (allRearDoors.any fun d => (child s d).phase == .fault) = true ↔
        (child s .rl).phase = .fault ∨ (child s .rr).phase = .fault := by simp [allRearDoors]
    unfold childLamp
    simp only [fault]
    split
    · rfl
    · cases (child s .rl).target <;> cases (child s .rr).target <;> rfl
  simp only [channelLamps, nextDrive, lock, child_, lockoutLamp, beq_iff_eq, ne_eq, ite_not, ite_and]

theorem lampLit_iff (s : State) (c : Closure) : lampLit s c = true ↔
    (nextDrive c s).lockLamp ≠ .off ∨ (nextDrive c s).childLamp ≠ .off ∨ (nextDrive c s).lockoutLamp ≠ .off := by
  simp only [lampLit, channelLamps_next, Bool.or_eq_true, bne_iff_ne, or_assoc]

/-! ## The status period (R162, R163) -/

/-- A status page with no queued frame that it replaces joins the tail of a queue with room (R160 A). -/
theorem offer_page {f : TxFrame} {s : State} (run : s.stage = .run) (room : s.tx.length < Config.txPlaces)
    (kind : f.kind = .statusPage) (fresh : ∀ g ∈ s.tx, f.id ≠ g.id) : offer f s = { s with tx := s.tx ++ [f] } := by
  have none_ : s.tx.findIdx? (replaces f) = none := by
    refine List.findIdx?_eq_none_iff.mpr fun g mem => ?_
    have other := fresh g mem
    cases h : g.kind <;> simp [replaces, kind, h, other]
  simp [offer, txTakes, running, run, enqueue, none_, room]

theorem foldl_offer_pages {pages : List TxFrame} {s : State} (run : s.stage = .run)
    (room : s.tx.length + pages.length ≤ Config.txPlaces) (kinds : ∀ f ∈ pages, f.kind = .statusPage)
    (distinct : ((s.tx ++ pages).map (·.id)).Nodup) :
    pages.foldl (fun t f => offer f t) s = { s with tx := s.tx ++ pages } := by
  induction pages generalizing s with
  | nil => simp
  | cons f rest ih =>
    have fresh : ∀ g ∈ s.tx, f.id ≠ g.id := by
      rw [List.map_append, List.map_cons, List.nodup_append] at distinct
      obtain ⟨_, _, apart⟩ := distinct
      exact fun g mem same => apart _ (List.mem_map.mpr ⟨g, mem, rfl⟩) _ (List.mem_cons_self ..) same.symm
    have first := offer_page run (by rw [List.length_cons] at room; omega) (kinds f (List.mem_cons_self ..)) fresh
    rw [List.foldl_cons, first, ih (s := { s with tx := s.tx ++ [f] }) run (by simp at room ⊢; omega)
      (fun g mem => kinds g (List.mem_cons_of_mem _ mem)) (by simpa using distinct)]
    simp

/-- The four pages of one snapshot join an empty queue in page order. -/
theorem offerPages_empty {s : State} (run : s.stage = .run) (empty : s.tx = []) :
    offerPages s = { s with tx :=
      [pageFrame s 0 (page0 s), pageFrame s 1 (page1 s), pageFrame s 2 (windowBytes s .fl ++ windowBytes s .fr),
       pageFrame s 3 (windowBytes s .rl ++ windowBytes s .rr)] } := by
  have joined := foldl_offer_pages (s := s)
    (pages := [pageFrame s 0 (page0 s), pageFrame s 1 (page1 s), pageFrame s 2 (windowBytes s .fl ++ windowBytes s .fr),
      pageFrame s 3 (windowBytes s .rl ++ windowBytes s .rr)]) run (by simp [empty, Config.txPlaces])
    (by simp [pageFrame]) (by simp [empty, pageFrame])
  rw [empty] at joined
  exact joined

/-! ## PARKED and DEEP (R189 to R191) -/

theorem chosenRate_parked {s : State} (run : s.stage = .run) (parked : s.ctx.state = .parked) (c : Closure) :
    (s.cfg.modes.get c = .forcedOn → chosenRate s c = .fast) ∧ (s.cfg.modes.get c = .forcedOff → chosenRate s c = .off) ∧
      (s.cfg.modes.get c = .auto →
        chosenRate s c = if s.cfg.key.touch.get c = true ∨ lampLit s c = true then .slow else .off) := by
  refine ⟨fun mode => ?_, fun mode => ?_, fun mode => ?_⟩ <;> simp [chosenRate, run, parked, mode]

theorem chosenRate_deep {s : State} (run : s.stage = .run) (deep : s.ctx.state = .deep) (c : Closure) :
    (s.cfg.modes.get c = .forcedOn → chosenRate s c = .fast) ∧ (s.cfg.modes.get c = .auto → chosenRate s c = .off) := by
  refine ⟨fun mode => ?_, fun mode => ?_⟩ <;> simp [chosenRate, run, deep, mode]

/-- The part in PARKED, before the drives that the new rates send. -/
def parkBegun (s : State) : State :=
  { s with
    ctx := { s.ctx with state := .parked, deepDeadline := some (s.now + deepDelay s), parkedAt := some s.now }
    nextStatus := none }

/-- Any field but those that the pages and the save touch. -/
theorem enterParked_rest {α : Type} (f : State → α) (ht : ∀ u, f (lessTraffic u) = f u)
    (hs : ∀ (u : State) store, f { u with store := store } = f u) (s : State) :
    f (enterParked s) = f (chooseRates (parkBegun s)) := by
  have saved (u : State) : f (parkSave u) = f u := by
    unfold parkSave
    split
    · exact hs ..
    · exact hs u { u.store with parkKept := false, snapshot := some (savedTables u) }
  have unfolded : enterParked s = parkSave (offerPages (chooseRates (parkBegun s))) := rfl
  rw [unfolded, saved, offerPages_same f ht]

/-- Any field but those that drives, the pages and the save touch. -/
theorem enterParked_same {α : Type} (f : State → α) (hd : ∀ u, f (lessDrives u) = f u)
    (ht : ∀ u, f (lessTraffic u) = f u) (hs : ∀ (u : State) store, f { u with store := store } = f u) (s : State) :
    f (enterParked s) = f (parkBegun s) := by
  rw [enterParked_rest f ht hs, (chooseRates_sent _).same f hd]

/-- The save that PARKED hands over (R190, R208). -/
theorem enterParked_store (s : State) :
    (s.store.snapshot = none → s.store.lockCell = none → (enterParked s).store.snapshot = some s.cfg) ∧
      (s.store.snapshot.isSome → (enterParked s).store.parkKept = true) := by
  have unfolded : enterParked s = parkSave (offerPages (chooseRates (parkBegun s))) := rfl
  have store : (offerPages (chooseRates (parkBegun s))).store = s.store :=
    (offerPages_same State.store (fun _ => rfl) _).trans ((chooseRates_sent _).same State.store fun _ => rfl)
  have cfg : (offerPages (chooseRates (parkBegun s))).cfg = s.cfg :=
    (offerPages_same State.cfg (fun _ => rfl) _).trans (chooseRates_sent _).cfg
  rw [unfolded]
  generalize offerPages (chooseRates (parkBegun s)) = u at store cfg
  refine ⟨fun idle empty => ?_, fun busy => ?_⟩
  · simp [parkSave, saving, beginSave, savedTables, store, cfg, idle, empty]
  · simp [parkSave, saving, store, busy]

/-- The rates in PARKED follow the modes, the touch sense and the lamps (R176). -/
theorem enterParked_chosenRate (s : State) (c : Closure) :
    chosenRate (enterParked s) c = chosenRate (parkBegun s) c := by
  have sent : chosenRate (chooseRates (parkBegun s)) c = chosenRate (parkBegun s) c :=
    (chooseRates_sent _).chosenRate c
  rw [← sent]
  exact enterParked_rest (fun u => chosenRate u c) (fun _ => rfl) (fun _ _ => rfl) s

/-- The idle deadline of a part with no awake hold and the ignition OFF parks it (R189). -/
theorem finish_parks {b s : State} (run : s.stage = .run) (awake : s.ctx.state = .awake) (off : s.ctx.ignition = .off)
    (free : awakeHold s = false) (before : awakeHold b = false) (still : b.ctx.state = .awake)
    (due : s.ctx.idleDeadline ≤ s.now) (delay : 0 < s.cfg.car.deepDelay) :
    finish b s = chooseRates (enterParked s) := by
  have unfolded : finish b s = closePages b (chooseRates (closeState (closeHold b s))) := by
    simp [finish, running, run]
  have noEnd : closeHold b s = s := by simp [closeHold, before]
  have parks : mayPark s = true := by simp [mayPark, isAwake, awake, off, free, due]
  have deadline : (enterParked s).ctx.deepDeadline = some (s.now + deepDelay s) :=
    enterParked_same (fun u => u.ctx.deepDeadline) (fun _ => rfl) (fun _ => rfl) (fun _ _ => rfl) s
  have now : (enterParked s).now = s.now :=
    enterParked_same State.now (fun _ => rfl) (fun _ => rfl) (fun _ _ => rfl) s
  have later : ¬ s.now + deepDelay s ≤ s.now := by
    unfold deepDelay
    omega
  have stays : maySinkDeep (enterParked s) = false := by simp [maySinkDeep, deadline, now, later]
  rw [unfolded, noEnd, closeState]
  simp only [parks, if_true, stays, Bool.false_eq_true, if_false]
  simp [closePages, still]

/-- The deep deadline of a parked part with no awake hold puts it in DEEP (R191). -/
theorem finish_sinks {b s : State} {d : Nat} (run : s.stage = .run) (parked : s.ctx.state = .parked)
    (free : awakeHold s = false) (before : awakeHold b = false) (deadline : s.ctx.deepDeadline = some d)
    (due : d ≤ s.now) : finish b s = chooseRates (enterDeep s) := by
  have unfolded : finish b s = closePages b (chooseRates (closeState (closeHold b s))) := by
    simp [finish, running, run]
  have noEnd : closeHold b s = s := by simp [closeHold, before]
  have parks : mayPark s = false := by simp [mayPark, isAwake, parked]
  have sinks : maySinkDeep s = true := by simp [maySinkDeep, parked, free, deadline, due]
  have state : (chooseRates (enterDeep s)).ctx.state = .deep :=
    ((chooseRates_sent _).same (fun u => u.ctx.state) fun _ => rfl).trans
      ((chooseRates_sent _).same (fun u => u.ctx.state) fun _ => rfl)
  rw [unfolded, noEnd, closeState]
  simp only [parks, if_true, sinks, Bool.false_eq_true, if_false]
  simp [closePages, state]

/-- Settles O50. -/
theorem statusIdleAndDeepDeadlines : Obligations.StatusIdleAndDeepDeadlines := by
  intro s dt d run
  have supplied : s.stage ≠ .off := by simp [run]
  let v : State := reach d (elapse dt s)
  refine ⟨fun steady period empty => ?_, fun awake off free due delay => ?_, fun parked due free => ?_⟩
  · intro page
    let w : State := { v with nextStatus := some (d + Config.statusTime) }
    have next : exec (.statusPeriod dt) s = .next (finish (elapse dt s) (offerPages w)) := by
      have meaning : exec (.statusPeriod dt) s = execStatusPeriod dt s := rfl
      have there : (elapse dt s).nextStatus = some d := period
      have begun : (running w && isAwake w) = true := by simp [running, isAwake, w, v, run, steady.awake]
      rw [meaning, execStatusPeriod, perform_supplied dt _ supplied, there]
      dsimp only
      rw [if_pos begun]
    rw [offerPages_empty (s := w) run empty] at next
    exact ⟨_, next, finish_calm_agrees _ (steady.toCalm.of_same rfl rfl rfl rfl rfl)⟩
  · have next : exec (.idleDeadline dt) s = .next (finish (elapse dt s) v) := by
      have meaning : exec (.idleDeadline dt) s = execIdleDeadline dt s := rfl
      have begun : (running (elapse dt s) && isAwake (elapse dt s)) = true := by simp [running, isAwake, run, awake]
      have reached : reach (elapse dt s).ctx.idleDeadline (elapse dt s) = v := congrArg (reach · (elapse dt s)) due
      rw [meaning, execIdleDeadline, perform_supplied dt _ supplied, if_pos begun, reached]
    have passed : v.ctx.idleDeadline ≤ v.now := due ▸ Nat.le_max_right ..
    rw [finish_parks (b := elapse dt s) (s := v) run awake off free free awake passed delay] at next
    refine ⟨_, next, ?_⟩
    have rates (c : Closure) : (channel (chooseRates (enterParked v)) c).rate = chosenRate (parkBegun v) c :=
      (chooseRates_rate c _).trans (enterParked_chosenRate v c)
    have chosen (c : Closure) : chosenRate (chooseRates (enterParked v)) c = chosenRate (parkBegun v) c :=
      ((chooseRates_sent _).chosenRate c).trans (enterParked_chosenRate v c)
    have same {α : Type} (f : State → α) (hd : ∀ u, f (lessDrives u) = f u) (ht : ∀ u, f (lessTraffic u) = f u)
        (hs : ∀ (u : State) store, f { u with store := store } = f u) :
        f (chooseRates (enterParked v)) = f (parkBegun v) :=
      ((chooseRates_sent _).same f hd).trans (enterParked_same f hd ht hs v)
    have store : (chooseRates (enterParked v)).store = (enterParked v).store :=
      (chooseRates_sent _).same State.store fun _ => rfl
    obtain ⟨begins, keeps⟩ := enterParked_store v
    refine ⟨same (fun u => u.ctx.state) (fun _ => rfl) (fun _ => rfl) (fun _ _ => rfl),
      same (fun u => u.ctx.parkedAt) (fun _ => rfl) (fun _ => rfl) (fun _ _ => rfl),
      same (fun u => u.ctx.deepDeadline) (fun _ => rfl) (fun _ => rfl) (fun _ _ => rfl),
      same State.nextStatus (fun _ => rfl) (fun _ => rfl) (fun _ _ => rfl),
      fun c => (rates c).trans (chosen c).symm, fun c => ?_,
      same State.group (fun _ => rfl) (fun _ => rfl) (fun _ _ => rfl),
      same State.cfg (fun _ => rfl) (fun _ => rfl) (fun _ _ => rfl), ?_, ?_⟩
    · intro lamps
      obtain ⟨on, forcedOff, auto⟩ := chosenRate_parked (s := parkBegun v) run rfl c
      rw [rates c]
      refine ⟨on, forcedOff, fun mode => ?_⟩
      have lit : lampLit (parkBegun v) c = lampLit s c := rfl
      rw [auto mode, lit]
      simp only [lampLit_iff]
      rfl
    · rw [store]
      exact begins
    · rw [store]
      exact keeps
  · have next : exec (.deepDeadline dt) s = .next (finish (elapse dt s) v) :=
      exec_deadline (due := fun t => t.ctx.deepDeadline) (f := id) rfl supplied due
    rw [finish_sinks (b := elapse dt s) (s := v) run parked free free due (Nat.le_max_right ..)] at next
    let w : State := { v with ctx := { v.ctx with state := .deep, deepDeadline := none, parkedAt := none }, timed := none }
    have sent : Sent w (chooseRates (enterDeep v)) := (chooseRates_sent w).trans (chooseRates_sent _)
    have rates (c : Closure) : (channel (chooseRates (enterDeep v)) c).rate = chosenRate w c :=
      (chooseRates_rate c _).trans ((chooseRates_sent w).chosenRate c)
    refine ⟨_, next, sent.same (fun u => u.ctx.state) fun _ => rfl, sent.same (fun u => u.ctx.deepDeadline) fun _ => rfl,
      sent.timed, fun c mode => ?_, fun c mode => ?_, sent.same State.group fun _ => rfl, sent.cfg⟩
    · rw [rates c]
      exact (chosenRate_deep (s := w) run rfl c).2 mode
    · rw [rates c]
      exact (chosenRate_deep (s := w) run rfl c).1 mode

end Sys2Proof.Machine
end

section
/-!
PROOFS. The port and the transmission of the queued frames (R141, R161).
-/

namespace Sys2Proof.Machine

/-! ## Frames that wait (R160, R161) -/

/-- `q` has no frame in transmission, and at least as many as `p`. -/
def WaitsBehind (p q : List TxFrame) : Prop := (∀ f ∈ q, f.started = false) ∧ p.length ≤ q.length

theorem enqueue_waits {f : TxFrame} {p q r : List TxFrame} (h : enqueue f q = some r) (new : f.started = false)
    (waits : WaitsBehind p q) : WaitsBehind p r := by
  obtain ⟨still, length⟩ := waits
  unfold enqueue at h
  split at h
  · obtain rfl := Option.some.inj h
    refine ⟨fun g mem => ?_, by simpa using length⟩
    rcases List.mem_or_eq_of_mem_set mem with old | rfl
    · exact still g old
    · exact new
  · split at h
    · obtain rfl := Option.some.inj h
      refine ⟨fun g mem => ?_, by simp; omega⟩
      rcases List.mem_append.mp mem with old | added
      · exact still g old
      · rw [List.mem_singleton.mp added]
        exact new
    · cases h

theorem raiseTxOverflow_waits {p : List TxFrame} {s : State} (waits : WaitsBehind p s.tx) :
    WaitsBehind p (raiseTxOverflow s).tx := by
  unfold raiseTxOverflow
  dsimp only
  split
  · exact waits
  · split
    · next r joined => exact enqueue_waits (r := r) joined rfl waits
    · exact waits

theorem offer_waits {p : List TxFrame} {f : TxFrame} {s : State} (new : f.started = false)
    (waits : WaitsBehind p s.tx) : WaitsBehind p (offer f s).tx := by
  unfold offer
  split
  · split
    · next r joined => exact enqueue_waits (r := r) joined new waits
    · exact raiseTxOverflow_waits waits
  · exact waits

theorem raise_waits {p : List TxFrame} {cls : FaultClass} {who : Option Closure} {s : State}
    (waits : WaitsBehind p s.tx) : WaitsBehind p (raise cls who s).tx := by
  unfold raise raiseWith
  dsimp only
  split
  · exact waits
  · exact offer_waits (s := countFault cls who s) rfl waits

/-! ## The next frame (R161) -/

theorem nextFrame_tail {f : TxFrame} {after : List TxFrame} (h : ∀ g ∈ after, f.id ≤ g.id) :
    nextFrame (f :: after) = some f := by
  rw [nextFrame]
  cases found : nextFrame after with
  | none => rfl
  | some g =>
    have mem : g ∈ after := by
      clear h
      induction after generalizing g with
      | nil => cases found
      | cons e rest ih =>
        rw [nextFrame] at found
        cases below : nextFrame rest with
        | none => simp [below] at found; simp [found]
        | some k =>
          rw [below] at found
          dsimp only at found
          split at found
          · simp [Option.some.inj found]
          · rw [← Option.some.inj found]
            exact List.mem_cons_of_mem _ (ih _ below)
    exact if_pos (h g mem)

/-- The frame with an identifier below all before it and not above those after it is sent next. -/
theorem nextFrame_lowest {before after : List TxFrame} {f : TxFrame} (low : ∀ g ∈ before, f.id < g.id)
    (h : ∀ g ∈ after, f.id ≤ g.id) : nextFrame (before ++ f :: after) = some f := by
  induction before with
  | nil => exact nextFrame_tail h
  | cons g rest ih =>
    rw [List.cons_append, nextFrame, ih fun e mem => low e (List.mem_cons_of_mem _ mem)]
    exact if_neg (BitVec.not_le.mpr (low g (List.mem_cons_self ..)))

theorem markStarted_first {before after : List TxFrame} {f : TxFrame} (low : ∀ g ∈ before, f.id < g.id) :
    markStarted f.id (before ++ f :: after) = before ++ { f with started := true } :: after := by
  induction before with
  | nil => simp [markStarted]
  | cons g rest ih =>
    have apart : g.id ≠ f.id := (BitVec.ne_of_lt (low g (List.mem_cons_self ..))).symm
    rw [List.cons_append, markStarted, if_neg apart, ih fun e mem => low e (List.mem_cons_of_mem _ mem)]
    rfl

/-- Settles O58. -/
theorem transmissionAndBusOff : Obligations.TransmissionAndBusOff := by
  intro s dt calm
  have still : Calm (elapse dt s) := calm.of_same rfl rfl rfl rfl rfl
  have answers {i : Instr} (f : State → State) {t : State} (meaning : exec i s = perform dt f s)
      (effect : f (elapse dt s) = t) (after : Calm t) : Answers i s t := by
    refine ⟨_, meaning.trans (perform_supplied dt f calm.supplied), ?_⟩
    rw [effect]
    exact finish_calm_agrees _ after
  refine ⟨fun run active places => ?_, fun since silent => ⟨?_, ?_, ?_⟩, fun before f after run active queue waits low least => ?_,
    ?_, ?_⟩
  · let v : State := { abandonAttempt (elapse dt s) with port := .silent (elapse dt s).now }
    have next : exec (.busOff dt) s = .next (finish (elapse dt s) (raise .busOff none v)) := by
      have meaning : exec (.busOff dt) s =
          perform dt (fun t => if following t && t.port == .active then enterSilent t else t) s := rfl
      rw [meaning, perform_supplied dt _ calm.supplied, if_pos (by simp [following, run, active])]
      rfl
    have rest := raise_rest .busOff none v
    have after : Calm (raise .busOff none v) := (calm.of_same rfl rfl rfl rfl rfl : Calm v).of_motion (lessMotion_of_traffic rest)
    have kept {α : Type} (f : State → α) (hf : ∀ u, f (lessActivity u) = f u) :
        f (finish (elapse dt s) (raise .busOff none v)) = f (raise .busOff none v) :=
      finish_calm_same f hf _ after
    have waits : WaitsBehind s.tx (raise .busOff none v).tx := raise_waits ⟨fun g mem => by
      obtain ⟨e, _, rfl⟩ := List.mem_map.mp mem
      rfl, by simp [v, abandonAttempt]⟩
    refine ⟨_, next, ?_, ?_, ?_, ?_, ?_, ?_⟩
    · rw [kept State.port fun _ => rfl]
      exact same_of_rest rest State.port fun _ => rfl
    · rw [kept State.tx fun _ => rfl]
      exact waits.1
    · rw [kept State.tx fun _ => rfl]
      exact waits.2
    · rw [kept (fun u => (faultRecord u .busOff).count) fun _ => rfl]
      exact faultRecord_raiseWith (s := v) (by simp) places
    · rw [kept State.cfg fun _ => rfl]
      exact same_of_rest rest State.cfg fun _ => rfl
    · rw [kept State.group fun _ => rfl]
      exact same_of_rest rest State.group fun _ => rfl
  · exact answers _ rfl (if_neg (by simp [silent])) still
  · exact answers _ rfl (by rw [beginTransmission, if_neg (by simp [mayTransmit, silent])]; rfl) still
  · refine answers (fun t => match t.port with
        | .silent since => { reach (since + Config.silentTime) t with port := .active }
        | .active => t) rfl ?_ (calm.of_same rfl rfl rfl rfl rfl)
    rw [elapse_port, silent]
    rfl
  · refine answers _ rfl ?_ (calm.of_same rfl rfl rfl rfl rfl)
    have may : mayTransmit (elapse dt s) = true := by
      have idle : s.tx.any (·.started) = false := by simpa using waits
      have filled : s.tx.isEmpty = false := by simp [queue]
      simp only [mayTransmit, transmitting, following, elapse_stage, elapse_port, elapse_tx, run, active, idle, filled]
      rfl
    have next : nextFrame (elapse dt s).tx = some f := by
      rw [elapse_tx, queue]
      exact nextFrame_lowest low least
    rw [beginTransmission, if_pos may, next]
    dsimp only
    rw [elapse_tx, queue, markStarted_first low]
    rfl
  · exact answers _ rfl rfl (calm.of_same rfl rfl rfl rfl rfl)
  · exact answers _ rfl rfl (calm.of_same rfl rfl rfl rfl rfl)

end Sys2Proof.Machine
end

section
/-!
PROOFS. The ignition and the wake lines (R20, R22, R23, R51, R113, R116, R182, R183, R185, R187, R192, R193).
-/

namespace Sys2Proof.Machine

/-! ## Activity noted just now (R187) -/

/-- The last activity is the present time, and the idle deadline follows from it. -/
def Fresh (s : State) : Prop := s.ctx.lastActivity = s.now ∧ s.ctx.idleDeadline = idleDeadlineOf s

theorem activity_fresh {s : State} (run : s.stage = .run) : Fresh (activity s) := by
  rw [activity_run run]
  exact ⟨rfl, rfl⟩

theorem Fresh.of_same {s t : State} (fresh : Fresh s) (ctx : t.ctx = s.ctx) (now : t.now = s.now) (cfg : t.cfg = s.cfg)
    (latch : ∀ c, (closure t c).latch = (closure s c).latch) : Fresh t := by
  obtain ⟨last, idle⟩ := fresh
  refine ⟨by rw [ctx, now, last], ?_⟩
  rw [ctx, idle]
  simp only [idleDeadlineOf, anyAjar, ctx, cfg, latch]
  rfl

/-- The close of a step whose effect noted activity has nothing to do (R187, R189). -/
theorem answersActive_fresh {i : Instr} {dt : Nat} {f : State → State} {s t : State}
    (meaning : exec i s = perform dt f s) (supplied : s.stage ≠ .off) (agrees : AgreeButActivity (f (elapse dt s)) t)
    (alert : Alert t) (fresh : Fresh (f (elapse dt s))) : AnswersActive i s t := by
  have same : Alert (f (elapse dt s)) := by
    rw [agrees.eq]
    exact alert.of_same rfl rfl rfl rfl rfl rfl
  refine ⟨f (elapse dt s), ?_, agrees, fresh⟩
  rw [meaning, perform_supplied dt f supplied, finish_active same fresh.1 fresh.2]

/-- The close of a step of a part that stays calm notes the end of an awake hold at most (R188). -/
theorem answers_calm {i : Instr} {dt : Nat} {f : State → State} {s t : State} (meaning : exec i s = perform dt f s)
    (supplied : s.stage ≠ .off) (effect : f (elapse dt s) = t) (calm : Calm t) : Answers i s t := by
  refine ⟨_, meaning.trans (perform_supplied dt f supplied), ?_⟩
  rw [effect]
  exact finish_calm_agrees _ calm

/-! ## The ignition (R182) -/

/-- The retained deadline ends with the ignition RUN (R51). -/
theorem dropRetained_on {s : State} (on : s.ctx.ignition = .run) :
    dropRetained s = { s with motion := { s.motion with retained := none } } := by
  unfold dropRetained
  split
  · simp [on]
  · next absent =>
    have none_ : s.motion.retained = none := by simpa using absent
    rw [← none_]

theorem lockIgnitionOn_eq (s : State) : lockIgnitionOn s =
    { s with group := { s.group with
        relockTimer := none, driveAwayArmed := true
        crashHold := s.group.crashHold.filter fun t => s.now < t + 10000 } } := by
  have hold : (match s.group.crashHold with
      | some t => if t + Config.crashHoldMin ≤ s.now then none else some t
      | none => none) = s.group.crashHold.filter fun t => s.now < t + 10000 := by
    cases s.group.crashHold with
    | none => rfl
    | some t =>
      by_cases passed : t + 10000 ≤ s.now
      · simp [Option.filter, Config.crashHoldMin, passed, Nat.not_lt.mpr passed]
      · simp [Option.filter, Config.crashHoldMin, passed, Nat.not_le.mp passed]
  rw [← hold]
  rfl

/-- What an OFF→RUN transition makes of the part, the wake apart. -/
def ignitionOn (s : State) : State :=
  { s with
    pins := s.pins.set .ign .high, ctx := { s.ctx with ignition := .run }
    motion := { s.motion with retained := none }
    group := { s.group with
      relockTimer := none, driveAwayArmed := true
      crashHold := s.group.crashHold.filter fun t => s.now < t + 10000 } }

/-- What a RUN→OFF transition makes of the part (R51). -/
def ignitionOff (s : State) : State :=
  { s with
    pins := s.pins.set .ign .low, ctx := { s.ctx with ignition := .off }
    motion := { s.motion with retained := some (s.now + s.cfg.car.retainedTime * 1000) } }

theorem exec_ignition (s : State) (dt : Nat) (level : Ignition) :
    exec (.ignitionTransition dt level) s = perform dt (fun t =>
      let pin := match level with
        | .run => Level.high
        | .off => Level.low
      let old := t.ctx.ignition
      let t := { t with pins := t.pins.set .ign pin }
      if following t then
        let t := { t with ctx := { t.ctx with ignition := level } }
        if running t && old != level then ignitionChanged level t else t
      else t) s := rfl

/-- An OFF→RUN transition: activity, its effect, and a wake (R182, R187, R192). -/
theorem perform_ignitionOn {s : State} (run : s.stage = .run) (off : s.ctx.ignition = .off) (dt : Nat) :
    exec (.ignitionTransition dt .run) s = .next (finish (elapse dt s)
      (wake .ignition (withActivity (s.now + dt) (idleDeadlineOf { elapse dt s with
        ctx := { s.ctx with lastActivity := s.now + dt } }) (ignitionOn (elapse dt s))))) := by
  let v : State := { elapse dt s with pins := s.pins.set .ign .high, ctx := { s.ctx with ignition := .run } }
  have begun : following { elapse dt s with pins := s.pins.set .ign .high } = true := by simp [following, run]
  have changed : (running v && (elapse dt s).ctx.ignition != .run) = true := by simp [running, v, run, off]
  have active : activity v = withActivity (s.now + dt) (idleDeadlineOf { elapse dt s with
      ctx := { s.ctx with lastActivity := s.now + dt } }) v := by
    rw [activity_run (s := v) run]
    rfl
  have effect : dropRetained (lockIgnitionOn (activity v)) = withActivity (s.now + dt) (idleDeadlineOf { elapse dt s with
      ctx := { s.ctx with lastActivity := s.now + dt } }) (ignitionOn (elapse dt s)) := by
    rw [active, lockIgnitionOn_eq, dropRetained_on rfl]
    rfl
  rw [exec_ignition, perform_supplied dt _ (by simp [run])]
  refine congrArg (fun t => Host.Outcome.next (finish (elapse dt s) t)) ((if_pos begun).trans ((if_pos changed).trans ?_))
  exact congrArg (wake .ignition) effect

/-- Settles O59. -/
theorem ignitionTransitionsAct : Obligations.IgnitionTransitionsAct := by
  intro s dt
  refine ⟨fun steady => ?_, fun steady time => ?_, fun run awake off rates => ?_, fun run off asleep => ?_⟩
  · have on : s.ctx.ignition = .run := steady.ignition steady.run
    refine answers_calm (exec_ignition s dt .run) steady.supplied ?_ (steady.toCalm.of_same rfl rfl rfl rfl rfl)
    have begun : following { elapse dt s with pins := s.pins.set .ign .high } = true := by simp [following, steady.run]
    have same : { s.ctx with ignition := .run } = s.ctx := by rw [← on]
    refine (if_pos begun).trans ((if_neg (by simp [on])).trans ?_)
    exact congrArg (fun ctx => { elapse dt s with pins := s.pins.set .ign .high, ctx := ctx }) same
  · let v : State := { elapse dt s with pins := s.pins.set .ign .low, ctx := { s.ctx with ignition := .off } }
    have begun : following { elapse dt s with pins := s.pins.set .ign .low } = true := by simp [following, steady.run]
    have changed : (running v && (elapse dt s).ctx.ignition != .off) = true := by
      simp [running, v, steady.run, steady.ignition steady.run]
    obtain ⟨last, idle, active⟩ := activity_eq v
    have fresh := activity_fresh (s := v) steady.run
    have effect : setRetained (activity v) = withActivity last idle (ignitionOff (elapse dt s)) := by
      rw [active, setRetained, if_neg (by exact time)]
      rfl
    have hold : awakeHold (withActivity last idle (ignitionOff (elapse dt s))) = true := by
      simp [awakeHold, holdFlags, withActivity, ignitionOff]
    have next : exec (.ignitionTransition dt .off) s =
        .next (finish (elapse dt s) (withActivity last idle (ignitionOff (elapse dt s)))) := by
      rw [exec_ignition, perform_supplied dt _ steady.supplied]
      refine congrArg (fun t => Host.Outcome.next (finish (elapse dt s) t))
        ((if_pos begun).trans ((if_pos changed).trans ?_))
      exact effect
    rw [finish_held (s := withActivity last idle (ignitionOff (elapse dt s))) steady.run (steady.awake steady.run) hold
      (steady.rates steady.run)] at next
    rw [active] at fresh
    exact ⟨_, next, withActivity_agrees last idle (ignitionOff (elapse dt s)), fresh.of_same rfl rfl rfl fun _ => rfl⟩
  · let u : State := withActivity (s.now + dt) (idleDeadlineOf { elapse dt s with
        ctx := { s.ctx with lastActivity := s.now + dt } }) (ignitionOn (elapse dt s))
    have next : exec (.ignitionTransition dt .run) s = .next (finish (elapse dt s) (wake .ignition u)) :=
      perform_ignitionOn run off dt
    have same : wake .ignition u = u := wake_awake .ignition awake
    have closed : finish (elapse dt s) u = u := by
      rw [finish_awake (s := u) run awake (fun off => by cases off) rfl rfl]
      exact chooseRates_settled rates
    rw [same, closed] at next
    exact ⟨_, next, rfl, rfl, rfl⟩
  · let u : State := withActivity (s.now + dt) (idleDeadlineOf { elapse dt s with
        ctx := { s.ctx with lastActivity := s.now + dt } }) (ignitionOn (elapse dt s))
    have next : exec (.ignitionTransition dt .run) s = .next (finish (elapse dt s) (wake .ignition u)) :=
      perform_ignitionOn run off dt
    rw [wake_asleep (s := u) run asleep] at next
    have ended := finish_woken (elapse dt s) (v := u) .ignition run (fun off => by cases off)
    have retained : (finish (elapse dt s) (offerPages (woken .ignition u))).motion.retained = none := by
      rw [finish_woken_eq (v := u) (elapse dt s) run (fun off => by cases off)]
      exact (chooseRates_motion _).retained.trans
        (offerPages_same (fun u => u.motion.retained) (fun _ => rfl) _)
    refine ⟨_, next, ended.ignition, ended.state, ended.lastWake, ended.wakeCount, ended.deepDeadline, ended.lastActivity,
      ended.nextStatus, retained, ?_, ?_, ?_, ended.cfg, ?_, fun c => ⟨ended.reported c, ended.rates c⟩⟩
    · rw [ended.group]
      rfl
    · rw [ended.group]
      rfl
    · rw [ended.group]
      rfl
    · rw [ended.group]
      rfl

/-! ## The wake lines (R183, R185) -/

/-- A line followed at the level at which its mode detects. -/
def levelTaken (l : WakeLine) (s : State) : State :=
  { s with
    pins := s.pins.set l (activeLevel (s.cfg.lines.get l).mode)
    lines := s.lines.set l { s.lines.get l with level := activeLevel (s.cfg.lines.get l).mode } }

theorem activeLevel_eq (mode : LineMode) :
    activeLevel mode = if mode = .rising ∨ mode = .high then .high else .low := by
  cases mode <;> rfl

/-- The row is a detection in an edge mode, and in a level mode with pending clear (R183). -/
def Detects (l : WakeLine) (s : State) : Prop :=
  (s.cfg.lines.get l).mode = .rising ∨ (s.cfg.lines.get l).mode = .falling ∨ (s.lines.get l).pending = false

theorem lineDetection_eq {l : WakeLine} {s : State} (run : s.stage = .run) : lineDetection l s =
    match (s.cfg.lines.get l).mode with
    | .rising => detect l (levelTaken l s)
    | .falling => detect l (levelTaken l s)
    | _ => judgeLevel l (levelTaken l s) := by
  have begun : following { s with pins := s.pins.set l (activeLevel (s.cfg.lines.get l).mode) } = true := by
    simp [following, run]
  exact if_pos begun

theorem lineDetection_detects {l : WakeLine} {s : State} (run : s.stage = .run) (detects : Detects l s) :
    lineDetection l s = detect l (levelTaken l s) := by
  rw [lineDetection_eq run]
  split
  · rfl
  · rfl
  · next notRising notFalling =>
    have clear : (s.lines.get l).pending = false :=
      (detects.resolve_left fun h => notRising h).resolve_left fun h => notFalling h
    refine judgeLevel_met ?_ (by simp [levelTaken, clear])
    simp only [levelTaken, Six.get_set_same]
    cases h : (s.cfg.lines.get l).mode with
    | rising => exact absurd h notRising
    | falling => exact absurd h notFalling
    | high => rfl
    | low => rfl

theorem lineDetection_quiet {l : WakeLine} {s : State} (run : s.stage = .run) (quiet : ¬Detects l s) :
    lineDetection l s = levelTaken l s := by
  obtain ⟨notRising, notFalling, set_⟩ : (s.cfg.lines.get l).mode ≠ .rising ∧ (s.cfg.lines.get l).mode ≠ .falling ∧
      (s.lines.get l).pending = true := by simpa [Detects] using quiet
  rw [lineDetection_eq run]
  split
  · next h => exact absurd h notRising
  · next h => exact absurd h notFalling
  · exact judgeLevel_unmet (Or.inr (by simp [levelTaken, set_]))

/-- The line as a detection leaves it, whatever its level was. -/
def lineSeen (l : WakeLine) (level : Level) (s : State) : State :=
  { s with pins := s.pins.set l level, lines := s.lines.set l ⟨true, level⟩ }

theorem detected_levelTaken (l : WakeLine) (s : State) :
    detected l (levelTaken l s) = lineSeen l (activeLevel (s.cfg.lines.get l).mode) s := by
  simp [detected, levelTaken, lineSeen]

theorem levelTaken_pending {l : WakeLine} {s : State} (h : (s.lines.get l).pending = true) :
    levelTaken l s = lineSeen l (activeLevel (s.cfg.lines.get l).mode) s := by
  simp [levelTaken, lineSeen, h]

/-- What a touch that opens a search leaves, but for activity (R113, R119). -/
def searchBegun (trigger : Trigger) (c : Closure) (p : Purpose) (s : State) : State :=
  let x : SearchSlot := ⟨c, p, s.search.tagCounter, s.now + s.cfg.key.searchSteps * 10, trigger⟩
  { s with
    search := { s.search with slots := [some x, none, none, none], tagCounter := (s.search.tagCounter + 1) % 16 }
    tx := s.tx ++ [⟨.other, s.cfg.key.searchId, searchRequestData x, false⟩] }

/-- A touch of a part in AWAKE with no search open opens one in the first slot, and is activity (R113, R118). -/
theorem touch_begins {s : State} {c : Closure} {p : Purpose} {trigger : Trigger} (run : s.stage = .run)
    (awake : s.ctx.state = .awake) (on : s.cfg.key.passive = true) (free : s.search.slots = [none, none, none, none])
    (room : s.tx.length < Config.txPlaces) : touch c p trigger s = activity (searchBegun trigger c p s) := by
  have tag : freeTag (openTags s) 16 s.search.tagCounter = s.search.tagCounter := by
    simp [openTags, free, freeTag]
  have absent : findSlot s c = none := by simp [findSlot, free]
  have first : s.search.slots.findIdx? Option.isNone = some 0 := by simp [free, List.findIdx?_cons]
  have opened : touch c p trigger s = wake .search (activity (searchBegun trigger c p s)) := by
    simp only [touch, on, absent, first, openSlot, tag, setSlot, Bool.not_true, Bool.false_eq_true, if_false]
    rw [offer_other (by rfl) (by exact run) (by exact room), free]
    rfl
  rw [opened, wake_activity (s := searchBegun trigger c p s) _ awake]

/-- Settles O60. -/
theorem wakeLinesDetect : Obligations.WakeLinesDetect := by
  intro s dt l mode own level detects
  have meaning : exec (.wakeLineDetection dt l) s = perform dt (lineDetection l) s := rfl
  have active : activeLevel (s.cfg.lines.get l).mode = level := by rw [own, activeLevel_eq]
  have detects_iff : Detects l (elapse dt s) ↔ detects := by simp only [Detects, elapse_cfg, elapse_lines, own, detects]
  have taken (run : s.stage = .run) (h : detects) : lineDetection l (elapse dt s) = detect l (levelTaken l (elapse dt s)) :=
    lineDetection_detects run (detects_iff.mpr h)
  let seen : State := lineSeen l level (elapse dt s)
  have marked : detected l (levelTaken l (elapse dt s)) = seen := by
    rw [detected_levelTaken, elapse_cfg, active]
  refine ⟨fun steady => ⟨fun h off => ?_, fun h on ign => ?_, fun h => ?_, fun c h on door side passive free tag room => ?_⟩,
    fun run parked ign on h delay => ?_, fun new steady no => ?_⟩
  · refine answers_calm meaning steady.supplied ?_ (steady.toCalm.of_same rfl rfl rfl rfl rfl)
    rw [taken steady.run h, detect_disabled (by exact off), marked]
    rfl
  · subst ign
    have effect : lineDetection .ign (elapse dt s) = activity seen := by
      rw [taken steady.run h, detect_ign (s := levelTaken .ign (elapse dt s)) steady.run (steady.awake steady.run) (by exact on), marked]
    refine answersActive_fresh meaning steady.supplied ?_ (steady.alert.of_same rfl rfl rfl rfl rfl rfl) ?_
    · rw [effect]
      exact activity_agreesWith seen
    · rw [effect]
      exact activity_fresh (s := seen) steady.run
  · have set_ : (s.lines.get l).pending = true := by
      have some_ : ¬ (s.lines.get l).pending = false := fun clear => h (.inr (.inr clear))
      simpa using some_
    refine answers_calm meaning steady.supplied ?_ (steady.toCalm.of_same rfl rfl rfl rfl rfl)
    rw [lineDetection_quiet (s := elapse dt s) steady.run (fun is => h (detects_iff.mp is)), levelTaken_pending (s := elapse dt s) set_, elapse_cfg, active]
    rfl
  · subst door
    have notTg : (c == .tg) = false := beq_false_of_ne side
    obtain ⟨last, idle, noted⟩ := activity_eq seen
    have effect : lineDetection (.door c) (elapse dt s) =
        activity (searchBegun .wakeLine c .unlock (withActivity last idle seen)) := by
      rw [taken steady.run h, detect_door (s := levelTaken (.door c) (elapse dt s)) steady.run (steady.awake steady.run) (by exact on), marked, noted]
      have touched : lineTouch c .awake (withActivity last idle seen) =
          touch c .unlock .wakeLine (withActivity last idle seen) := by simp [lineTouch, notTg]
      rw [touched]
      exact touch_begins (s := withActivity last idle seen) steady.run (steady.awake steady.run) passive free room
    refine answersActive_fresh meaning steady.supplied ?_ (steady.alert.of_same rfl rfl rfl rfl rfl rfl) ?_
    · rw [effect]
      exact (activity_agreesWith _).trans (withActivity_agrees last idle (searchBegun .wakeLine c .unlock seen))
    · rw [effect]
      exact activity_fresh (s := searchBegun .wakeLine c .unlock (withActivity last idle seen)) steady.run
  · subst ign
    obtain ⟨last, idle, noted⟩ := activity_eq seen
    have begun : (running seen && (seen.cfg.lines.get .ign).enable) = true := by
      simpa [running, seen, lineSeen, run] using on
    have effect : lineDetection .ign (elapse dt s) = offerPages (woken (.wakeLine .ign) (withActivity last idle seen)) := by
      have unfolded : detect .ign (levelTaken .ign (elapse dt s)) =
          if running (detected .ign (levelTaken .ign (elapse dt s))) &&
              ((detected .ign (levelTaken .ign (elapse dt s))).cfg.lines.get .ign).enable then
            wake (.wakeLine .ign) (activity (detected .ign (levelTaken .ign (elapse dt s))))
          else detected .ign (levelTaken .ign (elapse dt s)) := rfl
      rw [taken run h, unfolded, marked, if_pos begun, noted]
      exact wake_asleep (s := withActivity last idle seen) run (.inl parked) _
    have next : exec (.wakeLineDetection dt .ign) s =
        .next (finish (elapse dt s) (offerPages (woken (.wakeLine .ign) (withActivity last idle seen)))) := by
      rw [meaning, perform_supplied dt _ (by simp [run]), effect]
    have ended := finish_woken (elapse dt s) (v := withActivity last idle seen) (.wakeLine .ign) run fun _ => delay
    refine ⟨_, next, ended.state, ended.lastWake, ended.lastActivity, ?_, ended.group, ended.cfg⟩
    rw [ended.lines]
    simp [withActivity, seen, lineSeen]
  · have meaning : exec (.wakeLineLevelChange dt l new) s = perform dt
        (fun t =>
          let t := { t with pins := t.pins.set l new }
          if following t then lineLevel l new t else t) s := rfl
    let v : State := { elapse dt s with pins := s.pins.set l new }
    have begun : following v = true := by simp [following, v, steady.run]
    refine answers_calm meaning steady.supplied ?_ (steady.toCalm.of_same rfl rfl rfl rfl rfl)
    let w : State := { v with lines := s.lines.set l { s.lines.get l with level := new } }
    have unfolded : lineLevel l new v =
        match (s.cfg.lines.get l).mode with
        | .rising => if (s.lines.get l).level == .low && new == .high then detect l w else w
        | .falling => if (s.lines.get l).level == .high && new == .low then detect l w else w
        | _ => judgeLevel l w := rfl
    have judged (h : levelActive mode new = false) : judgeLevel l w = w := by
      refine judgeLevel_unmet (.inl ?_)
      have here : (w.lines.get l).level = new := by simp [w]
      rw [here]
      exact own ▸ h
    refine (if_pos begun).trans (unfolded.trans ?_)
    rw [own]
    rcases no with ⟨rfl, rfl⟩ | ⟨rfl, rfl⟩ | ⟨rfl, rfl⟩ | ⟨rfl, rfl⟩
    · simp <;> rfl
    · simp <;> rfl
    · exact judged rfl
    · exact judged rfl

end Sys2Proof.Machine
end

section
/-!
PROOFS. The counter check of the remote keys (R96 to R101, R105).
-/

namespace Sys2Proof.Machine

/-! ## What a lock request leaves alone -/

/-- A state less what a lock request other than a crash unlock may touch: the lock group and its closures, the lamps, the
operating state, the windows' heat, the channels and the traffic. -/
def lessLocks (s : State) : State :=
  { s with
    group := State.reset.group, closures := State.reset.closures, release := State.reset.release, timed := none
    ctx := State.reset.ctx, windows := State.reset.windows, channels := State.reset.channels, nextStatus := none
    tx := [], faults := [] }

theorem same_of_locks {α : Type} {s t : State} (h : lessLocks t = lessLocks s) (f : State → α)
    (hf : ∀ u, f (lessLocks u) = f u) : f t = f s := by
  rw [← hf t, h, hf]

section
variable (s : State)

theorem lessLocks_of_traffic {s t : State} (h : lessTraffic t = lessTraffic s) : lessLocks t = lessLocks s :=
  (congrArg lessLocks h : lessLocks (lessTraffic t) = lessLocks (lessTraffic s))

@[simp] theorem activity_lessLocks : lessLocks (activity s) = lessLocks s := by
  rw [(activity_agreesWith s).eq]
  rfl

@[simp] theorem wake_lessLocks (cause : WakeCause) : lessLocks (wake cause s) = lessLocks s := by
  unfold wake
  split
  · unfold enterAwake startStatus
    exact (lessLocks_of_traffic (offerPages_rest _)).trans (activity_lessLocks _)
  · rfl

@[simp] theorem refuseLock_lessLocks (cause : LockRefusal) : lessLocks (refuseLock cause s) = lessLocks s := by
  unfold refuseLock
  dsimp only
  split
  · refine (lessLocks_of_traffic (offerPagesNow_rest _)).trans ?_
    rfl
  · rfl

@[simp] theorem dropSteady_lessLocks : lessLocks (dropSteady s) = lessLocks s := by
  unfold dropSteady
  (repeat' split) <;> rfl

theorem foldl_lessLocks {α : Type} {f : State → α → State} (h : ∀ s a, lessLocks (f s a) = lessLocks s) (l : List α) :
    lessLocks (l.foldl f s) = lessLocks s := by
  induction l generalizing s with
  | nil => rfl
  | cons a l ih => rw [List.foldl_cons, ih, h]

@[simp] theorem actuate_lessLocks (r : LockRequest) : lessLocks (actuate r s) = lessLocks s := by
  unfold actuate
  refine (foldl_lessLocks (f := fun t c => actuateClosure r.kind r.source c t) _ (fun _ _ => rfl) _).trans ?_
  split
  · exact dropSteady_lessLocks _
  · rfl

@[simp] theorem takeRequest_lessLocks (r : LockRequest) : lessLocks (takeRequest r s) = lessLocks s := by
  unfold takeRequest
  split <;> simp

@[simp] theorem checkRelease_lessLocks : lessLocks (checkRelease s) = lessLocks s := by
  unfold checkRelease
  dsimp only
  split
  · simp
  · split
    · simp
    · split <;> rfl

@[simp] theorem releaseTailgate_lessLocks : lessLocks (releaseTailgate s) = lessLocks s := by
  unfold releaseTailgate
  split <;> simp

@[simp] theorem completeItems_lessLocks (f : InFlight) : lessLocks (completeItems f s) = lessLocks s := by
  unfold completeItems startRelock
  dsimp only
  (repeat' split) <;> rfl

@[simp] theorem completeOne_lessLocks : lessLocks (completeOne s).1 = lessLocks s := by
  unfold completeOne
  (repeat' split) <;> simp

@[simp] theorem takePending_lessLocks : lessLocks (takePending s) = lessLocks s := by
  unfold takePending
  split
  · rfl
  · split
    · rfl
    · exact takeRequest_lessLocks ..

@[simp] theorem followGroup_lessLocks : lessLocks (followGroup s) = lessLocks s := by
  have taken : lessLocks (completeOne (takePending (completeOne s).1)).1 = lessLocks s := by simp
  unfold followGroup
  dsimp only
  (repeat' split) <;> simp

@[simp] theorem placeLock_lessLocks (r : LockRequest) : lessLocks (placeLock r s) = lessLocks s := by
  unfold placeLock mergeOrWait
  split
  · dsimp only
    (repeat' split) <;> rfl
  · split
    · simp
    · rfl

theorem arriveLock_lessLocks {r : LockRequest} (plain : r.kind ≠ .crashUnlock) :
    lessLocks (arriveLock r s) = lessLocks s := by
  have other : (r.kind == .crashUnlock) = false := beq_false_of_ne plain
  unfold arriveLock
  simp only [other, Bool.false_eq_true, if_false]
  split <;> simp

/-- A button acts on the locks alone (R102 to R104). -/
@[simp] theorem pressButton_lessLocks (i : Nat) (button : Button) : lessLocks (pressButton i button s) = lessLocks s := by
  have locked (kind : LockKind) (release : Bool) (plain : kind ≠ .crashUnlock) (t : State) :
      lessLocks (fobLock kind release t) = lessLocks t := arriveLock_lessLocks _ plain
  cases button with
  | lock =>
    refine (locked _ false ?_ s : lessLocks (lockPress i s) = lessLocks s)
    split <;> simp
  | unlock =>
    have unfolded : pressButton i .unlock s = unlockPress i s := rfl
    rw [unfolded, unlockPress]
    split
    · exact locked _ false (by simp) s
    · refine (locked _ false ?_ s : lessLocks (fobLock _ false s) = lessLocks s)
      split <;> simp
  | tailgate => exact locked _ true (by simp) s

end

/-! ## The lookup and the counter check (R96, R97) -/

/-- A fob that may act and is the first to hold the serial of a telegram. -/
structure FobFound (i : Nat) (f : Fob) (r : FobRun) (t : Telegram) (s : State) : Prop where
  run : s.stage = .run
  fob : s.cfg.fobs[i]? = some f
  fobRun : s.fobRun[i]? = some r
  active : f.state = .active
  remote : f.remoteAllowed = true
  serial : f.serial = t.serial
  first : ∀ j g, j < i → s.cfg.fobs[j]? = some g → g.state ≠ .empty → g.serial ≠ t.serial

section
variable {i : Nat} {f : Fob} {r : FobRun} {t : Telegram} {s : State}

theorem FobFound.found (h : FobFound i f r t s) : findFob s t.serial = some i := by
  obtain ⟨bound, here⟩ := List.getElem?_eq_some_iff.mp h.fob
  refine List.findIdx?_eq_some_iff_getElem.mpr ⟨bound, ?_, fun j before => ?_⟩
  · simp [here, h.active, h.serial]
  · have there : s.cfg.fobs[j]? = some (s.cfg.fobs[j]'(by omega)) := List.getElem?_eq_getElem _
    have apart := h.first j _ before there
    by_cases empty : (s.cfg.fobs[j]'(by omega)).state = .empty
    · simp [empty]
    · simp [apart empty]

/-- A telegram of a fob that may act is judged as a press or a repeat (R96). -/
theorem takeTelegram_found (h : FobFound i f r t s) :
    takeTelegram t s = if t.repeatNumber = 0 then firstPress i t s else repeatTelegram i t s := by
  have own : Machine.fob s i = f := fob_of_getElem h.fob
  have on : running s = true := by simp [running, h.run]
  have acts : ((Machine.fob s i).state == .blocked || !(Machine.fob s i).remoteAllowed) = false := by
    simp [own, h.active, h.remote]
  unfold takeTelegram
  simp only [on, h.found, acts, Bool.not_true, Bool.false_eq_true, if_false]

theorem judgePress_accepted {now : Nat} {w a n : Nat} (accepted : f.accepted = some a) (bound : a < 1048576)
    (low : 1 ≤ (n + 1048576 - a) % 1048576) (high : (n + 1048576 - a) % 1048576 ≤ w) :
    judgePress now w f r n = .accepted := by
  have ahead : forward a n = (n + 1048576 - a) % 1048576 := by
    simp [forward, Config.counterModulus, Nat.mod_eq_of_lt bound]
  unfold judgePress
  rw [accepted]
  dsimp only
  rw [ahead]
  exact if_pos ⟨low, high⟩

theorem judgePress_replay {now : Nat} {w a n : Nat} (accepted : f.accepted = some a) (bound : a < 1048576)
    (stale : (n + 1048576 - a) % 1048576 = 0 ∨ 32768 < (n + 1048576 - a) % 1048576 ∧ w ≤ 32768)
    (noPair : completesPair now r n = false) : judgePress now w f r n = .replay := by
  have ahead : forward a n = (n + 1048576 - a) % 1048576 := by
    simp [forward, Config.counterModulus, Nat.mod_eq_of_lt bound]
  unfold judgePress
  rw [accepted]
  dsimp only
  rw [ahead, noPair, if_neg (by omega), if_neg (by simp), if_neg (by simp only [Config.farAhead]; omega)]

/-- A press that is a replay raises REPLAY and leaves its record, and changes nothing else (R100). -/
theorem takeTelegram_replay (h : FobFound i f r t s) (press : t.repeatNumber = 0)
    (judged : judgePress s.now s.cfg.key.forwardWindow f r t.counter = .replay) :
    takeTelegram t s = raise .replay none (noteTelegram t (some i) .replay s) := by
  rw [takeTelegram_found h, if_pos press]
  unfold firstPress
  rw [fob_of_getElem h.fob, fobRun_of_getElem h.fobRun, judged]

/-- An accepted press: its record, the counter, battery-low, the hold, activity and wake, and its button (R97, R101). -/
theorem takeTelegram_accepted (h : FobFound i f r t s) (press : t.repeatNumber = 0)
    (judged : judgePress s.now s.cfg.key.forwardWindow f r t.counter = .accepted) :
    takeTelegram t s = acceptPress i t (noteTelegram t (some i) .accepted s) := by
  rw [takeTelegram_found h, if_pos press]
  unfold firstPress
  rw [fob_of_getElem h.fob, fobRun_of_getElem h.fobRun, judged]

/-- The records an accepted press writes (R97, R101). -/
def pressTaken (i : Nat) (f : Fob) (t : Telegram) (s : State) : State :=
  { s with
    cfg := { s.cfg with fobs := s.cfg.fobs.set i { f with accepted := some t.counter } }
    fobRun := s.fobRun.set i ⟨none, t.batteryLow⟩
    key := { s.key with
      hold := some ⟨i, t.button, t.counter, 0, false, s.now + 300, false⟩
      lastTelegram := some ⟨t.serial, t.button, t.repeatNumber, some i, .accepted⟩ } }

theorem acceptPress_eq (h : s.cfg.fobs[i]? = some f) : acceptPress i t (noteTelegram t (some i) .accepted s) =
    pressButton i t.button (wake .fob (activity (pressTaken i f t s))) := by
  have own : Machine.fob (noteTelegram t (some i) .accepted s) i = f := fob_of_getElem h
  unfold acceptPress
  rw [own]
  rfl

theorem acceptPress_lessLocks (h : s.cfg.fobs[i]? = some f) :
    lessLocks (acceptPress i t (noteTelegram t (some i) .accepted s)) = lessLocks (pressTaken i f t s) := by
  rw [acceptPress_eq h]
  simp

end

/-- Settles O56. -/
theorem replayedTelegramActsOnNothing : Obligations.ReplayedTelegramActsOnNothing := by
  intro s t i f r a run fob fobRun active remote serial accepted first press small bound places ahead u
  have found : FobFound i f r t s := ⟨run, fob, fobRun, active, remote, serial, first⟩
  refine ⟨fun low high => ?_, fun stale window noPair => ?_⟩
  · have taken : u = acceptPress i t (noteTelegram t (some i) .accepted s) :=
      takeTelegram_accepted found press (judgePress_accepted accepted bound low high)
    have rest : lessLocks u = lessLocks (pressTaken i f t s) := by
      rw [taken]
      exact acceptPress_lessLocks fob
    have same {α : Type} (g : State → α) (hg : ∀ v, g (lessLocks v) = g v) : g u = g (pressTaken i f t s) :=
      same_of_locks rest g hg
    have cfg : u.cfg = _ := same State.cfg fun _ => rfl
    have runs : u.fobRun = _ := same State.fobRun fun _ => rfl
    have key : u.key = _ := same State.key fun _ => rfl
    obtain ⟨inside, _⟩ := List.getElem?_eq_some_iff.mp fob
    obtain ⟨insideRun, _⟩ := List.getElem?_eq_some_iff.mp fobRun
    have again : FobFound i { f with accepted := some t.counter } ⟨none, t.batteryLow⟩ t u := by
      refine ⟨(same State.stage fun _ => rfl).trans run, ?_, ?_, active, remote, serial, fun j g before there => ?_⟩
      · rw [cfg]
        simp [pressTaken, inside]
      · rw [runs]
        simp [pressTaken, insideRun]
      · rw [cfg] at there
        refine first j g before ?_
        simpa [pressTaken, List.getElem?_set_ne (Nat.ne_of_gt before)] using there
    have replayed : takeTelegram t u = raise .replay none (noteTelegram t (some i) .replay u) := by
      refine takeTelegram_replay again press (judgePress_replay rfl small (.inl ?_) rfl)
      omega
    have kept {α : Type} (g : State → α) (hg : ∀ v, g (lessTraffic v) = g v) :
        g (takeTelegram t u) = g (noteTelegram t (some i) .replay u) := by
      rw [replayed]
      exact same_of_rest (raise_rest ..) g hg
    refine ⟨cfg, runs, ?_, ?_, ?_, kept State.cfg fun _ => rfl, kept State.group fun _ => rfl⟩
    · rw [key]
      rfl
    · rw [key, ← press]
      rfl
    · rw [kept (fun v => v.key.lastTelegram) fun _ => rfl, ← press]
      rfl
  · have unpaired : completesPair s.now r t.counter = false := by
      unfold completesPair
      split
      · next cand there =>
        rcases noPair cand.counter cand.deadline there with late | apart
        · simp [live, Nat.not_le.mpr late]
        · simp [Config.counterModulus, apart]
      · rfl
    have judged := judgePress_replay (now := s.now) (w := s.cfg.key.forwardWindow) (r := r) accepted bound
      (stale.imp_right fun far => ⟨far, by omega⟩) unpaired
    have replayed : u = raise .replay none (noteTelegram t (some i) .replay s) := takeTelegram_replay found press judged
    have kept {α : Type} (g : State → α) (hg : ∀ v, g (lessTraffic v) = g v) :
        g u = g (noteTelegram t (some i) .replay s) := by
      rw [replayed]
      exact same_of_rest (raise_rest ..) g hg
    refine ⟨kept State.cfg fun _ => rfl, kept State.fobRun fun _ => rfl, kept (fun v => v.key.hold) fun _ => rfl,
      kept State.group fun _ => rfl, kept State.closures fun _ => rfl, kept State.windows fun _ => rfl,
      kept State.op fun _ => rfl, kept State.ctx fun _ => rfl, ?_, ?_⟩
    · rw [kept (fun v => v.key.lastTelegram) fun _ => rfl, ← press]
      rfl
    · rw [replayed]
      exact faultRecord_raiseWith (s := noteTelegram t (some i) .replay s) (by simp) places

end Sys2Proof.Machine
end

section
/-!
PROOFS. The adaptation of a profile at the end stop (R81, R90, R91).
-/

namespace Sys2Proof.Machine

/-- A motion that ends, if there is one, leaves the position and the zone maxima of its window (R91), but for a clear that
waits for it. -/
theorem endMotion_adapted {w : WindowId} {s : State} (clear : (window s w).clearPending = false) :
    (window (endMotion w .reached s) w).position = (window s w).position ∧
      (window (endMotion w .reached s) w).maxima = (window s w).maxima := by
  by_cases out : (window s w).state = .waiting ∨ windowMoving (window s w) = true
  · rw [endMotion_ended (by simp) out]
    unfold endMotionRecord
    by_cases waits : (window s w).state = .waiting
    · rw [if_pos (beq_iff_eq.mpr waits)]
      have record : window (endWaiting w .reached s) w = _ := window_setWindow ..
      rw [record]
      exact ⟨rfl, rfl⟩
    · rw [if_neg (by simpa using waits), if_pos (out.resolve_left waits)]
      have record : window (endRunning w (some .reached) s) w =
          endedRecord (windowCfg s w).travel (some .reached) (window s w) := window_setWindow ..
      rw [record, endedRecord]
      simp [clear]
  · obtain ⟨notWaiting, still⟩ := not_or.mp out
    have notOut : (inMotion (window s w)) = false := by
      by_contra moves
      exact still (by simp only [Bool.not_eq_false] at moves; simp_all [inMotion, windowMoving])
    have rest : endMotion w .reached s = s := by
      unfold endMotion endMotionRecord
      simp [notWaiting, still, notOut]
    rw [rest]
    exact ⟨rfl, rfl⟩

/-- One zone as the statement gives it: the bounded step toward the sample. -/
theorem adaptZone_eq (r : Nat) (m : Option Nat) : (adaptZone r m : Int) =
    match m with
    | none => (r : Int)
    | some m =>
      let step := ((m : Int) - r + 4) / 8
      max 0 (min 200 (r + (if step < -4 then -4 else if 4 < step then 4 else step))) := by
  cases m with
  | none => rfl
  | some m =>
    have clamp (step : Int) : max (-4) (min 4 step) = if step < -4 then -4 else if 4 < step then 4 else step := by
      split
      · omega
      · split <;> omega
    simp only [adaptZone, clamp]
    exact Int.toNat_of_nonneg (Int.le_max_left ..)

theorem adaptProfile_zone {profile : List Nat} {maxima : List (Option Nat)} {z r : Nat} {m : Option Nat}
    (zone : profile[z]? = some r) (sample : maxima[z]? = some m) :
    (adaptProfile profile maxima)[z]? = some (adaptZone r m) := by
  obtain ⟨inside, _⟩ := List.getElem?_eq_some_iff.mp sample
  have there : (maxima ++ List.replicate 16 none)[z]? = some m := by
    rw [List.getElem?_append_left inside, sample]
  rw [adaptProfile, List.getElem?_zipWith, zone, there]

/-- Settles O55. -/
theorem adaptationMovesEachZone : Obligations.AdaptationMovesEachZone := by
  intro s w z r m inside normal clear far zone sample moved u
  let x : Window := { window s w with position := 0, maxima := List.replicate 16 none }
  let v : State := setWindow w x (setProfile w (adaptProfile (s.cfg.profiles.get w) (window s w).maxima) s)
  have adapted : ((window s w).normalized && Config.adaptStart ≤ (window s w).startPosition : Bool) = true := by
    simp [normal, Config.adaptStart, far]
  have ended : u = endMotion w .reached v := by
    have unfolded : u = endStop w s := rfl
    rw [unfolded, endStop]
    simp only [adapted, if_true]
    rfl
  have own : window v w = x := window_setWindow ..
  have cfg : u.cfg = v.cfg := by
    rw [ended]
    exact same_of_motion (endMotion_lessMotion v w .reached) State.cfg fun _ => rfl
  have profile : u.cfg.profiles.get w = adaptProfile (s.cfg.profiles.get w) (window s w).maxima := by
    rw [cfg]
    exact Four.get_set_same ..
  obtain ⟨position, maxima⟩ := endMotion_adapted (s := v) (w := w) (by rw [own]; exact clear)
  refine ⟨?_, ?_, rfl, ?_⟩
  · rw [profile, adaptProfile_zone zone sample]
    exact congrArg some (adaptZone_eq r m)
  · rw [ended, maxima, own]
    exact List.getElem?_replicate.trans (if_pos inside)
  · rw [ended, position, own]

end Sys2Proof.Machine
end

section
/-!
PROOFS. The grant of a waiting entry (R46, R58, R59, R61, R65, R66, R68, R132).
-/

namespace Sys2Proof.Machine

/-- The Motion Queue without a window's entry. -/
def unqueued (w : WindowId) (s : State) : Motion :=
  { s.motion with
    switchQueue := s.motion.switchQueue.filter (· ≠ w), otherQueue := s.motion.otherQueue.filter (· ≠ w) }

/-- The entry has left the queue and the window is IDLE with record `y`. -/
def entryEnded (w : WindowId) (y : Window) (s : State) : State :=
  { s with motion := unqueued w s, windows := s.windows.set w { y with state := .idle } }

theorem dequeue_eq (w : WindowId) (s : State) : dequeue w s.motion = unqueued w s := by
  have others (l : List WindowId) : l.filter (· != w) = l.filter (· ≠ w) := by
    congr 1
    funext v
    simp [bne, Bool.beq_eq_decide_eq]
  simp only [dequeue, unqueued, others]

section
variable {w : WindowId} {s : State}

/-- The window as its grant finds it (R64). -/
def cooled (w : WindowId) (s : State) : Window := heatRest s.now (window s w)

theorem cooled_state : (cooled w s).state = (window s w).state := heatRest_same Window.state (fun _ _ _ _ => rfl) ..

theorem cooled_origin : (cooled w s).origin = (window s w).origin := heatRest_same Window.origin (fun _ _ _ _ => rfl) ..

/-- The grant's own state before its checks. -/
theorem window_cooled : window (setWindow w (cooled w s) s) w = cooled w s := window_setWindow ..

/-- The check of heat and supply at the grant (R65, R66, R68). -/
theorem thermalRefusal_cooled (heldClose : Bool) :
    thermalRefusal w heldClose (setWindow w (cooled w s) s) =
      if ((cooled w s).hot && !heldClose || (cooled w s).overtemp) = true then some .hot
      else if (voltageFresh s && s.ctx.voltage < 90 : Bool) = true then some .lowSupply
      else none := by
  unfold thermalRefusal
  rw [window_cooled]
  rfl

/-- A refused grant: the refusal, and SKIPPED for the step of an operation (R61, R132). -/
theorem grant_refused {cause : WindowRefusal}
    (refused : thermalRefusal w ((cooled w s).held && (cooled w s).direction == .up) (setWindow w (cooled w s) s) =
      some cause) :
    grant w s =
      (fun t => if operationOrigin (cooled w s).origin then handStatus w .skipped t else t)
        (entryEnded w { cooled w s with lastRefusal := some cause, origin := none, held := false } s) := by
  have left : ({ setWindow w { cooled w s with state := .idle, origin := none, held := false }
        (setWindow w (cooled w s) s) with motion := dequeue w s.motion } : State) =
      entryEnded w { cooled w s with origin := none, held := false } s := by
    rw [dequeue_eq, setWindow_setWindow]
    rfl
  have own : window (entryEnded w { cooled w s with origin := none, held := false } s) w =
      { cooled w s with state := .idle, origin := none, held := false } := Four.get_set_same ..
  have noted : setWindow w { window (entryEnded w { cooled w s with origin := none, held := false } s) w with
        lastRefusal := some cause } (entryEnded w { cooled w s with origin := none, held := false } s) =
      entryEnded w { cooled w s with lastRefusal := some cause, origin := none, held := false } s := by
    rw [own]
    exact setWindow_setWindow w _ _ { s with motion := unqueued w s }
  unfold grant
  dsimp only
  rw [← cooled, window_cooled, refused]
  dsimp only [refuseWindow]
  rw [← noted, ← left]
  rfl

/-- A grant that finds nothing left to move ends REACHED like any motion (R46, R61). -/
theorem grant_reached
    (free : thermalRefusal w ((cooled w s).held && (cooled w s).direction == .up) (setWindow w (cooled w s) s) = none)
    (done : ¬LeftToMove (cooled w s).direction (min (cooled w s).requested (currentLimit s w)) (cooled w s).position) :
    grant w s = endMotion w .reached (setWindow w (cooled w s) s) := by
  have target : effectiveTarget (setWindow w (cooled w s) s) w = min (cooled w s).requested (currentLimit s w) := by
    rw [effectiveTarget, window_cooled, currentLimit_setWindow]
  unfold grant
  dsimp only
  rw [← cooled, window_cooled, free]
  dsimp only
  rw [target, if_pos ((nothingLeft_iff ..).mpr done)]

/-- A grant that leaves something to move takes a slot (R58, R61). -/
theorem grant_moves
    (free : thermalRefusal w ((cooled w s).held && (cooled w s).direction == .up) (setWindow w (cooled w s) s) = none)
    (left : LeftToMove (cooled w s).direction (min (cooled w s).requested (currentLimit s w)) (cooled w s).position) :
    grant w s =
      { s with
        windows := s.windows.set w
          { cooled w s with
            state := if (cooled w s).held then .movingManual else .movingAuto, runStart := none, pinchFlag := false }
        motion := { unqueued w s with slots := s.motion.slots ++ [⟨w, false⟩] } } := by
  have target : effectiveTarget (setWindow w (cooled w s) s) w = min (cooled w s).requested (currentLimit s w) := by
    rw [effectiveTarget, window_cooled, currentLimit_setWindow]
  unfold grant
  dsimp only
  rw [← cooled, window_cooled, free]
  dsimp only
  rw [target, if_neg (fun none_ => (nothingLeft_iff ..).mp none_ left), setWindow_setWindow]
  refine Eq.trans ?_ (congrArg (fun m : Motion => ({ s with
    windows := s.windows.set w
      { cooled w s with
        state := if (cooled w s).held then .movingManual else .movingAuto, runStart := none, pinchFlag := false }
    motion := { m with slots := s.motion.slots ++ [⟨w, false⟩] } } : State)) (dequeue_eq w s))
  rfl

/-- The record of an entry that is taken out of the queue with REACHED. -/
theorem endMotionRecord_cooled (waits : (window s w).state = .waiting) :
    endMotionRecord w .reached (setWindow w (cooled w s) s) =
      entryEnded w { cooled w s with lastOutcome := some .reached, origin := none, held := false } s := by
  have waits' : (window (setWindow w (cooled w s) s) w).state = .waiting := by rw [window_cooled, cooled_state, waits]
  have left : endWaiting w .reached (setWindow w (cooled w s) s) =
      { setWindow w { cooled w s with
          state := .idle, lastOutcome := some .reached, origin := none, held := false } (setWindow w (cooled w s) s) with
        motion := dequeue w s.motion } := by
    unfold endWaiting
    rw [window_cooled]
    rfl
  rw [endMotionRecord, if_pos (beq_iff_eq.mpr waits'), left, dequeue_eq, setWindow_setWindow]
  rfl

theorem endMotion_cooled (waits : (window s w).state = .waiting) (plain : operationOrigin (window s w).origin = false) :
    endMotion w .reached (setWindow w (cooled w s) s) =
      entryEnded w { cooled w s with lastOutcome := some .reached, origin := none, held := false } s := by
  have origin : operationOrigin (window (setWindow w (cooled w s) s) w).origin = false := by
    rw [window_cooled, cooled_origin, plain]
  unfold endMotion handOutcome
  dsimp only
  rw [origin, endMotionRecord_cooled waits]
  simp

theorem StepOut.cooled {op : ActiveOp} (step : StepOut w op s) : StepOut w op (setWindow w (Machine.cooled w s) s) := by
  refine ⟨step.active, step.distinct, step.counted, step.noCause, step.noHold, step.issued, ?_, ?_⟩
  · rw [window_cooled, cooled_state]
    exact step.out
  · rw [window_cooled, cooled_origin]
    exact step.origin

/-- A status other than PINCHED that is handed on for an entry taken out of the queue ends its step (R132). -/
theorem handStatus_entryEnded {status : StepStatus} {op : ActiveOp} {y : Window} (run : s.stage = .run)
    (room : s.tx.length < Config.txPlaces) (step : StepOut w op s) (ended : stepEnded status = true)
    (plain : status ≠ .pinched) :
    handStatus w status (entryEnded w y s) = stepEndedAs w status op (entryEnded w y s) := by
  obtain ⟨x, mem, own, issued⟩ := step.issued
  exact handStatus_open (s := entryEnded w y s) run room step.noHold step.active step.distinct step.counted step.noCause
    ⟨x, mem, own, by simp [openStep, issued]⟩ ended plain

theorem operationOrigin_iff (origin : Option Origin) :
    operationOrigin origin = true ↔ origin = some .operation ∨ origin = some .fobOperation := by
  cases origin with
  | none => simp [operationOrigin]
  | some o => cases o <;> simp [operationOrigin]

end

/-- A part stays calm whatever the engine and the queue do. -/
theorem Calm.stepEndedAs {s : State} (calm : Calm s) (w : WindowId) (status : StepStatus) (op : ActiveOp) :
    Calm (stepEndedAs w status op s) := by
  have same {α : Type} (f : State → α) (hf : ∀ (u : State) op tx, f { u with op := op, tx := tx } = f u) :
      f (Machine.stepEndedAs w status op s) = f s := stepEndedAs_same f hf ..
  exact calm.of_same (same State.stage fun _ _ _ => rfl) (same (fun u => u.ctx.state) fun _ _ _ => rfl)
    (same (fun u => u.ctx.ignition) fun _ _ _ => rfl) (same State.channels fun _ _ _ => rfl)
    (same (fun u => u.cfg.modes) fun _ _ _ => rfl)

/-- Settles O53. -/
theorem motionGrantTakesASlot : Obligations.MotionGrantTakesASlot := by
  intro s dt calm run
  let t : State := elapse dt s
  have meaning : exec (.motionGrant dt) s = perform dt (fun t =>
      match grantable t with
      | some w => grant w t
      | none => t) s := rfl
  refine ⟨fun full => ?_, fun w rest free queue reported waits => ?_⟩
  · refine answers_calm meaning calm.supplied ?_ (calm.of_same rfl rfl rfl rfl rfl)
    have none_ : grantable t = none := by
      have taken : ¬ t.motion.slots.length < Config.motorSlots := Nat.not_lt.mpr full
      unfold grantable
      split
      · rfl
      · exact if_neg (by simp [taken])
    rw [none_]
    rfl
  · intro x effective unq hot low idle refused reached answers ends
    have own : x = cooled w t := rfl
    have granted : grantable t = some w := by
      have ready : (running t && isAwake t && (channel t (windowClosure w)).reported &&
          Decidable.decide (t.motion.slots.length < Config.motorSlots)) = true := by
        have place : t.motion.slots.length < Config.motorSlots := free
        have heard : (channel t (windowClosure w)).reported = true := reported
        simp [running, isAwake, t, run, calm.awake run, heard]; exact Nat.le_of_lt_succ free
      have head : motionQueue t = w :: rest := queue
      unfold grantable
      rw [head]
      exact if_pos ready
    have still : Calm t := calm.of_same rfl rfl rfl rfl rfl
    have goes {u : State} (effect : grant w t = u) (after : Calm u) : answers u := by
      refine answers_calm meaning calm.supplied ?_ after
      rw [granted]
      exact effect
    have plainOrigin (no : x.origin ≠ some .operation) (noFob : x.origin ≠ some .fobOperation) :
        operationOrigin (window t w).origin = false := by
      rw [← Bool.not_eq_true, operationOrigin_iff, ← cooled_origin]
      exact not_or.mpr ⟨no, noFob⟩
    have stepOrigin {op : ActiveOp} (step : StepOut w op s) : operationOrigin (cooled w t).origin = true := by
      rw [operationOrigin_iff, cooled_origin]
      exact step.origin
    have refuses (cause : WindowRefusal)
        (h : thermalRefusal w ((cooled w t).held && (cooled w t).direction == .up) (setWindow w (cooled w t) t) =
          some cause) : ends .skipped (refused cause) := by
      refine ⟨fun no noFob => goes ?_ (still.of_same rfl rfl rfl rfl rfl), fun op step room => goes ?_ ?_⟩
      · rw [grant_refused h, cooled_origin, plainOrigin no noFob]
        rfl
      · rw [grant_refused h, stepOrigin step]
        exact handStatus_entryEnded (s := t) run room (step.of_same rfl rfl rfl) rfl (by simp)
      · exact (still.of_same rfl rfl rfl rfl rfl : Calm (refused cause)).stepEndedAs ..
    have thermal := thermalRefusal_cooled (w := w) (s := t) ((cooled w t).held && (cooled w t).direction == .up)
    have hot_iff : ((cooled w t).hot && !((cooled w t).held && (cooled w t).direction == .up) || (cooled w t).overtemp) =
        true ↔ hot := by
      simp only [hot, own, Bool.or_eq_true, Bool.and_eq_true, Bool.not_eq_true', Bool.and_eq_false_iff, beq_eq_false_iff_ne,
        ne_eq, not_and_or, Bool.not_eq_true]
    have low_iff : (voltageFresh t && t.ctx.voltage < 90 : Bool) = true ↔ low := by
      simp only [Bool.and_eq_true, decide_eq_true_eq, low, voltageFresh, live_iff]
      exact and_comm
    simp only [hot_iff, low_iff] at thermal
    refine ⟨fun h => refuses .hot (thermal.trans (if_pos h)), fun h l => refuses .lowSupply ?_, fun h l left => ?_,
      fun h l done => ?_⟩
    · rw [thermal, if_neg h, if_pos l]
    · have none_ := thermal.trans ((if_neg h).trans (if_neg l))
      exact goes (grant_moves none_ left) (still.of_same rfl rfl rfl rfl rfl)
    · have none_ := thermal.trans ((if_neg h).trans (if_neg l))
      have done' := grant_reached none_ done
      refine ⟨fun no noFob => goes (done'.trans ?_) (still.of_same rfl rfl rfl rfl rfl),
        fun op step room => goes (done'.trans ?_) ?_⟩
      · exact endMotion_cooled (s := t) waits (plainOrigin no noFob)
      · have out : StepOut w op t := step.of_same rfl rfl rfl
        rw [endMotion_step (s := setWindow w (cooled w t) t) run room out.cooled rfl (by simp),
          endMotionRecord_cooled (s := t) waits]
        rfl
      · exact (still.of_same rfl rfl rfl rfl rfl : Calm reached).stepEndedAs ..

end Sys2Proof.Machine
end

section
/-!
PROOFS. The anti-pinch decision on a report of a closing window (R72 to R83, R85).
-/

namespace Sys2Proof.Machine

/-! ## The record a report of a closing window is judged on (R72 to R78, R89) -/

section
variable (w : WindowId) (rep : Report) (s : State)

/-- The zone a report of a closing window falls in (R75). -/
def reportZone : Nat := zoneOf ((window s w).position - rep.ripple) (windowCfg s w).travel

/-- The compensated current of a report (R74). -/
def reportCurrent : Nat := compensate rep.current (pinchVoltage s)

/-- The record after the stages A, B and F. -/
def countedReport : Window :=
  let x := countReport rep.ripple (windowCfg s w).blanking
    (integrate .up rep.ripple (windowCfg s w).travel (heatUp s.now (window s w)))
  if rep.ripple = 0 then x else { x with normHold := none }

/-- The record after all stages: the one the decision is taken on. -/
def judgedReport : Window :=
  collectSample rep.ripple (reportZone w rep s) (reportCurrent rep s)
    (debounceStep (reportCurrent rep s) ((s.cfg.profiles.get w).getD (reportZone w rep s) 0)
      (threshold s (windowCfg s w)) (countedReport w rep s))

/-- Any field that the stages do not write. -/
theorem judgedReport_same {α : Type} (f : Window → α)
    (hf : ∀ (y : Window) position heat hot stamp run zeros hold debounce maxima,
      f { y with
        position := position, heat := heat, hot := hot, heatStamp := stamp, runCounter := run, zeroCount := zeros
        normHold := hold, debounce := debounce, maxima := maxima } = f y) :
    f (judgedReport w rep s) = f (window s w) := by
  let x := window s w
  have sampled (d zone current : Nat) (y : Window) : f (collectSample d zone current y) = f y := by
    unfold collectSample
    dsimp only
    split
    · exact hf y y.position y.heat y.hot y.heatStamp y.runCounter y.zeroCount y.normHold y.debounce _
    · rfl
  have stepped (current profile threshold : Nat) (y : Window) :
      f (debounceStep current profile threshold y) = f y :=
    hf y y.position y.heat y.hot y.heatStamp y.runCounter y.zeroCount y.normHold _ y.maxima
  have counted : f (countedReport w rep s) = f x := by
    unfold countedReport
    dsimp only
    split
    · exact hf x _ _ _ _ _ _ x.normHold x.debounce x.maxima
    · exact hf x _ _ _ _ _ _ none x.debounce x.maxima
  exact (sampled ..).trans ((stepped ..).trans counted)

end

section
variable {w : WindowId} {rep : Report} {s : State}

theorem countedReport_position : (countedReport w rep s).position = (window s w).position - rep.ripple := by
  unfold countedReport
  dsimp only
  split <;> rfl

theorem judgedReport_position : (judgedReport w rep s).position = (window s w).position - rep.ripple := by
  rw [← countedReport_position]
  unfold judgedReport collectSample
  dsimp only
  split <;> rfl

theorem judgedReport_debounce : (judgedReport w rep s).debounce =
    if (s.cfg.profiles.get w).getD (reportZone w rep s) 0 + threshold s (windowCfg s w) < reportCurrent rep s then
      bump (window s w).debounce
    else 0 := by
  have counted : (countedReport w rep s).debounce = (window s w).debounce := by
    unfold countedReport
    dsimp only
    split <;> rfl
  rw [← counted]
  unfold judgedReport collectSample
  dsimp only
  split <;> rfl

theorem countedReport_zeroCount (past : (windowCfg s w).blanking ≤ (window s w).runCounter)
    (bound : (windowCfg s w).blanking < 255) : (countedReport w rep s).zeroCount =
      if rep.ripple = 0 then bump (window s w).zeroCount else 0 := by
  have after : ¬ bump (window s w).runCounter ≤ (windowCfg s w).blanking := by
    unfold bump
    omega
  have zeros : (countReport rep.ripple (windowCfg s w).blanking
      (integrate .up rep.ripple (windowCfg s w).travel (heatUp s.now (window s w)))).zeroCount =
        if rep.ripple = 0 then bump (window s w).zeroCount else 0 := if_neg after
  rw [← zeros]
  unfold countedReport
  dsimp only
  split <;> rfl

theorem judgedReport_zeroCount (past : (windowCfg s w).blanking ≤ (window s w).runCounter)
    (bound : (windowCfg s w).blanking < 255) : (judgedReport w rep s).zeroCount =
      if rep.ripple = 0 then bump (window s w).zeroCount else 0 := by
  rw [← countedReport_zeroCount past bound]
  unfold judgedReport collectSample
  dsimp only
  split <;> rfl

theorem judgedReport_blocked (past : (windowCfg s w).blanking ≤ (window s w).runCounter)
    (bound : (windowCfg s w).blanking < 255) : blocked (judgedReport w rep s) = true ↔
      2 ≤ if rep.ripple = 0 then bump (window s w).zeroCount else 0 := by
  rw [← judgedReport_zeroCount past bound]
  simp [blocked]

/-- A report that answers UP of the present closing motion (R70, R84). -/
structure Closing (w : WindowId) (s : State) : Prop where
  moving : (window s w).state = .movingManual ∨ (window s w).state = .movingAuto
  direction : (window s w).direction = .up
  drive : (window s w).lastDrive = .up
  noStop : (window s w).stopDue = false
  past : (windowCfg s w).blanking ≤ (window s w).runCounter
  bound : (windowCfg s w).blanking < 255

/-- Past blanking the decision of stage H is carried out, and the target test follows (R62, R70, R79). -/
theorem windowReport_closing (closing : Closing w s) : windowReport w rep s =
    endIfReached w
      (carryOut w (reportZone w rep s) (reportCurrent rep s)
        (decide (windowCfg s w) (reportCurrent rep s) (judgedReport w rep s))
        (setWindow w (judgedReport w rep s) s)) := by
  obtain ⟨moving, direction, drive, noStop, past, bound⟩ := closing
  have own : window (setWindow w (heatUp s.now (window s w)) s) w = heatUp s.now (window s w) := window_setWindow ..
  have running : motorRunning (window s w) = true := by simp [motorRunning, drive]
  have answers : answersMotion .up (heatUp s.now (window s w)) = true := by
    have moves : windowMoving (window s w) = true := by rcases moving with h | h <;> simp [windowMoving, h]
    have same : answersMotion .up (heatUp s.now (window s w)) =
        (windowMoving (window s w) && (window s w).direction == .up && !(window s w).stopDue) := rfl
    rw [same, moves, direction, noStop]
    rfl
  have after : afterBlanking (windowCfg s w).blanking (countedReport w rep s) = true := by
    have run : (countedReport w rep s).runCounter = bump (window s w).runCounter := by
      unfold countedReport
      dsimp only
      split <;> rfl
    rw [afterBlanking, run]
    exact decide_eq_true (by unfold bump; omega)
  have closes : windowReport w rep s =
      closingReport w rep.ripple rep.current (setWindow w (heatUp s.now (window s w)) s) := by
    unfold windowReport
    dsimp only
    rw [running, if_pos rfl, motorData, own]
    have up : (heatUp s.now (window s w)).lastDrive = .up := drive
    rw [up]
    exact if_pos answers
  have zone : zoneOf (countedReport w rep s).position (windowCfg s w).travel = reportZone w rep s := by
    rw [countedReport_position, reportZone]
  rw [closes]
  unfold closingReport
  dsimp only
  rw [own]
  refine (congrArg (endIfReached w) (if_pos after)).trans ?_
  have carried := congrArg (fun z => endIfReached w (carryOut w z (reportCurrent rep s)
    (decide (windowCfg s w) (reportCurrent rep s) (collectSample rep.ripple z (reportCurrent rep s)
      (debounceStep (reportCurrent rep s) ((s.cfg.profiles.get w).getD z 0) (threshold s (windowCfg s w))
        (countedReport w rep s))))
    (setWindow w (collectSample rep.ripple z (reportCurrent rep s)
      (debounceStep (reportCurrent rep s) ((s.cfg.profiles.get w).getD z 0) (threshold s (windowCfg s w))
        (countedReport w rep s))) (setWindow w (heatUp s.now (window s w)) s)))) zone
  refine carried.trans ?_
  rw [setWindow_setWindow]
  rfl

end

/-! ## The decision (R79 to R83) -/

/-- The window is within S..H and normalized: EXCESS and BLOCK pinch there (R80, R82). -/
def inSpan (p : WindowSettings) (x : Window) : Prop :=
  x.normalized = true ∧ p.topMargin ≤ x.position ∧ x.position ≤ min p.span p.travel

theorem decide_pinches {p : WindowSettings} {current : Nat} {x : Window}
    (h : p.ceiling ≤ current ∨ inSpan p x ∧ (p.debounce ≤ x.debounce ∨ blocked x = true)) :
    decide p current x =
      .pinch (if p.ceiling ≤ current then .current else if p.debounce ≤ x.debounce then .excess else .block) := by
  unfold decide
  dsimp only
  by_cases high : p.ceiling ≤ current
  · rw [if_pos high, if_pos high]
  · obtain ⟨⟨normal, below, within⟩, cause⟩ := h.resolve_left high
    rw [if_neg high, if_neg high, if_neg (by simp [normal]), if_neg (Nat.not_lt.mpr below), if_pos within]
    by_cases excess : p.debounce ≤ x.debounce
    · rw [if_pos excess, if_pos excess]
    · rw [if_neg excess, if_pos (cause.resolve_left excess), if_neg excess]

theorem decide_spares {p : WindowSettings} {current : Nat} {x : Window}
    (h : ¬(p.ceiling ≤ current ∨ inSpan p x ∧ (p.debounce ≤ x.debounce ∨ blocked x = true))) :
    decide p current x = .none ∨ decide p current x = .endStop ∨ decide p current x = .normHold := by
  obtain ⟨low, no⟩ := not_or.mp h
  unfold decide
  dsimp only
  rw [if_neg low]
  by_cases normal : x.normalized = true
  · rw [if_neg (by simp [normal])]
    by_cases top : x.position < p.topMargin
    · rw [if_pos top]
      split <;> simp
    · rw [if_neg top]
      by_cases within : x.position ≤ min p.span p.travel
      · have none_ := (not_and.mp no) ⟨normal, Nat.not_lt.mp top, within⟩
        obtain ⟨noExcess, noBlock⟩ := not_or.mp none_
        rw [if_pos within, if_neg noExcess, if_neg noBlock]
        exact .inl rfl
      · rw [if_neg within]
        exact .inl rfl
  · rw [if_pos (by simp [normal])]
    split <;> simp

/-! ## The pinch (R85) -/

section
variable {w : WindowId} {cause : PinchCause} {zone current : Nat} {s : State}

theorem raiseWith_same {α : Type} (f : State → α) (hf : ∀ u, f (lessTraffic u) = f u) (detail : Option PinchDetail)
    (cls : FaultClass) (who : Option Closure) (s : State) : f (raiseWith detail cls who s) = f s :=
  same_of_rest (raiseWith_rest detail cls who s) f hf

theorem takePinch_window :
    window (takePinch w cause zone current s) w = pinchedRecord (windowCfg s w) cause (window s w) := by
  have own : window (setWindow w (pinchedRecord (windowCfg s w) cause (window s w)) s) w =
      pinchedRecord (windowCfg s w) cause (window s w) := window_setWindow ..
  have free : ¬EnginesOwn (window (setWindow w (pinchedRecord (windowCfg s w) cause (window s w)) s) w) := by
    rw [own]
    rintro ⟨_, h | h | h⟩ <;> cases h
  have handed : window (handOutcome (window s w).origin w .pinched
      (setWindow w (pinchedRecord (windowCfg s w) cause (window s w)) s)) w =
        pinchedRecord (windowCfg s w) cause (window s w) := by
    refine Eq.trans ?_ own
    unfold handOutcome
    split
    · split
      · exact handStatus_window free ..
      · rfl
    · rfl
  rw [← handed]
  exact raiseWith_same (fun u => window u w) (fun _ => rfl) ..

theorem takePinch_motion (plain : operationOrigin (window s w).origin = false) :
    (takePinch w cause zone current s).motion = s.motion := by
  refine (raiseWith_same State.motion (fun _ => rfl) ..).trans ?_
  rw [handOutcome, plain]
  rfl

theorem takePinch_record (places : s.faults.length = 14) :
    (faultRecord (takePinch w cause zone current s) .pinch).count = min 255 ((faultRecord s .pinch).count + 1) ∧
      (faultRecord (takePinch w cause zone current s) .pinch).last = some (windowClosure w) := by
  have kept : FaultsKept s (handOutcome (window s w).origin w .pinched
      (setWindow w (pinchedRecord (windowCfg s w) cause (window s w)) s)) := by
    have written : FaultsKept s (setWindow w (pinchedRecord (windowCfg s w) cause (window s w)) s) := .of_faults rfl
    unfold handOutcome
    split
    · split
      · exact written.trans (handStatus_faultsKept ..)
      · exact written
    · exact written
  rw [← kept.record .pinch (by simp)]
  exact ⟨faultRecord_raiseWith (by simp) (kept.length.trans places),
    faultRecord_raiseWith_last (by simp) (kept.length.trans places)⟩

/-- The target test leaves a window that is no longer in motion (R62). -/
theorem endIfReached_still (still : inMotion (window s w) = false) : endIfReached w s = s := by
  simp [endIfReached, still]

end

/-! ## The end of a motion, in the fields that it leaves -/

section
variable {w : WindowId} {s : State}

/-- A motion that ends leaves the counts of its window, and no reversal. -/
theorem endMotion_reached_spares :
    (window (endMotion w .reached s) w).pinchCount = (window s w).pinchCount ∧
      ((window s w).state ≠ .reversing → (window (endMotion w .reached s) w).state ≠ .reversing) := by
  by_cases out : (window s w).state = .waiting ∨ windowMoving (window s w) = true
  · rw [endMotion_ended (by simp) out]
    refine ⟨?_, fun _ => by simp [(endMotionRecord_ended (outcome := .reached) (by simp) out).1]⟩
    unfold endMotionRecord
    by_cases waits : (window s w).state = .waiting
    · rw [if_pos (beq_iff_eq.mpr waits)]
      have record : window (endWaiting w .reached s) w = _ := window_setWindow ..
      rw [record]
    · rw [if_neg (by simpa using waits), if_pos (out.resolve_left waits)]
      have record : window (endRunning w (some .reached) s) w =
          endedRecord (windowCfg s w).travel (some .reached) (window s w) := window_setWindow ..
      rw [record, endedRecord]
      split <;> rfl
  · obtain ⟨notWaiting, still⟩ := not_or.mp out
    have notOut : (inMotion (window s w)) = false := by
      by_contra moves
      exact still (by simp only [Bool.not_eq_false] at moves; simp_all [inMotion, windowMoving])
    have rest : endMotion w .reached s = s := by
      unfold endMotion endMotionRecord
      simp [notWaiting, still, notOut]
    rw [rest]
    exact ⟨rfl, id⟩

theorem endIfReached_spares :
    (window (endIfReached w s) w).pinchCount = (window s w).pinchCount ∧
      ((window s w).state ≠ .reversing → (window (endIfReached w s) w).state ≠ .reversing) := by
  unfold endIfReached
  dsimp only
  split
  · exact endMotion_reached_spares
  · exact ⟨rfl, id⟩

/-- A decision other than a pinch leaves the pinch count and reverses nothing (R80 to R83). -/
theorem carryOut_spares {zone current : Nat} {decision : Decision}
    (h : decision = .none ∨ decision = .endStop ∨ decision = .normHold) :
    (window (carryOut w zone current decision s) w).pinchCount = (window s w).pinchCount ∧
      ((window s w).state ≠ .reversing → (window (carryOut w zone current decision s) w).state ≠ .reversing) := by
  rcases h with rfl | rfl | rfl
  · exact ⟨rfl, id⟩
  · have stop (t : State) (maxima : List (Option Nat)) :
        (window (endMotion w .reached (setWindow w { window s w with position := 0, maxima := maxima } t)) w).pinchCount =
            (window s w).pinchCount ∧
          ((window s w).state ≠ .reversing →
            (window (endMotion w .reached (setWindow w { window s w with position := 0, maxima := maxima } t)) w).state ≠
              .reversing) := by
      obtain ⟨count, state⟩ := endMotion_reached_spares (w := w)
        (s := setWindow w { window s w with position := 0, maxima := maxima } t)
      rw [window_setWindow] at count state
      exact ⟨count, state⟩
    exact stop ..
  · have own : window (carryOut w zone current .normHold s) w = _ := window_setWindow ..
    rw [own]
    exact ⟨rfl, id⟩

end

/-- Settles O54. -/
theorem pinchReversesTheWindow : Obligations.PinchReversesTheWindow := by
  intro s w rep p x fresh voltage margin isVoltage noVoltage smooth isRough position current profile above zeros span u
    moving direction drive noStop past bound places
  have closing : Closing w s := ⟨moving, direction, drive, noStop, past, bound⟩
  have volts : pinchVoltage s = voltage := by
    unfold pinchVoltage
    by_cases live : voltageFresh s = true
    · rw [if_pos live, isVoltage ((live_iff ..).mp live)]
    · rw [if_neg live, noVoltage fun is => live ((live_iff ..).mpr is)]
  have isMargin : threshold s p = p.tBase + margin := by
    have smooth_iff : rough s = false ↔
        fresh s.ctx.speedFresh ∧ s.ctx.speed < 20 ∧ fresh s.ctx.voltageFresh := by
      simp only [rough, Bool.or_eq_false_iff, Bool.not_eq_false', speedFresh, voltageFresh, live_iff,
        decide_eq_false_iff_not, Nat.not_le, fresh, and_assoc]
    unfold threshold
    by_cases isSmooth : rough s = false
    · rw [smooth (smooth_iff.mp isSmooth), isSmooth]
      rfl
    · rw [isRough fun is => isSmooth (smooth_iff.mpr is), if_pos (by simpa using isSmooth)]
  have isCurrent : reportCurrent rep s = current := by rw [reportCurrent, volts, compensate]
  let j : Window := judgedReport w rep s
  have isPosition : j.position = position := judgedReport_position
  have isNormal : j.normalized = x.normalized :=
    judgedReport_same w rep s Window.normalized fun _ _ _ _ _ _ _ _ _ _ => rfl
  have isDebounce : j.debounce = above := by
    have stage := judgedReport_debounce (w := w) (rep := rep) (s := s)
    rw [isCurrent, isMargin] at stage
    exact stage
  have isBlocked : blocked j = true ↔ 2 ≤ zeros := judgedReport_blocked past bound
  have judged_iff : (p.ceiling ≤ reportCurrent rep s ∨ inSpan p j ∧ (p.debounce ≤ j.debounce ∨ blocked j = true)) ↔
      (p.ceiling ≤ current ∨ span ∧ (p.debounce ≤ above ∨ 2 ≤ zeros)) := by
    rw [isCurrent, isDebounce, isBlocked, inSpan, isPosition, isNormal]
  have reported := windowReport_closing (rep := rep) closing
  refine ⟨fun pinches => ?_, fun spares => ?_⟩
  · have decision := decide_pinches (judged_iff.mpr pinches)
    let v : State := setWindow w j s
    have own : window v w = j := window_setWindow ..
    let cause : PinchCause := if p.ceiling ≤ current then .current else if p.debounce ≤ above then .excess else .block
    have taken : u = takePinch w cause
        (reportZone w rep s) current v := by
      have carried : u = endIfReached w (carryOut w (reportZone w rep s) (reportCurrent rep s) _ v) :=
        reported.trans (congrArg (fun d => endIfReached w (carryOut w (reportZone w rep s) (reportCurrent rep s) d v))
          decision)
      rw [carried, isCurrent, isDebounce]
      refine endIfReached_still ?_
      have reversing := takePinch_window (w := w) (zone := reportZone w rep s) (current := current) (s := v)
        (cause := cause)
      exact (congrArg inMotion reversing).trans rfl
    have record : window u w = pinchedRecord p cause j := by
      rw [taken, takePinch_window, own]
      rfl
    have counts : j.pinchCount = x.pinchCount :=
      judgedReport_same w rep s Window.pinchCount fun _ _ _ _ _ _ _ _ _ _ => rfl
    have origin : j.origin = x.origin := judgedReport_same w rep s Window.origin fun _ _ _ _ _ _ _ _ _ _ => rfl
    obtain ⟨count, last⟩ := takePinch_record (s := v) (w := w) (cause := cause)
      (zone := reportZone w rep s) (current := current) places
    rw [← taken] at count last
    rw [record]
    refine ⟨rfl, rfl, rfl, rfl, isPosition, isPosition, ?_, rfl, ?_, rfl, rfl, fun no noFob => ?_, count, last⟩
    · rw [← counts]
      rfl
    · rw [← isPosition, ← isNormal]
      rfl
    · rw [taken]
      refine takePinch_motion ?_
      rw [own, ← Bool.not_eq_true, operationOrigin_iff, origin]
      exact not_or.mpr ⟨no, noFob⟩
  · have decision := decide_spares fun h => spares (judged_iff.mp h)
    have own : window (setWindow w j s) w = j := window_setWindow ..
    have counts : j.pinchCount = x.pinchCount :=
      judgedReport_same w rep s Window.pinchCount fun _ _ _ _ _ _ _ _ _ _ => rfl
    have state : j.state = x.state := judgedReport_same w rep s Window.state fun _ _ _ _ _ _ _ _ _ _ => rfl
    obtain ⟨kept, stays⟩ := carryOut_spares (w := w) (s := setWindow w j s) (zone := reportZone w rep s)
      (current := reportCurrent rep s) decision
    rw [own] at kept stays
    have before : (window (carryOut w (reportZone w rep s) (reportCurrent rep s)
        (decide (windowCfg s w) (reportCurrent rep s) (judgedReport w rep s)) (setWindow w j s)) w).state ≠ .reversing :=
      stays (by rw [state]; rcases moving with h | h <;> simp [x, h])
    obtain ⟨kept', stays'⟩ := endIfReached_spares (w := w) (s := carryOut w (reportZone w rep s) (reportCurrent rep s)
      (decide (windowCfg s w) (reportCurrent rep s) (judgedReport w rep s)) (setWindow w j s))
    rw [← reported] at kept' stays'
    exact ⟨kept'.trans (kept.trans counts), stays' before⟩

end Sys2Proof.Machine
end

section
/-!
PROOFS. The end of a link cycle: the next drive, and the loss of a node (R12, R24, R32, R38, R43, R58, R67, R71, R158,
R165, R167, R173).
-/

namespace Sys2Proof.Machine

/-- Calm depends on the channels through their rates alone. -/
theorem Calm.of_rates {s t : State} (calm : Calm s) (stage : t.stage = s.stage) (state : t.ctx.state = s.ctx.state)
    (ignition : t.ctx.ignition = s.ctx.ignition) (modes : t.cfg.modes = s.cfg.modes)
    (rates : ∀ c, (channel t c).rate = (channel s c).rate) : Calm t := by
  refine ⟨stage ▸ calm.supplied, fun r => state ▸ calm.awake (stage ▸ r), fun r => ignition ▸ calm.ignition (stage ▸ r),
    fun r c => ?_⟩
  have run : s.stage = .run := stage ▸ r
  have rate := calm.rates run c
  rw [rates c, rate]
  simp only [chosenRate, run, calm.awake run, r, state, modes]

theorem channel_set (c d : Closure) (ch : Channel) (channels : Five Channel) :
    (channels.set c ch).get d = if d = c then ch else channels.get d := by
  by_cases h : d = c
  · simp [h]
  · simp [h, Five.get_set_other h]

theorem driveSent_rates {now : Nat} {ch : Channel} {c : Closure} {s : State} (rate : ch.rate = (channel s c).rate)
    (d : Closure) : (channel (driveSent now ch c s) d).rate = (channel s d).rate := by
  simp only [driveSent, channel, channel_set]
  split
  · next h =>
    rw [h]
    exact rate
  · rfl

theorem Calm.driveSent {now : Nat} {ch : Channel} {c : Closure} {s : State} (calm : Calm s)
    (rate : ch.rate = (channel s c).rate) : Calm (driveSent now ch c s) :=
  calm.of_rates rfl rfl rfl rfl (driveSent_rates rate)

theorem pollCheck_run {s : State} (run : s.stage = .run) : pollCheck s = s := by simp [pollCheck, run]

/-- The row of a cycle end in a steady part (R165). -/
theorem exec_cycleEnd {s : State} {dt d : Nat} {c : Closure} (supplied : s.stage ≠ .off)
    (due : (channel s c).cycleEnd = some d) :
    exec (.linkCycleEnd dt c) s = .next (finish (elapse dt s) (cycleEnds c (reach d (elapse dt s)))) :=
  exec_deadline (due := fun t => (channel t c).cycleEnd) (f := cycleEnds c) rfl supplied due

/-! ## The loss of a node (R173) -/

/-- The records of a node that has just been declared LOST, its window's apart. -/
def lossNoted (c : Closure) (s : State) : State :=
  { s with
    channels := s.channels.set c
      { channel s c with
        link := .lost, lastReport := none, comparable := false, reported := false
        lossCount := min 65535 ((channel s c).lossCount + 1) }
    closures := s.closures.set c
      { closureDown (closure s c) with sensed := .unknown, latch := .unknown, command := .idle, pulseSteps := 0 }
    children := s.children.mapWith fun e x =>
      if rearClosure e = c then { childDown x with sensed := .unknown, command := none } else x
    release := if c = .tg then { s.release with prepared := false } else s.release }

theorem latchChanged_unknown (c : Closure) (old : Latch) (s : State) :
    AgreeButActivity (latchChanged c old .unknown s) s := by
  cases old <;> exact .refl s

/-- The child lock of a rear door whose node is declared LOST (R29). -/
def childrenLost (c : Closure) (s : State) : State :=
  { s with children := s.children.mapWith fun e x =>
      if rearClosure e = c then { childDown x with sensed := .unknown, command := none } else x }

theorem childLost_eq (c : Closure) (s : State) :
    (match closureRear c with
      | some d => childLost d s
      | none => s) = childrenLost c s := by
  cases c <;> rfl

/-- The window of a closure whose node is declared LOST (R67). -/
def windowsLost (c : Closure) (s : State) : State :=
  match closureWindow c with
  | some w => windowLost w s
  | none => s

section
variable {c : Closure} {s : State}

theorem windowLost_lessMotion (w : WindowId) (s : State) : lessMotion (windowLost w s) = lessMotion s :=
  (endMotion_lessMotion s w .lost : lessMotion (endMotion w .lost s) = lessMotion s)

theorem windowsLost_lessMotion : lessMotion (windowsLost c s) = lessMotion s := by
  unfold windowsLost
  split
  · exact windowLost_lessMotion ..
  · rfl

theorem windowsLost_window {w : WindowId} (own : windowClosure w = c) :
    (window (windowsLost c s) w).state = .fault := by
  unfold windowsLost
  rw [closureWindow_eq.mpr own]
  exact congrArg Window.state (window_setWindow w _ (endMotion w .lost s))

theorem windowsLost_faultsKept : FaultsKept s (windowsLost c s) := by
  unfold windowsLost
  split
  · exact (endMotion_faultsKept ..).trans (.of_faults rfl)
  · exact .refl s

/-- A loss in a resting lock group: the records, the window, the Pass Queue and LINK_LOST (R67, R167, R173). -/
theorem declareLost_eq (noFlight : s.group.inFlight = none) (noSlot : s.group.slot = none) :
    ∃ last idle, declareLost c s =
      (fun t : State => raise .linkLost (some c) { t with pass := t.pass.set c [] })
        (windowsLost c (withActivity last idle (lossNoted c s))) := by
  let v : State := setChannel c
    { channel s c with
      link := .lost, lastReport := none, comparable := false, reported := false
      lossCount := min 65535 ((channel s c).lossCount + 1) } s
  let k : ClosureLock :=
    { closureDown (closure s c) with sensed := .unknown, latch := .unknown, command := .idle, pulseSteps := 0 }
  have locks := (latchChanged_unknown c (closure v c).latch (setClosure c k v)).eq
  let last := (latchChanged c (closure v c).latch .unknown (setClosure c k v)).ctx.lastActivity
  let idle := (latchChanged c (closure v c).latch .unknown (setClosure c k v)).ctx.idleDeadline
  have lost : lockLost c v = withActivity last idle (setClosure c k v) := locks
  have noted : childrenLost c (dropRelease c (lockLost c v)) = withActivity last idle (lossNoted c s) := by
    rw [lost, dropRelease]
    by_cases tg : c = .tg
    · subst tg
      rfl
    · rw [if_neg (by simpa using tg)]
      simp only [lossNoted, tg, if_false]
      rfl
  refine ⟨last, idle, ?_⟩
  have grouped : followGroup (childrenLost c (dropRelease c (lockLost c v))) = withActivity last idle (lossNoted c s) := by
    rw [noted]
    exact followGroup_still noFlight noSlot
  have unfolded : declareLost c s =
      (fun t : State => raise .linkLost (some c) { t with pass := t.pass.set c [] })
        (windowsLost c (followGroup
          (match closureRear c with
            | some d => childLost d (dropRelease c (lockLost c v))
            | none => dropRelease c (lockLost c v)))) := rfl
  rw [unfolded, childLost_eq, grouped]

/-- What a loss in a resting lock group leaves. -/
structure LostOnce (c : Closure) (s u : State) : Prop where
  rest : lessMotion u = lessMotion { lossNoted c s with pass := s.pass.set c [] }
  windows : ∀ w, windowClosure w = c → (window u w).state = .fault
  count : (faultRecord u .linkLost).count = min 255 ((faultRecord s .linkLost).count + 1)
  last : (faultRecord u .linkLost).last = some c

theorem declareLost_lost (noFlight : s.group.inFlight = none) (noSlot : s.group.slot = none)
    (places : s.faults.length = 14) : LostOnce c s (declareLost c s) := by
  obtain ⟨last, idle, lost⟩ := declareLost_eq (c := c) noFlight noSlot
  rw [lost]
  generalize before : withActivity last idle (lossNoted c s) = v
  have kept : FaultsKept s (windowsLost c v) := by
    refine FaultsKept.trans ?_ windowsLost_faultsKept
    rw [← before]
    exact .of_faults rfl
  have emptied : FaultsKept s { windowsLost c v with pass := (windowsLost c v).pass.set c [] } :=
    kept.trans (.of_faults rfl)
  have pass : (windowsLost c v).pass = s.pass := by
    rw [same_of_motion (windowsLost_lessMotion (c := c) (s := v)) State.pass fun _ => rfl, ← before]
    rfl
  have motion : lessMotion { windowsLost c v with pass := (windowsLost c v).pass.set c [] } =
      lessMotion { lossNoted c s with pass := s.pass.set c [] } := by
    have rest := windowsLost_lessMotion (c := c) (s := v)
    rw [← before] at rest
    rw [pass, ← before]
    exact congrArg (fun t : State => { t with pass := s.pass.set c [] }) rest
  refine ⟨(lessMotion_of_traffic (raise_rest ..)).trans motion, fun w own => ?_, ?_, ?_⟩
  · have window_ := raiseWith_same (fun u => (window u w).state) (fun _ => rfl) none .linkLost (some c)
      { windowsLost c v with pass := (windowsLost c v).pass.set c [] }
    exact window_.trans (windowsLost_window own)
  · rw [← emptied.record .linkLost (by simp)]
    exact faultRecord_raiseWith (by simp) (emptied.length.trans places)
  · exact faultRecord_raiseWith_last (by simp) (emptied.length.trans places)

end

/-- A missing report of a node that is not LOST (R165). -/
theorem missedReport_counted {c : Closure} {s : State} (present : (channel s c).link ≠ .lost)
    (few : (channel s c).missing < 2) : missedReport c s =
      setChannel c { channel s c with
        missing := (channel s c).missing + 1, missingCount := min 65535 ((channel s c).missingCount + 1) } s := by
  have notLost : ((channel s c).link == .lost) = false := beq_false_of_ne present
  have count : min Config.lostAfter ((channel s c).missing + 1) = (channel s c).missing + 1 := by
    simp only [Config.lostAfter]
    omega
  unfold missedReport
  simp only [notLost, count, Bool.false_eq_true, if_false]
  exact if_neg (by simp only [Config.lostAfter]; omega)

theorem missedReport_third {c : Closure} {s : State} (present : (channel s c).link ≠ .lost)
    (third : (channel s c).missing = 2) : missedReport c s =
      declareLost c (setChannel c { channel s c with
        missing := 3, missingCount := min 65535 ((channel s c).missingCount + 1) } s) := by
  have notLost : ((channel s c).link == .lost) = false := beq_false_of_ne present
  unfold missedReport
  simp only [notLost, third, Bool.false_eq_true, if_false]
  exact if_pos (by decide)

theorem missedReport_lost {c : Closure} {s : State} (lost : (channel s c).link = .lost) : missedReport c s =
    setChannel c { channel s c with missingCount := min 65535 ((channel s c).missingCount + 1) } s := by
  unfold missedReport
  simp [lost]

/-- What is left of a node that `s` had until its third missing report (R67, R167, R173). -/
structure NodeGone (c : Closure) (s u : State) : Prop where
  channel : (channel u c).link = .lost ∧ (channel u c).missing = 3 ∧ (channel u c).lastReport = none ∧
    (channel u c).reported = false ∧ (channel u c).lossCount = min 65535 ((channel s c).lossCount + 1)
  lock : (closure u c).sensed = .unknown ∧ (closure u c).latch = .unknown ∧ (closure u c).target = (closure s c).target
  pass : u.pass.get c = []
  command : (closure u c).command = .idle
  release : c = .tg → u.release.prepared = false
  children : ∀ e, rearClosure e = c → (child u e).command = none ∧ (child u e).sensed = .unknown
  windows : ∀ w, windowClosure w = c → (window u w).state = .fault
  count : (faultRecord u .linkLost).count = min 255 ((faultRecord s .linkLost).count + 1)
  last : (faultRecord u .linkLost).last = some c

section
variable {c : Closure} {s u : State}

theorem closureDown_target (k : ClosureLock) : (closureDown k).target = k.target := by
  unfold closureDown standAt dropPulse
  (repeat' split) <;> rfl

theorem LostOnce.gone (lost : LostOnce c s u) (third : (channel s c).missing = 3) : NodeGone c s u := by
  have same {α : Type} (f : State → α) (hf : ∀ u, f (lessMotion u) = f u) :
      f u = f { lossNoted c s with pass := s.pass.set c [] } := same_of_motion lost.rest f hf
  have channel_ : channel u c = channel (lossNoted c s) c := same (fun u => channel u c) fun _ => rfl
  have closure_ : closure u c = closure (lossNoted c s) c := same (fun u => closure u c) fun _ => rfl
  have record : channel (lossNoted c s) c = _ := Five.get_set_same ..
  have lock : closure (lossNoted c s) c = _ := Five.get_set_same ..
  refine ⟨?_, ?_, ?_, ?_, fun tg => ?_, fun e own => ?_, lost.windows, lost.count, lost.last⟩
  · rw [channel_, record]
    exact ⟨rfl, third, rfl, rfl, rfl⟩
  · rw [closure_, lock]
    exact ⟨rfl, rfl, closureDown_target _⟩
  · exact (same (fun u => u.pass.get c) fun _ => rfl).trans (Five.get_set_same ..)
  · rw [closure_, lock]
  · rw [same (fun u => u.release.prepared) fun _ => rfl]
    exact congrArg TailgateRelease.prepared (if_pos tg)
  · rw [same (fun u => child u e) fun _ => rfl]
    have mapped : child (lossNoted c s) e = { childDown (child s e) with sensed := .unknown, command := none } :=
      (Two.get_mapWith ..).trans (if_pos own)
    exact mapped ▸ ⟨rfl, rfl⟩

/-- The drive that goes out with the loss carries nothing of the node's, and STOP (R67, R167). -/
theorem NodeGone.driven (gone : NodeGone c s u) (now : Nat) :
    NodeGone c s (driveSent now (Machine.channel u c) c u) ∧
      ∀ w, windowClosure w = c → (window (driveSent now (Machine.channel u c) c u) w).lastDrive = .stop := by
  have stops (w : WindowId) (own : windowClosure w = c) : (nextDrive c u).motor = .stop := by
    have motor : (nextDrive c u).motor = ((closureWindow c).map fun w => nextMotor (window u w)).getD .stop := rfl
    rw [motor, closureWindow_eq.mpr own]
    simp [nextMotor, gone.windows w own]
  have record : Machine.channel (driveSent now (Machine.channel u c) c u) c = _ := Five.get_set_same ..
  have lock : closure (driveSent now (Machine.channel u c) c u) c = _ := Five.get_set_same ..
  have window_ (w : WindowId) (own : windowClosure w = c) :
      window (driveSent now (Machine.channel u c) c u) w = drivenWindow now .stop (window u w) := by
    have mapped : window (driveSent now (Machine.channel u c) c u) w = drivenWindow now (nextDrive c u).motor (window u w) :=
      (Four.get_mapWith ..).trans (if_pos own)
    rw [mapped, stops w own]
  refine ⟨⟨?_, ?_, ?_, ?_, fun tg => ?_, fun e own => ?_, fun w own => ?_, gone.count, gone.last⟩, fun w own => ?_⟩
  · rw [record]
    exact gone.channel
  · rw [lock]
    exact gone.lock
  · have emptied : (driveSent now (Machine.channel u c) c u).pass.get c = (u.pass.get c).tail := Five.get_set_same ..
    rw [emptied, gone.pass]
    rfl
  · rw [lock]
  · have unsent : (nextDrive c u).release = false := by
      have carried : (nextDrive c u).release = (c == .tg && u.release.prepared) := rfl
      rw [carried, gone.release tg, Bool.and_false]
    have kept : (driveSent now (Machine.channel u c) c u).release = u.release :=
      if_neg (ne_true_of_eq_false unsent)
    rw [kept, gone.release tg]
  · have mapped : child (driveSent now (Machine.channel u c) c u) e = { child u e with command := none } :=
      (Two.get_mapWith ..).trans (if_pos own)
    rw [mapped]
    exact ⟨rfl, (gone.children e own).2⟩
  · rw [window_ w own]
    exact gone.windows w own
  · rw [window_ w own]
    rfl

end

/-- Settles O52. -/
theorem cycleEndSendsTheNextDrive : Obligations.CycleEndSendsTheNextDrive := by
  intro s dt d c steady due
  let v : State := reach d (elapse dt s)
  have calm : Calm v := steady.toCalm.of_same rfl rfl rfl rfl rfl
  have run : v.stage = .run := steady.run
  have awake : v.ctx.state = .awake := steady.awake steady.run
  have notDeep : v.ctx.state ≠ .deep := by simp [awake]
  have next := exec_cycleEnd (dt := dt) steady.supplied due
  have fast (mode : s.cfg.modes.get c ≠ .forcedOff) : (channel v c).rate = .fast := by
    rw [calm.rates run c]
    exact chosenRate_awake run awake mode
  refine ⟨fun mode => ?_, fun missed present third noFlight noSlot noOp places => ?_⟩
  · intro now ch sent
    have sends {ch' : Channel} (rate : ch'.rate = .fast)
        (counted : (if (channel v c).answered then v else pollCheck (missedReport c v)) = setChannel c ch' v) :
        Answers (.linkCycleEnd dt c) s (sent ch') := by
      have drives : cycleEnds c v = driveSent now ch' c v := by
        have own : channel (setChannel c ch' v) c = ch' := channel_setChannel ..
        unfold cycleEnds
        dsimp only
        rw [counted, if_neg (by simp [channelOff, own, rate]),
          sendDrive_eq (s := setChannel c ch' v) run notDeep (by rw [own, rate]), own, driveSent_setChannel]
        rfl
      have same : sent ch' = driveSent now ch' c v := rfl
      rw [same, ← drives]
      refine ⟨_, next, finish_calm_agrees _ ?_⟩
      rw [drives]
      exact calm.driveSent (rate.trans (fast mode).symm)
    have polls (t : State) (run : t.stage = .run) : pollCheck t = t := pollCheck_run run
    refine ⟨fun answered => sends (fast mode) ?_, fun missed present few => sends (by exact fast mode) ?_,
      fun missed lost => sends (by exact fast mode) ?_⟩
    · refine (if_pos answered).trans ?_
      exact congrArg (fun channels => ({ v with channels := channels } : State)) (Five.set_get ..).symm
    · refine (if_neg (ne_true_of_eq_false missed)).trans ?_
      rw [missedReport_counted (s := v) present few]
      exact polls (setChannel c _ v) run
    · refine (if_neg (ne_true_of_eq_false missed)).trans ?_
      rw [missedReport_lost (s := v) lost]
      exact polls (setChannel c _ v) run
  · let w : State := setChannel c { channel v c with
      missing := 3, missingCount := min 65535 ((channel v c).missingCount + 1) } v
    have own : channel w c = { channel v c with
      missing := 3, missingCount := min 65535 ((channel v c).missingCount + 1) } := channel_setChannel ..
    have lost : LostOnce c w (declareLost c w) := declareLost_lost (s := w) noFlight noSlot places
    have gone : NodeGone c w (declareLost c w) := lost.gone (congrArg Channel.missing own)
    generalize declared : declareLost c w = y at lost gone
    have same {α : Type} (f : State → α) (hf : ∀ u, f (lessMotion u) = f u) :
        f y = f { lossNoted c w with pass := w.pass.set c [] } := same_of_motion lost.rest f hf
    have rates (e : Closure) : (channel y e).rate = (channel v e).rate := by
      have noted : channel y e = channel (lossNoted c w) e := same (fun u => channel u e) fun _ => rfl
      rw [noted]
      simp only [lossNoted, channel, channel_set]
      split
      · next here =>
        subst here
        have rate : (channel w e).rate = (channel v e).rate := by rw [own]
        exact rate
      · next other => exact congrArg Channel.rate (channel_setChannel_other other _ v)
    have stage : y.stage = .run := (same State.stage fun _ => rfl).trans run
    have calm' : Calm y := calm.of_rates (same State.stage fun _ => rfl) (same (fun u => u.ctx.state) fun _ => rfl)
      (same (fun u => u.ctx.ignition) fun _ => rfl) (same (fun u => u.cfg.modes) fun _ => rfl) rates
    have ends : cycleEnds c v = if channelOff y c then y else sendDrive c y := by
      have counted : (if (channel v c).answered then v else pollCheck (missedReport c v)) = y := by
        refine (if_neg (ne_true_of_eq_false missed)).trans ?_
        rw [missedReport_third (s := v) present third, declared, pollCheck_run stage]
      unfold cycleEnds
      dsimp only
      rw [counted]
    have before : (channel w c).lossCount = (channel s c).lossCount := by rw [own]; rfl
    have done {u : State} (effect : cycleEnds c v = u) (calm : Calm u) (gone : NodeGone c w u)
        (stops : s.cfg.modes.get c ≠ .forcedOff → ∀ w, windowClosure w = c → (window u w).lastDrive = .stop) :
        ∃ u', exec (.linkCycleEnd dt c) s = .next u' ∧ (channel u' c).link = .lost ∧ (channel u' c).missing = 3 ∧
          (channel u' c).lastReport = none ∧ (channel u' c).reported = false ∧
          (channel u' c).lossCount = min 65535 ((channel s c).lossCount + 1) ∧ (closure u' c).sensed = .unknown ∧
          (closure u' c).latch = .unknown ∧ (closure u' c).target = (closure s c).target ∧ u'.pass.get c = [] ∧
          (closure u' c).command = .idle ∧ (c = .tg → u'.release.prepared = false) ∧
          (∀ e, rearClosure e = c → (child u' e).command = none ∧ (child u' e).sensed = .unknown) ∧
          (∀ w, windowClosure w = c →
            (window u' w).state = .fault ∧ (s.cfg.modes.get c ≠ .forcedOff → (window u' w).lastDrive = .stop)) ∧
          (faultRecord u' .linkLost).count = min 255 ((faultRecord s .linkLost).count + 1) ∧
          (faultRecord u' .linkLost).last = some c := by
      rw [effect] at next
      obtain ⟨last, idle, agrees⟩ : ∃ last idle, finish (elapse dt s) u = withActivity last idle u :=
        ⟨_, _, (finish_calm_agrees _ calm).eq⟩
      rw [agrees] at next
      obtain ⟨link, missing, report, reported, losses⟩ := gone.channel
      obtain ⟨sensed, latch, target⟩ := gone.lock
      exact ⟨_, next, link, missing, report, reported, before ▸ losses, sensed, latch, target, gone.pass, gone.command,
        gone.release, gone.children, fun w own => ⟨gone.windows w own, fun mode => stops mode w own⟩, gone.count, gone.last⟩
    by_cases mode : s.cfg.modes.get c = .forcedOff
    · have off : channelOff y c = true := by
        have rate : (channel v c).rate = .off := by
          have there : v.cfg.modes.get c = .forcedOff := mode
          rw [calm.rates run c]
          simp [chosenRate, run, there]
        simp [channelOff, rates, rate]
      exact done (ends.trans (if_pos off)) calm' gone fun other => absurd mode other
    · have on : channelOff y c = false := by simp [channelOff, rates, fast mode]
      have drives : cycleEnds c v = driveSent y.now (channel y c) c y := by
        rw [ends, on]
        exact sendDrive_eq stage (by rw [same (fun u => u.ctx.state) fun _ => rfl]; exact notDeep)
          ((rates c).trans (fast mode))
      obtain ⟨driven, stops⟩ := gone.driven y.now
      exact done drives (calm'.driveSent rfl) driven fun _ => stops

end Sys2Proof.Machine
end

section
/-!
PROOFS. What the action of a rule leaves alone in an awake part that has just noted activity: the operating state, the
activity, the channels, the latches and the settings of the car (R145 to R154, R158, R187, R193).
-/

namespace Sys2Proof.Machine

/-- The records that a rule's action leaves alone in an awake part. -/
structure LiveView where
  stage : Stage
  now : Nat
  modes : Five PowerMode
  car : CarSettings
  channels : Five Channel
  latches : Closure → Latch
  ignition : Ignition
  state : OpState
  lastActivity : Nat
  idleDeadline : Nat
  deepDeadline : Option Nat
  lastWake : Option WakeCause
  wakeCount : Nat

/-- An awake part in RUN whose last activity is the present time. -/
structure LiveView.Fresh (v : LiveView) : Prop where
  run : v.stage = .run
  awake : v.state = .awake
  activity : v.lastActivity = v.now
  idle : v.idleDeadline =
    v.lastActivity + if allClosures.any fun c => v.latches c == .ajar then Config.ajarDelay else v.car.parkDelay * 1000

/-- The view of the fields it reads, and that it is fresh. -/
structure LivelyOf (v : LiveView) (stage : Stage) (now : Nat) (modes : Five PowerMode) (car : CarSettings)
    (channels : Five Channel) (closures : Five ClosureLock) (ignition : Ignition) (state : OpState) (last idle : Nat)
    (deep : Option Nat) (wake : Option WakeCause) (wakes : Nat) : Prop where
  view : (⟨stage, now, modes, car, channels, fun c => (closures.get c).latch, ignition, state, last, idle, deep, wake,
    wakes⟩ : LiveView) = v
  fresh : v.Fresh

/-- The part has the view `v`, and is awake and fresh. -/
structure Lively (v : LiveView) (s : State) : Prop where
  view : (⟨s.stage, s.now, s.cfg.modes, s.cfg.car, s.channels, fun c => (s.closures.get c).latch, s.ctx.ignition,
    s.ctx.state, s.ctx.lastActivity, s.ctx.idleDeadline, s.ctx.deepDeadline, s.ctx.lastWake, s.ctx.wakeCount⟩ :
      LiveView) = v
  fresh : v.Fresh

section
variable {v : LiveView} {s : State}

@[simp] theorem lively_fold :
    LivelyOf v s.stage s.now s.cfg.modes s.cfg.car s.channels s.closures s.ctx.ignition s.ctx.state s.ctx.lastActivity
      s.ctx.idleDeadline s.ctx.deepDeadline s.ctx.lastWake s.ctx.wakeCount ↔ Lively v s :=
  ⟨fun h => ⟨h.view, h.fresh⟩, fun h => ⟨h.view, h.fresh⟩⟩

@[simp] theorem lively_mk
    {pending now draws pins strapPins stage listenEnd cfg closures children group release timed windows motion
    fobRun key search op counts trap pass tx port nextStatus channels ctx lines mgmt faults store} :
    Lively v
      ⟨pending, now, draws, pins, strapPins, stage, listenEnd, cfg, closures, children, group, release, timed,
       windows, motion, fobRun, key, search, op, counts, trap, pass, tx, port, nextStatus, channels, ctx, lines,
       mgmt, faults, store⟩ ↔
      LivelyOf v stage now cfg.modes cfg.car channels closures ctx.ignition ctx.state ctx.lastActivity ctx.idleDeadline
        ctx.deepDeadline ctx.lastWake ctx.wakeCount :=
  lively_fold.symm

namespace Lively

theorem run (h : Lively v s) : s.stage = .run := (congrArg LiveView.stage h.view).trans h.fresh.run

theorem awake (h : Lively v s) : s.ctx.state = .awake := (congrArg LiveView.state h.view).trans h.fresh.awake

theorem latch (h : Lively v s) (c : Closure) : (closure s c).latch = v.latches c :=
  congrFun (congrArg LiveView.latches h.view) c

theorem now (h : Lively v s) : s.now = v.now := congrArg LiveView.now h.view

theorem lastActivity (h : Lively v s) : s.ctx.lastActivity = s.now := by
  rw [h.now]
  exact (congrArg LiveView.lastActivity h.view).trans h.fresh.activity

theorem idleDeadline (h : Lively v s) : s.ctx.idleDeadline = idleDeadlineOf s := by
  have last : s.ctx.lastActivity = v.lastActivity := congrArg LiveView.lastActivity h.view
  have car : s.cfg.car = v.car := congrArg LiveView.car h.view
  have idle : s.ctx.idleDeadline = v.idleDeadline := congrArg LiveView.idleDeadline h.view
  rw [idle, h.fresh.idle, idleDeadlineOf, last, car]
  simp only [anyAjar, h.latch]

/-- An awake part that has just noted activity has its own view. -/
theorem of_fresh (run : s.stage = .run) (awake : s.ctx.state = .awake) (fresh : Machine.Fresh s) :
    ∃ v, Lively v s := ⟨_, rfl, ⟨run, awake, fresh.1, fresh.2⟩⟩

end Lively

theorem ite_lively {c : Prop} [Decidable c] {t u : State} (ht : Lively v t) (hu : Lively v u) :
    Lively v (if c then t else u) := by
  split <;> assumption

theorem foldl_lively {α : Type} {f : State → α → State} {l : List α} (h : Lively v s)
    (step : ∀ u a, Lively v u → Lively v (f u a)) : Lively v (l.foldl f s) := by
  induction l generalizing s with
  | nil => exact h
  | cons a l ih => exact ih (step s a h)

/-! ## The traffic and the activity -/

theorem lively_of_traffic {t : State} (h : Lively v s) (rest : lessTraffic t = lessTraffic s) : Lively v t := by
  refine ⟨?_, h.fresh⟩
  rw [← h.view]
  exact same_of_rest rest (fun u => (⟨u.stage, u.now, u.cfg.modes, u.cfg.car, u.channels,
    fun c => (u.closures.get c).latch, u.ctx.ignition, u.ctx.state, u.ctx.lastActivity, u.ctx.idleDeadline,
    u.ctx.deepDeadline, u.ctx.lastWake, u.ctx.wakeCount⟩ : LiveView)) fun _ => rfl

@[simp] theorem raise_lively (cls : FaultClass) (who : Option Closure) (h : Lively v s) : Lively v (raise cls who s) :=
  lively_of_traffic h (raise_rest ..)

@[simp] theorem offerNotice_lively (data : List Byte) (h : Lively v s) : Lively v (offerNotice data s) :=
  lively_of_traffic h (offerNotice_rest ..)

@[simp] theorem offerPagesNow_lively (h : Lively v s) : Lively v (offerPagesNow s) :=
  lively_of_traffic h (offerPagesNow_rest s)

/-- Activity noted once more at the same time changes nothing. -/
theorem activity_again (h : Lively v s) : activity s = s := by
  have last : ({ s with ctx := { s.ctx with lastActivity := s.now } } : State) = s :=
    congrArg (fun n => ({ s with ctx := { s.ctx with lastActivity := n } } : State)) h.lastActivity.symm
  rw [activity_run h.run, last, recomputeIdle, ← h.idleDeadline]

@[simp] theorem activity_lively (h : Lively v s) : Lively v (activity s) := by
  rw [activity_again h]
  exact h

@[simp] theorem wake_lively (cause : WakeCause) (h : Lively v s) : Lively v (wake cause s) := by
  rw [wake_awake cause h.awake]
  exact h

/-- What every request does first. -/
@[simp] theorem wake_activity_lively (cause : WakeCause) (h : Lively v s) : Lively v (wake cause (activity s)) :=
  wake_lively cause (activity_lively h)

/-! ## The windows and the engine -/

@[simp] theorem setWindow_lively (w : WindowId) (x : Window) (h : Lively v s) : Lively v (setWindow w x s) := by
  simp [h, setWindow]

@[simp] theorem endMotionRecord_lively (w : WindowId) (outcome : MotionOutcome) (h : Lively v s) :
    Lively v (endMotionRecord w outcome s) := by
  unfold endMotionRecord endWaiting endRunning
  (repeat' split) <;> simp [h]

@[simp] theorem endOperation_lively (op : ActiveOp) (h : Lively v s) : Lively v (endOperation op s) := by
  simp [h, endOperation]

@[simp] theorem keepOrEnd_lively (op : ActiveOp) (h : Lively v s) : Lively v (keepOrEnd op s) := by
  unfold keepOrEnd
  split <;> simp [h]

@[simp] theorem stopForEngine_lively (w : WindowId) (h : Lively v s) : Lively v (stopForEngine w s) := by
  unfold stopForEngine
  dsimp only
  split <;> simp [h]

@[simp] theorem abort_lively (cause : AbortCause) (h : Lively v s) : Lively v (abort cause s) := by
  unfold abort
  split
  · exact h
  · exact endOperation_lively _ (foldl_lively h fun _ _ hu => stopForEngine_lively _ hu)

@[simp] theorem crashTest_lively (h : Lively v s) : Lively v (crashTest s) := by
  unfold crashTest
  split <;> simp [h]

@[simp] theorem handStatus_lively (w : WindowId) (status : StepStatus) (h : Lively v s) :
    Lively v (handStatus w status s) := by
  have tested := crashTest_lively h
  unfold handStatus
  dsimp only
  generalize crashTest s = t at tested ⊢
  (repeat' split) <;> simp [tested]

@[simp] theorem handOutcome_lively (origin : Option Origin) (w : WindowId) (outcome : MotionOutcome) (h : Lively v s) :
    Lively v (handOutcome origin w outcome s) := by
  unfold handOutcome
  (repeat' split) <;> simp [h]

@[simp] theorem endMotion_lively (w : WindowId) (outcome : MotionOutcome) (h : Lively v s) :
    Lively v (endMotion w outcome s) := by
  unfold endMotion
  dsimp only
  split <;> simp [h]

@[simp] theorem refuseWindow_lively (w : WindowId) (origin : Option Origin) (cause : WindowRefusal) (h : Lively v s) :
    Lively v (refuseWindow w origin cause s) := by
  unfold refuseWindow
  dsimp only
  split <;> simp [h]

@[simp] theorem completeAtOnce_lively (r : WindowRequest) (h : Lively v s) : Lively v (completeAtOnce r s) := by
  unfold completeAtOnce
  exact handOutcome_lively _ _ _ (setWindow_lively _ _ (endMotion_lively _ _ h))

theorem setWindow_motion_lively (w : WindowId) (x : Window) (m : Motion) (h : Lively v s) :
    Lively v { setWindow w x s with motion := m } := by
  simp [h, setWindow]

@[simp] theorem placeRequest_lively (r : WindowRequest) (dir : Direction) (h : Lively v s) :
    Lively v (placeRequest r dir s) := by
  unfold placeRequest
  dsimp only
  split
  · exact handOutcome_lively _ _ _ (setWindow_motion_lively _ _ _ h)
  · split
    · simp [h]
    · exact setWindow_motion_lively _ _ _ h

@[simp] theorem acceptRequest_lively (r : WindowRequest) (h : Lively v s) : Lively v (acceptRequest r s) := by
  unfold acceptRequest
  dsimp only
  split <;> simp [h]

@[simp] theorem checkRequest_lively (r : WindowRequest) (h : Lively v s) : Lively v (checkRequest r s) := by
  unfold checkRequest
  dsimp only
  (repeat' split) <;> simp [h]

@[simp] theorem requestMotion_lively (r : WindowRequest) (h : Lively v s) : Lively v (requestMotion r s) := by
  unfold requestMotion
  split <;> simp [h]

@[simp] theorem stopWindow_lively (w : WindowId) (h : Lively v s) : Lively v (stopWindow w s) := by
  unfold stopWindow
  dsimp only
  (repeat' split) <;> simp [h]

@[simp] theorem crashStop_lively (h : Lively v s) : Lively v (crashStop s) :=
  foldl_lively h fun _ _ hu => by dsimp only; split <;> simp [hu]

@[simp] theorem markIssued_lively (w : WindowId) (h : Lively v s) : Lively v (markIssued w s) := by
  unfold markIssued
  split <;> simp [h]

@[simp] theorem issueStep_lively (source : OpSource) (step : StepSpec) (h : Lively v s) :
    Lively v (issueStep source step s) := by
  unfold issueStep
  dsimp only
  split <;> simp [h]

@[simp] theorem takeStart_lively (i : Nat) (d : Descriptor) (source : OpSource) (h : Lively v s) :
    Lively v (takeStart i d source s) := by
  unfold takeStart
  exact foldl_lively (by simp [h]) fun _ _ hu => issueStep_lively _ _ hu

@[simp] theorem startOperation_lively (i : Nat) (source : OpSource) (h : Lively v s) :
    Lively v (startOperation i source s) := by
  have tested : Lively v (crashTest (activity s)) := by simp [h]
  unfold startOperation
  dsimp only
  generalize crashTest (activity s) = t at tested ⊢
  (repeat' split) <;> simp [h, tested]

@[simp] theorem renewLease_lively (fob i : Nat) (h : Lively v s) : Lively v (renewLease fob i s) := by
  have tested := crashTest_lively h
  unfold renewLease
  dsimp only
  generalize crashTest s = t at tested ⊢
  (repeat' split) <;> simp [tested]

@[simp] theorem cancelOperation_lively (h : Lively v s) : Lively v (cancelOperation s) := by
  unfold cancelOperation
  exact ite_lively (abort_lively _ (crashTest_lively (activity_lively h))) h

/-! ## The lock group -/

/-- A closure's record written with its own latch. -/
theorem setClosure_lively {c : Closure} {k : ClosureLock} (same : k.latch = (closure s c).latch) (h : Lively v s) :
    Lively v (setClosure c k s) := by
  have latches : (fun d => ((s.closures.set c k).get d).latch) = fun d => (s.closures.get d).latch := by
    funext d
    by_cases here : d = c
    · subst here
      rw [Five.get_set_same]
      exact same
    · rw [Five.get_set_other here]
  refine ⟨?_, h.fresh⟩
  rw [← h.view, ← latches]
  rfl

theorem dropPulse_latch (k : ClosureLock) : (dropPulse k).latch = k.latch := by
  unfold dropPulse
  split <;> rfl

theorem standAt_latch (phase : LockPhase) (k : ClosureLock) : (standAt phase k).latch = k.latch := dropPulse_latch k

theorem aimed_latch (target : LockTarget) (source : LockSource) (k : ClosureLock) :
    (aimed target source k).latch = k.latch := rfl

@[simp] theorem actuateClosure_lively (kind : LockKind) (source : LockSource) (c : Closure) (h : Lively v s) :
    Lively v (actuateClosure kind source c s) := by
  unfold actuateClosure
  dsimp only
  refine setClosure_lively ?_ h
  split
  · exact standAt_latch ..
  · split
    · exact standAt_latch ..
    · rfl

@[simp] theorem crashClosure_lively (c : Closure) (h : Lively v s) : Lively v (crashClosure c s) := by
  unfold crashClosure
  dsimp only
  refine setClosure_lively ?_ h
  split
  · exact standAt_latch ..
  · rfl

@[simp] theorem setTimed_lively (pattern : Pattern) (time : Nat) (h : Lively v s) : Lively v (setTimed pattern time s) := by
  simp [h, setTimed]

@[simp] theorem dropSteady_lively (h : Lively v s) : Lively v (dropSteady s) := by
  unfold dropSteady
  (repeat' split) <;> simp [h]

@[simp] theorem refuseLock_lively (cause : LockRefusal) (h : Lively v s) : Lively v (refuseLock cause s) := by
  unfold refuseLock
  split <;> simp [h]

@[simp] theorem actuate_lively (r : LockRequest) (h : Lively v s) : Lively v (actuate r s) := by
  unfold actuate
  refine foldl_lively ?_ fun _ _ hu => actuateClosure_lively _ _ _ hu
  split <;> simp [h]

@[simp] theorem takeRequest_lively (r : LockRequest) (h : Lively v s) : Lively v (takeRequest r s) := by
  unfold takeRequest
  split <;> simp [h]

@[simp] theorem checkRelease_lively (h : Lively v s) : Lively v (checkRelease s) := by
  unfold checkRelease
  dsimp only
  (repeat' split) <;> simp [h]

@[simp] theorem releaseTailgate_lively (h : Lively v s) : Lively v (releaseTailgate s) := by
  unfold releaseTailgate
  split <;> simp [h]

@[simp] theorem startRelock_lively (f : InFlight) (h : Lively v s) : Lively v (startRelock f s) := by
  unfold startRelock
  dsimp only
  split <;> simp [h]

@[simp] theorem completeItems_lively (f : InFlight) (h : Lively v s) : Lively v (completeItems f s) := by
  unfold completeItems
  dsimp only
  (repeat' split) <;> simp [h]

@[simp] theorem takePending_lively (h : Lively v s) : Lively v (takePending s) := by
  unfold takePending
  (repeat' split) <;> simp [h]

@[simp] theorem completeOne_lively (h : Lively v s) : Lively v ((completeOne s).1) := by
  unfold completeOne
  (repeat' split) <;> simp [h]

@[simp] theorem followGroup_lively (h : Lively v s) : Lively v (followGroup s) := by
  have taken : Lively v (completeOne (takePending (completeOne s).1)).1 :=
    completeOne_lively (takePending_lively (completeOne_lively h))
  unfold followGroup
  dsimp only
  (repeat' split) <;> simp [taken]

@[simp] theorem takeCrash_lively (h : Lively v s) : Lively v (takeCrash s) := by
  unfold takeCrash
  refine followGroup_lively (crashStop_lively (abort_lively _ ?_))
  exact foldl_lively (dropSteady_lively (by simp [h])) fun _ _ hu => crashClosure_lively _ hu

@[simp] theorem placeLock_lively (r : LockRequest) (h : Lively v s) : Lively v (placeLock r s) := by
  unfold placeLock mergeOrWait
  dsimp only
  (repeat' split) <;> simp [h]

@[simp] theorem arriveLock_lively (r : LockRequest) (h : Lively v s) : Lively v (arriveLock r s) := by
  unfold arriveLock
  dsimp only
  (repeat' split) <;> simp [h]

/-! ## The keys -/

@[simp] theorem noteTelegram_lively (t : Telegram) (i : Option Nat) (result : TelegramResult) (h : Lively v s) :
    Lively v (noteTelegram t i result s) := by simp [h, noteTelegram]

@[simp] theorem pressButton_lively (i : Nat) (button : Button) (h : Lively v s) : Lively v (pressButton i button s) := by
  have locked (kind : LockKind) (release : Bool) : Lively v (fobLock kind release s) := arriveLock_lively _ h
  unfold pressButton lockPress unlockPress
  dsimp only
  (repeat' split) <;> simp [locked]

@[simp] theorem acceptPress_lively (i : Nat) (t : Telegram) (h : Lively v s) : Lively v (acceptPress i t s) := by
  unfold acceptPress setHold setFobRun setFob
  exact pressButton_lively _ _ (wake_activity_lively _ (by simp [h]))

@[simp] theorem firstPress_lively (i : Nat) (t : Telegram) (h : Lively v s) : Lively v (firstPress i t s) := by
  have noted (result : TelegramResult) : Lively v (noteTelegram t (some i) result s) := noteTelegram_lively _ _ _ h
  unfold firstPress setHold setFobRun
  dsimp only
  split <;> simp [noted]

@[simp] theorem repeatTelegram_lively (i : Nat) (t : Telegram) (h : Lively v s) : Lively v (repeatTelegram i t s) := by
  have counted (hold : Hold) : Lively v (countRepeat i t hold s) := by
    have noted := noteTelegram_lively t (some i) .repeatCounted h
    unfold countRepeat setHold setFobRun
    dsimp only
    (repeat' split) <;> simp [noted]
  unfold repeatTelegram
  (repeat' split) <;> simp [h, counted]

@[simp] theorem takeTelegram_lively (t : Telegram) (h : Lively v s) : Lively v (takeTelegram t s) := by
  unfold takeTelegram
  (repeat' split) <;> simp [h]

@[simp] theorem closeSlot_lively (n : Nat) (x : SearchSlot) (outcome : SearchOutcome) (who : Option Nat)
    (h : Lively v s) : Lively v (closeSlot n x outcome who s) := by
  unfold closeSlot setSlot
  split <;> simp [h]

@[simp] theorem takeResponse_lively (r : SearchResponse) (h : Lively v s) : Lively v (takeResponse r s) := by
  have refused : Lively v (refuseKeyInside s) := setTimed_lively _ _ (refuseLock_lively _ h)
  unfold takeResponse searchOutcome
  (repeat' split) <;> simp [h, refused]

/-! ## The actions of a rule -/

@[simp] theorem passFrame_lively (mask : Nat) (f : PassFrame) (h : Lively v s) : Lively v (passFrame mask f s) := by
  have copied (c : Closure) {u : State} (hu : Lively v u) : Lively v (passTo f c u) := by
    unfold passTo
    (repeat' split) <;> simp [hu]
  unfold passFrame
  split
  · exact foldl_lively h fun _ c hu => copied c hu
  · exact h

@[simp] theorem trapFrame_lively (i : Nat) (id : CanId) (data : List Byte) (h : Lively v s) :
    Lively v (trapFrame i id data s) := by
  unfold trapFrame
  (repeat' split) <;> simp [h]

@[simp] theorem writeSpeed_lively (value : Nat) (h : Lively v s) : Lively v (writeSpeed value s) := by
  have told : Lively v { s with ctx := { s.ctx with
      speed := min 255 value, speedFresh := some (s.now + Config.freshTime) } } := by simp [h]
  unfold writeSpeed speedUpdate
  dsimp only
  (repeat' split) <;> simp [told, h]

@[simp] theorem ruleRequest_lively (r : Rule) (data : List Byte) (h : Lively v s) : Lively v (ruleRequest r data s) := by
  unfold ruleRequest
  dsimp only
  split
  · exact arriveLock_lively _ h
  · split
    · exact releaseTailgate_lively h
    · exact foldl_lively h fun _ _ hu => requestMotion_lively _ hu
    · exact foldl_lively h fun _ _ hu => stopWindow_lively _ hu
    · exact startOperation_lively _ _ h
    · exact cancelOperation_lively h
    · exact h

theorem performAction_lively (i : Nat) (r : Rule) (id : CanId) (data : List Byte) (h : Lively v s) :
    Lively v (performAction i r id data s) := by
  unfold performAction writeVoltage
  (repeat' split) <;> simp [h]

end

end Sys2Proof.Machine
end

section
/-!
PROOFS. A body frame is decided by the first entry that matches it (R143, R145, R146): the decision, the flags of the
entry (R147, R187, R192), and what a command whose effect notes activity answers.
-/

namespace Sys2Proof.Machine

/-! ## The decision (R145) -/

theorem ruleMatches_iff (r : Rule) (id : CanId) (data : List Byte) : ruleMatches r id data = true ↔
    r.valid = true ∧ id &&& r.mask = r.base &&& r.mask ∧ r.minLength ≤ data.length := by
  simp [ruleMatches, and_assoc]

/-- The entry `i` is the first that matches a frame. -/
structure Decides (i : Nat) (r : Rule) (id : CanId) (data : List Byte) (s : State) : Prop where
  entry : s.cfg.rules[i]? = some r
  matched : ruleMatches r id data = true
  first : ∀ j q, j < i → s.cfg.rules[j]? = some q → ruleMatches q id data = false

/-- The state with an entry's hit counted, whose count was `h`. -/
def hitCounted (i h : Nat) (s : State) : State :=
  { s with counts := { s.counts with hits := s.counts.hits.set i (min 65535 (h + 1)) } }

theorem countHit_eq {i h : Nat} {s : State} (hits : s.counts.hits.getD i 0 = h) : countHit i s = hitCounted i h s := by
  rw [countHit, hits, hitCounted]

section
variable {dt i : Nat} {r : Rule} {id : CanId} {data : List Byte} {s : State}

theorem matchFrame_decided (decides : Decides i r id data s) :
    matchFrame 0 id data s = performAction i r id data (handFlags r (countHit i s)) := by
  have found : firstMatch s.cfg.rules 0 id data = some i :=
    firstMatch_some (Nat.zero_le i) decides.entry decides.matched fun j q _ near => decides.first j q near
  rw [matchFrame, found, ← rule_of_getElem decides.entry]

theorem receiveFrame_matches (run : s.stage = .run) (other : id ≠ s.mgmt.base) (short : data.length ≤ 8) :
    receiveFrame id data s = matchFrame 0 id data s := by
  simp [receiveFrame, following_run run, short, other]

/-- The next state of a body frame in RUN. -/
theorem exec_bodyFrame (run : s.stage = .run) (other : id ≠ s.mgmt.base) (short : data.length ≤ 8) :
    exec (.bodyFrameReceived dt id data) s = .next (finish (elapse dt s) (matchFrame 0 id data (elapse dt s))) := by
  have supplied : s.stage ≠ .off := by simp [run]
  refine (perform_supplied dt (receiveFrame id data) supplied).trans ?_
  rw [receiveFrame_matches (s := elapse dt s) run other short]

/-! ## The flags of the deciding entry (R147) -/

theorem handFlags_awake (awake : s.ctx.state = .awake) :
    handFlags r s = if r.keepAwake then activity s else s := by
  have noWake : (if r.wake then wake .frame s else s) = s := by rw [wake_awake .frame awake, ite_self]
  unfold handFlags
  dsimp only
  rw [noWake]

theorem handFlags_sleeping (noWake : r.wake = false) :
    handFlags r s = if r.keepAwake then activity s else s := by
  simp [handFlags, noWake]

/-- The activity that a lively view stands for. -/
theorem Lively.noted {v : LiveView} (h : Lively v s) : Fresh s := ⟨h.lastActivity, h.idleDeadline⟩

/-- A lively view carries all that calm depends on. -/
theorem Lively.calm {v : LiveView} {t : State} (hs : Lively v s) (ht : Lively v t) (calm : Calm t) : Calm s := by
  have same {α : Type} (f : LiveView → α) := congrArg f (hs.view.trans ht.view.symm)
  exact calm.of_same (same LiveView.stage) (same LiveView.state) (same LiveView.ignition) (same LiveView.channels)
    (same LiveView.modes)

theorem lively_activity (run : s.stage = .run) (awake : s.ctx.state = .awake) : ∃ v, Lively v (activity s) := by
  obtain ⟨last, idle, active⟩ := activity_eq s
  have fresh := activity_fresh run
  rw [active] at fresh ⊢
  exact Lively.of_fresh (s := withActivity last idle s) run awake fresh

/-- A part that keeps its state and its rates, with the ignition RUN. -/
theorem finish_lively {b : State} {v : LiveView} (h : Lively v s) (calm : Calm s) : finish b s = s := by
  have alert : Alert s := Steady.alert ⟨calm, h.run⟩
  exact finish_active alert h.lastActivity h.idleDeadline

/-- What the close of a step asks of the state before it. -/
theorem finish_before {b d : State} (hold : awakeHold b = awakeHold d) (state : b.ctx.state = d.ctx.state)
    (pages : statusPages b = statusPages d) : finish b s = finish d s := by
  unfold finish closeHold closePages
  rw [hold, state, pages]

/-- Activity moves no record that PARKED or DEEP reads (R189, R191). -/
theorem finish_asleep {t : State} {last idle : Nat} (settled : Settled dt s)
    (asleep : s.ctx.state = .parked ∨ s.ctx.state = .deep) (stage : t.stage = s.stage)
    (ctx : t.ctx = (withActivity last idle s).ctx) (now : t.now = s.now + dt) (hold : awakeHold t = awakeHold s)
    (pages : statusPages t = statusPages s) (rates : ∀ c, (channel t c).rate = chosenRate t c) :
    finish (elapse dt s) t = t := by
  have notAwake : s.ctx.state ≠ .awake := by rcases asleep with h | h <;> simp [h]
  have still : Settled dt (withActivity last idle s) :=
    ⟨settled.run, fun awake => absurd awake notAwake, settled.parked, settled.rates⟩
  have agrees : AgreeButActivity (elapse dt (withActivity last idle s)) (elapse dt s) := rfl
  rw [finish_before (agrees.same awakeHold fun _ => rfl).symm rfl (agrees.same statusPages fun _ => rfl).symm]
  exact finish_settled still stage ctx now hold pages rates

/-- What an awake part with a lively view is after the close of a step. -/
theorem finish_lively_view {b : State} {v : LiveView} (h : Lively v s)
    (delay : v.ignition = .off → 0 < v.car.parkDelay) :
    ∃ u, finish b s = u ∧ u.ctx = s.ctx ∧ u.now = s.now ∧
      (∀ c, (v.channels.get c).reported = false → (channel u c).reported = false) ∧
      ∀ c, v.modes.get c ≠ .forcedOff → (channel u c).rate = .fast := by
  have ignition : s.ctx.ignition = v.ignition := congrArg LiveView.ignition h.view
  have car : s.cfg.car = v.car := congrArg LiveView.car h.view
  have channels : s.channels = v.channels := congrArg LiveView.channels h.view
  have modes : s.cfg.modes = v.modes := congrArg LiveView.modes h.view
  have sent := chooseRates_sent s
  refine ⟨chooseRates s, finish_awake h.run h.awake (fun off => ?_) h.lastActivity h.idleDeadline, sent.ctx, sent.now,
    fun c silent => chooseRates_reported ?_, fun c mode => ?_⟩
  · rw [car]
    exact delay (ignition ▸ off)
  · exact (congrArg (fun w : Five Channel => (w.get c).reported) channels).trans silent
  · rw [chooseRates_rate]
    exact chosenRate_awake h.run h.awake (by rw [modes]; exact mode)

/-! ## A sleeping part that an entry wakes (R192, R193) -/

/-- The view of a part that a frame has just woken. -/
def wokenView (s : State) : LiveView :=
  let u := woken .frame s
  ⟨u.stage, u.now, u.cfg.modes, u.cfg.car, u.channels, fun c => (u.closures.get c).latch, u.ctx.ignition, u.ctx.state,
    u.ctx.lastActivity, u.ctx.idleDeadline, u.ctx.deepDeadline, u.ctx.lastWake, u.ctx.wakeCount⟩

theorem woken_lively (run : s.stage = .run) : Lively (wokenView s) (woken .frame s) := ⟨rfl, ⟨run, rfl, rfl, rfl⟩⟩

theorem handFlags_wakes (run : s.stage = .run) (asleep : s.ctx.state = .parked ∨ s.ctx.state = .deep)
    (wakes : r.wake = true) : Lively (wokenView s) (handFlags r s) := by
  have woke : Lively (wokenView s) (wake .frame s) := by
    rw [wake_asleep run asleep .frame]
    exact lively_of_traffic (woken_lively run) (offerPages_rest _)
  unfold handFlags
  rw [if_pos wakes]
  exact ite_lively (activity_lively woke) woke

end

end Sys2Proof.Machine
end

section
/-!
PROOFS. What a decided body frame does with its entry's flags, and with the actions that hand nothing on: DROP, CONTEXT
with a voltage, TRAP and PASS (R147, R150, R153, R154, R158).
-/

namespace Sys2Proof.Machine

/-- The hit of the deciding entry and its keep-awake flag, in a part that the entry does not wake. -/
def entryHit (i h : Nat) (r : Rule) (dt : Nat) (s : State) : State :=
  if r.keepAwake then activity (hitCounted i h (elapse dt s)) else hitCounted i h (elapse dt s)

/-- A body frame of at most 8 bytes, off the request identifier, that the entry `i` decides. -/
structure Decided (i h : Nat) (r : Rule) (id : CanId) (data : List Byte) (s : State) : Prop where
  other : id ≠ s.mgmt.base
  short : data.length ≤ 8
  decides : Decides i r id data s
  hits : s.counts.hits.getD i 0 = h

section
variable {dt i h : Nat} {r : Rule} {id : CanId} {data : List Byte} {s t : State}

theorem entryHit_eq (i h : Nat) (r : Rule) (dt : Nat) (s : State) :
    ∃ last idle, entryHit i h r dt s = withActivity last idle (hitCounted i h (elapse dt s)) := by
  unfold entryHit
  split
  · exact activity_eq _
  · exact ⟨s.ctx.lastActivity, s.ctx.idleDeadline, rfl⟩

namespace Decided
variable (d : Decided i h r id data s)
include d

theorem counts : countHit i (elapse dt s) = hitCounted i h (elapse dt s) := countHit_eq d.hits

theorem received (run : s.stage = .run) : receiveFrame id data (elapse dt s) =
    performAction i r id data (handFlags r (hitCounted i h (elapse dt s))) := by
  have decides : Decides i r id data (elapse dt s) := ⟨d.decides.entry, d.decides.matched, d.decides.first⟩
  rw [receiveFrame_matches (s := elapse dt s) run d.other d.short, matchFrame_decided decides, d.counts]

theorem received_steady (steady : Steady s) : receiveFrame id data (elapse dt s) =
    performAction i r id data (entryHit i h r dt s) := by
  rw [d.received steady.run, handFlags_awake (s := hitCounted i h (elapse dt s)) (steady.awake steady.run)]
  rfl

/-- The command in a steady part. -/
theorem answers (steady : Steady s) (agrees : AgreeButActivity (performAction i r id data (entryHit i h r dt s)) t)
    (calm : Calm t) : Answers (.bodyFrameReceived dt id data) s t := by
  rw [← d.received_steady steady] at agrees
  exact answers_of (f := receiveFrame id data) rfl steady.supplied (calm.of_agrees agrees) agrees

/-- The command in a steady part, for an action that notes activity. -/
theorem acts (steady : Steady s) (agrees : AgreeButActivity (performAction i r id data (entryHit i h r dt s)) t)
    (fresh : Fresh (performAction i r id data (entryHit i h r dt s))) (calm : Steady t) :
    AnswersActive (.bodyFrameReceived dt id data) s t := by
  rw [← d.received_steady steady] at agrees fresh
  exact answersActive_fresh (f := receiveFrame id data) rfl steady.supplied agrees calm.alert fresh

theorem next_steady (steady : Steady s) : exec (.bodyFrameReceived dt id data) s =
    .next (finish (elapse dt s) (performAction i r id data (entryHit i h r dt s))) := by
  refine (perform_supplied dt (receiveFrame id data) steady.supplied).trans ?_
  rw [d.received_steady steady]

/-- An entry that keeps awake notes activity, whatever its action (R147, R187). -/
theorem keepsAwake (steady : Steady s) (keeps : r.keepAwake = true) :
    ∃ u, exec (.bodyFrameReceived dt id data) s = .next u ∧ u.ctx.lastActivity = u.now ∧
      u.ctx.idleDeadline = idleDeadlineOf u := by
  let counted : State := hitCounted i h (elapse dt s)
  have noted : entryHit i h r dt s = activity counted := if_pos keeps
  obtain ⟨v, lively⟩ := lively_activity (s := counted) steady.run (steady.awake steady.run)
  have acted : Lively v (performAction i r id data (activity counted)) := performAction_lively i r id data lively
  have calm : Calm (activity counted) :=
    Calm.of_agrees (activity_agreesWith counted) (steady.toCalm.of_same rfl rfl rfl rfl rfl)
  refine ⟨performAction i r id data (activity counted), ?_, acted.noted⟩
  rw [d.next_steady steady, noted, finish_lively acted (acted.calm lively calm)]

/-- An entry with the wake flag wakes a part at rest, whatever its action (R147, R192, R193). -/
theorem wakes (asleep : Asleep s) (flag : r.wake = true) :
    ∃ u, exec (.bodyFrameReceived dt id data) s = .next u ∧ u.ctx.state = .awake ∧
      u.ctx.lastWake = some .frame ∧ u.ctx.wakeCount = min 65535 (s.ctx.wakeCount + 1) ∧
      u.ctx.deepDeadline = none ∧ u.ctx.lastActivity = u.now ∧
      ∀ c, (channel u c).reported = false ∧ (s.cfg.modes.get c ≠ .forcedOff → (channel u c).rate = .fast) := by
  let counted : State := hitCounted i h (elapse dt s)
  have woke : Lively (wokenView counted) (handFlags r counted) :=
    handFlags_wakes (s := counted) asleep.run asleep.asleep flag
  let acted : State := performAction i r id data (handFlags r counted)
  have lively : Lively (wokenView counted) acted := performAction_lively i r id data woke
  obtain ⟨u, closed, ctx, now, reported, rates⟩ :=
    finish_lively_view (b := elapse dt s) lively fun _ => asleep.parkDelay
  have next : exec (.bodyFrameReceived dt id data) s = .next u := by
    rw [← closed]
    refine (perform_supplied dt (receiveFrame id data) (by simp [asleep.run])).trans ?_
    rw [d.received asleep.run]
  have seen {α : Type} (f : LiveView → α) := congrArg f lively.view
  refine ⟨u, next, ?_, ?_, ?_, ?_, ?_, fun c => ⟨reported c ?_, rates c⟩⟩
  · exact (congrArg Context.state ctx).trans (seen LiveView.state)
  · exact (congrArg Context.lastWake ctx).trans (seen LiveView.lastWake)
  · exact (congrArg Context.wakeCount ctx).trans (seen LiveView.wakeCount)
  · exact (congrArg Context.deepDeadline ctx).trans (seen LiveView.deepDeadline)
  · rw [ctx, now]
    exact lively.lastActivity
  · simp [wokenView, woken]

/-- An entry without the wake flag leaves a part at rest as it is, but for its keep-awake flag and its action (R147). -/
theorem sleeps (asleep : Asleep s) (settled : Settled dt s) (noWake : r.wake = false) (drops : r.action = .drop) :
    (r.keepAwake = true → AnswersActive (.bodyFrameReceived dt id data) s (hitCounted i h (elapse dt s))) ∧
      (r.keepAwake = false → exec (.bodyFrameReceived dt id data) s = .next (hitCounted i h (elapse dt s))) := by
  have effect : performAction i r id data (handFlags r (hitCounted i h (elapse dt s))) = entryHit i h r dt s := by
    rw [handFlags_sleeping noWake]
    simp [performAction, drops, entryHit]
  have next : exec (.bodyFrameReceived dt id data) s = .next (finish (elapse dt s) (entryHit i h r dt s)) := by
    refine (perform_supplied dt (receiveFrame id data) (by simp [asleep.run])).trans ?_
    rw [d.received asleep.run, effect]
  refine ⟨fun keeps => ?_, fun quiet => ?_⟩
  · have noted : entryHit i h r dt s = activity (hitCounted i h (elapse dt s)) := if_pos keeps
    have fresh : Fresh (entryHit i h r dt s) := by
      rw [noted]
      exact activity_fresh asleep.run
    obtain ⟨last, idle, same⟩ := entryHit_eq i h r dt s
    rw [same] at next fresh
    have hold : awakeHold (withActivity last idle (hitCounted i h (elapse dt s))) = awakeHold s := rfl
    have pages : statusPages (withActivity last idle (hitCounted i h (elapse dt s))) = statusPages s := rfl
    have closed := finish_asleep (last := last) (idle := idle)
      (t := withActivity last idle (hitCounted i h (elapse dt s))) settled asleep.asleep rfl rfl rfl hold pages settled.rates
    exact ⟨_, next.trans (congrArg _ closed), rfl, fresh⟩
  · have plain : entryHit i h r dt s = hitCounted i h (elapse dt s) := if_neg (by simp [quiet])
    rw [next, plain, finish_settled (t := hitCounted i h (elapse dt s)) settled rfl rfl rfl rfl rfl settled.rates]

end Decided
end

end Sys2Proof.Machine
end

section
/-!
PROOFS. The actions of a rule that hand nothing to another unit: DROP, CONTEXT with a voltage, TRAP and PASS (R149, R150,
R153, R154, R158, R180).
-/

namespace Sys2Proof.Machine

/-! ## TRAP (R154) -/

theorem freeTicket_free {used : List Nat} {fuel t : Nat} (free : t ∉ used) : freeTicket used (fuel + 1) t = t := by
  simp [freeTicket, free]

section
variable {i : Nat} {id : CanId} {data : List Byte} {s : State}

theorem trapFrame_holds (run : s.stage = .run) (room : s.trap.held.length < 4) (tx : s.tx.length < Config.txPlaces)
    (free : ∀ g ∈ s.trap.held, g.ticket ≠ s.trap.ticketCounter) :
    let f : HeldFrame := ⟨s.trap.ticketCounter, i, id, data, s.now + 2000⟩
    trapFrame i id data s =
      { s with
        trap := ⟨s.trap.held ++ [f], (s.trap.ticketCounter + 1) % 256⟩
        tx := s.tx ++ [⟨.other, s.mgmt.base + 2#11, trapNoticeData false f, false⟩] } := by
  have on : (!running s) = false := by simp [running, run]
  have places : ¬Config.trapPlaces ≤ s.trap.held.length := Nat.not_le.mpr room
  have absent : s.trap.ticketCounter ∉ s.trap.held.map (·.ticket) := fun mem => by
    obtain ⟨g, hg, same⟩ := List.mem_map.mp mem
    exact free g hg same
  intro f
  unfold trapFrame
  dsimp only
  rw [freeTicket_free (fuel := 255) absent]
  refine (if_neg (by simp [on])).trans ((if_neg places).trans ?_)
  exact offerNotice_room
    (s := { s with trap := ⟨s.trap.held ++ [f], (s.trap.ticketCounter + 1) % 256⟩ }) run tx

theorem trapFrame_full (run : s.stage = .run) (full : 4 ≤ s.trap.held.length) :
    trapFrame i id data s = raise .trapOverflow none s := by
  have on : (!running s) = false := by simp [running, run]
  unfold trapFrame
  exact (if_neg (by simp [on])).trans (if_pos full)

/-! ## PASS (R158) -/

/-- A channel mask is the low five bits of an argument. -/
theorem takesCopy_low (n : Nat) (c : Closure) (s : State) : TakesCopy (bitsOf n 0 5) c s ↔ TakesCopy n c s := by
  have low : bitsOf n 0 5 / 2 ^ closureCode c % 2 = n / 2 ^ closureCode c % 2 := by
    cases c <;> simp [bitsOf, closureCode] <;> omega
  rw [TakesCopy, low]

/-- A turn over a list in which one closure's turn alone changes anything. -/
theorem foldl_one {turn : State → Closure → State} {c : Closure} {l : List Closure} (once : l.Nodup) (mem : c ∈ l)
    (others : ∀ d ∈ l, d ≠ c → turn s d = s ∧ turn (turn s c) d = turn s c) : l.foldl turn s = turn s c := by
  have stays {u : State} {l : List Closure} (h : ∀ d ∈ l, turn u d = u) : l.foldl turn u = u := by
    induction l with
    | nil => rfl
    | cons d l ih =>
      rw [List.foldl_cons, h d (List.mem_cons_self ..)]
      exact ih fun e he => h e (List.mem_cons_of_mem d he)
  obtain ⟨before, after, rfl⟩ := List.append_of_mem mem
  have apart := List.nodup_append.mp once
  have first : ∀ d ∈ before, turn s d = s := fun d hd =>
    (others d (by simp [hd]) fun same => apart.2.2 d hd c (by simp) same).1
  have last : ∀ d ∈ after, turn (turn s c) d = turn s c := fun d hd =>
    (others d (by simp [hd]) fun same => (List.nodup_cons.mp apart.2.1).1 (same ▸ hd)).2
  rw [List.foldl_append, stays first, List.foldl_cons, stays last]

/-- A passed frame with one channel to take it, whose queue is full (R158 C). -/
theorem passFrame_full {mask : Nat} {f : PassFrame} {c : Closure} (run : s.stage = .run) (takes : TakesCopy mask c s)
    (full : 2 ≤ (s.pass.get c).length) (alone : ∀ d, d ≠ c → ¬TakesCopy mask d s) :
    passFrame mask f s = raise .passOverflow (some c) s := by
  have on : running s = true := by simp [running, run]
  obtain ⟨named, copies⟩ := takesCopy_iff.mp takes
  have own : passTo f c s = raise .passOverflow (some c) s := by
    have sends : ¬(nodeLost s c || forcedOff s c) = true := by
      rw [Bool.or_eq_true, nodeLost_iff, forcedOff_iff]
      exact not_or.mpr copies
    exact (if_neg sends).trans (if_neg (Nat.not_lt.mpr full))
  have others : ∀ d ∈ maskChannels mask, d ≠ c → passTo f d s = s ∧ passTo f d (passTo f c s) = passTo f c s := by
    intro d hd other
    have spared : ¬Copies d s := fun does => alone d other (takesCopy_iff.mpr ⟨(mem_maskChannels mask d).mp hd, does⟩)
    refine ⟨passTo_skips spared, passTo_skips ?_⟩
    rw [own]
    have same : Copies d (raise .passOverflow (some c) s) = Copies d s :=
      same_of_rest (raise_rest .passOverflow (some c) s) (fun u => Copies d u) fun _ => rfl
    rw [same]
    exact spared
  rw [passFrame, if_pos on, foldl_one (maskChannels_nodup mask) ((mem_maskChannels mask c).mpr named) others, own]

end

/-! ## The commands -/

theorem Steady.of_same {s t : State} (steady : Steady s) (stage : t.stage = s.stage) (state : t.ctx.state = s.ctx.state)
    (ignition : t.ctx.ignition = s.ctx.ignition) (channels : t.channels = s.channels) (modes : t.cfg.modes = s.cfg.modes) :
    Steady t :=
  ⟨steady.toCalm.of_same stage state ignition channels modes, stage.trans steady.run⟩

section
variable {dt i h : Nat} {r : Rule} {id : CanId} {data : List Byte} {s : State}

theorem entryHit_steady (steady : Steady s) : Steady (entryHit i h r dt s) := by
  obtain ⟨last, idle, same⟩ := entryHit_eq i h r dt s
  rw [same]
  exact steady.of_same rfl rfl rfl rfl rfl

theorem entryHit_same {α : Type} (f : State → α) (hf : ∀ u, f (lessActivity u) = f u) :
    f (entryHit i h r dt s) = f (hitCounted i h (elapse dt s)) := by
  obtain ⟨last, idle, same⟩ := entryHit_eq i h r dt s
  rw [same]
  exact (withActivity_agrees last idle _).same f hf

namespace Decided
variable (d : Decided i h r id data s) (steady : Steady s)
include d steady

theorem answers_drop (action : r.action = .drop) : Answers (.bodyFrameReceived dt id data) s (entryHit i h r dt s) := by
  refine d.answers steady ?_ (entryHit_steady steady).toCalm
  simp [performAction, action, AgreeButActivity]

theorem answers_voltage (action : r.action = .context) (voltage : r.argument.toNat % 2 = 1) :
    Answers (.bodyFrameReceived dt id data) s
      { entryHit i h r dt s with
        ctx := { s.ctx with
          voltage := max 60 (min 180 (extract r data)), voltageFresh := some (s.now + dt + 1000) } } := by
  have bit : bitOf r.argument.toNat 0 = true := (bitOf_iff _ 0).mpr (by simpa using voltage)
  obtain ⟨last, idle, same⟩ := entryHit_eq i h r dt s
  have effect (u : State) : performAction i r id data u = writeVoltage (extract r data) u := by
    simp [performAction, action, bit]
  refine d.answers steady ?_ ?_ <;> rw [same]
  · rw [effect]
    rfl
  · exact steady.toCalm.of_same rfl rfl rfl rfl rfl

theorem answers_trap (action : r.action = .trap) (room : s.trap.held.length < 4) (tx : s.tx.length < 16)
    (free : ∀ g ∈ s.trap.held, g.ticket ≠ s.trap.ticketCounter) :
    let f : HeldFrame := ⟨s.trap.ticketCounter, i, id, data, s.now + dt + 2000⟩
    Answers (.bodyFrameReceived dt id data) s
      { entryHit i h r dt s with
        trap := ⟨s.trap.held ++ [f], (s.trap.ticketCounter + 1) % 256⟩
        tx := s.tx ++ [⟨.other, s.mgmt.base + 2#11, trapNoticeData false f, false⟩] } := by
  obtain ⟨last, idle, same⟩ := entryHit_eq i h r dt s
  have effect (u : State) : performAction i r id data u = trapFrame i id data u := by simp [performAction, action]
  refine d.answers steady ?_ ?_ <;> rw [same]
  · rw [effect, trapFrame_holds (s := withActivity last idle (hitCounted i h (elapse dt s))) steady.run room tx free]
    rfl
  · exact steady.toCalm.of_same rfl rfl rfl rfl rfl

/-- A fault class raised in the place of the action. -/
theorem next_raises {cls : FaultClass} {who : Option Closure} (other : cls ≠ .txOverflow) (places : s.faults.length = 14)
    (effect : performAction i r id data (entryHit i h r dt s) = raise cls who (entryHit i h r dt s)) :
    ∃ u, exec (.bodyFrameReceived dt id data) s = .next u ∧ u.trap = s.trap ∧ u.pass = s.pass ∧ u.search = s.search ∧
      u.group = s.group ∧ u.counts = (entryHit i h r dt s).counts ∧
      (faultRecord u cls).count = min 255 ((faultRecord s cls).count + 1) ∧ (faultRecord u cls).last = who := by
  have calm : Calm (raise cls who (entryHit i h r dt s)) :=
    (entryHit_steady steady).toCalm.of_motion (lessMotion_of_traffic (raise_rest ..))
  have closed {α : Type} (f : State → α) (hf : ∀ u, f (lessActivity u) = f u) (ht : ∀ u, f (lessTraffic u) = f u) :
      f (finish (elapse dt s) (raise cls who (entryHit i h r dt s))) = f (hitCounted i h (elapse dt s)) :=
    (finish_calm_same f hf _ calm).trans ((same_of_rest (raise_rest cls who _) f ht).trans (entryHit_same f hf))
  have hitFaults : (entryHit i h r dt s).faults = s.faults := entryHit_same State.faults fun _ => rfl
  have record := finish_calm_same (fun u => faultRecord u cls) (fun _ => rfl) (elapse dt s) calm
  have full : (entryHit i h r dt s).faults.length = 14 := by rw [hitFaults, places]
  have old : faultRecord (entryHit i h r dt s) cls = faultRecord s cls := by simp only [faultRecord, hitFaults]
  refine ⟨_, (d.next_steady steady).trans (by rw [effect]), ?_, ?_, ?_, ?_, ?_, ?_, ?_⟩
  · exact closed State.trap (fun _ => rfl) fun _ => rfl
  · exact closed State.pass (fun _ => rfl) fun _ => rfl
  · exact closed State.search (fun _ => rfl) fun _ => rfl
  · exact closed State.group (fun _ => rfl) fun _ => rfl
  · exact (closed State.counts (fun _ => rfl) fun _ => rfl).trans (entryHit_same State.counts fun _ => rfl).symm
  · exact (congrArg FaultRecord.count record).trans ((faultRecord_raiseWith other full).trans (by rw [old]))
  · exact (congrArg FaultRecord.last record).trans (faultRecord_raiseWith_last other full)

theorem trap_overflows (action : r.action = .trap) (full : 4 ≤ s.trap.held.length) (places : s.faults.length = 14) :
    ∃ u, exec (.bodyFrameReceived dt id data) s = .next u ∧ u.trap = s.trap ∧ u.counts = (entryHit i h r dt s).counts ∧
      (faultRecord u .trapOverflow).count = min 255 ((faultRecord s .trapOverflow).count + 1) := by
  have run := (entryHit_steady (i := i) (h := h) (r := r) (dt := dt) steady).run
  have held : (entryHit i h r dt s).trap = s.trap := entryHit_same State.trap fun _ => rfl
  have effect : performAction i r id data (entryHit i h r dt s) = raise .trapOverflow none (entryHit i h r dt s) := by
    rw [← trapFrame_full (i := i) (id := id) (data := data) run (by rw [held]; exact full)]
    simp [performAction, action]
  obtain ⟨u, next, trap, -, -, -, counts, count, -⟩ := d.next_raises steady (dt := dt) (by decide) places effect
  exact ⟨u, next, trap, counts, count⟩

theorem answers_pass (action : r.action = .pass)
    (room : ∀ c, TakesCopy r.argument.toNat c s → (s.pass.get c).length < 2) :
    Answers (.bodyFrameReceived dt id data) s
      { entryHit i h r dt s with pass := passedTo r.argument.toNat ⟨id, data⟩ s } := by
  obtain ⟨last, idle, same⟩ := entryHit_eq i h r dt s
  have effect (u : State) : performAction i r id data u = passFrame (bitsOf r.argument.toNat 0 5) ⟨id, data⟩ u := by
    simp [performAction, action]
  have copied : passedTo (bitsOf r.argument.toNat 0 5) ⟨id, data⟩ s = passedTo r.argument.toNat ⟨id, data⟩ s := by
    simp only [passedTo, takesCopy_low]
  refine d.answers steady ?_ ?_ <;> rw [same]
  · rw [effect, passFrame_fits (s := withActivity last idle (hitCounted i h (elapse dt s))) steady.run fun c takes =>
      room c ((takesCopy_low ..).mp takes), ← copied]
    rfl
  · exact steady.toCalm.of_same rfl rfl rfl rfl rfl

theorem pass_overflows {c : Closure} (action : r.action = .pass) (takes : TakesCopy r.argument.toNat c s)
    (full : 2 ≤ (s.pass.get c).length) (alone : ∀ e, e ≠ c → ¬TakesCopy r.argument.toNat e s)
    (places : s.faults.length = 14) :
    ∃ u, exec (.bodyFrameReceived dt id data) s = .next u ∧ u.pass = s.pass ∧ u.counts = (entryHit i h r dt s).counts ∧
      (faultRecord u .passOverflow).count = min 255 ((faultRecord s .passOverflow).count + 1) ∧
      (faultRecord u .passOverflow).last = some c := by
  have effect : performAction i r id data (entryHit i h r dt s) = raise .passOverflow (some c) (entryHit i h r dt s) := by
    obtain ⟨last, idle, same⟩ := entryHit_eq i h r dt s
    rw [same]
    have passed := passFrame_full (mask := bitsOf r.argument.toNat 0 5) (f := ⟨id, data⟩)
      (s := withActivity last idle (hitCounted i h (elapse dt s))) steady.run ((takesCopy_low ..).mpr takes) full
      fun e other does => alone e other ((takesCopy_low ..).mp does)
    simpa [performAction, action] using passed
  obtain ⟨u, next, -, pass, -, -, counts, count, last⟩ := d.next_raises steady (dt := dt) (by decide) places effect
  exact ⟨u, next, pass, counts, count, last⟩

end Decided
end

end Sys2Proof.Machine
end

section
/-!
PROOFS. What a body frame hands to the Lock Controller: the speed of a CONTEXT entry with drive-away locking, and the lock
and release requests of a REQUEST entry (R19, R23, R24, R151, R152, R180, R181).
-/

namespace Sys2Proof.Machine

/-! ## Requests that note activity -/

section
variable {s : State} (run : s.stage = .run) (awake : s.ctx.state = .awake)
include run awake

theorem arriveLock_again (r : LockRequest) : arriveLock r (activity s) = arriveLock r s := by
  obtain ⟨v, lively⟩ := lively_activity run awake
  have on : running s = true := by simp [running, run]
  have on' : running (activity s) = true := by simp [running, lively.run]
  simp only [arriveLock, on, on', activity_again lively, Bool.not_true, Bool.false_eq_true, if_false]

theorem arriveLock_noted (r : LockRequest) : Fresh (arriveLock r s) := by
  obtain ⟨v, lively⟩ := lively_activity run awake
  rw [← arriveLock_again run awake]
  exact (arriveLock_lively r lively).noted

end

/-! ## The speed of a CONTEXT entry (R23, R180, R181) -/

/-- A speed written with its freshness. -/
def speedTold (value : Nat) (s : State) : State :=
  { s with ctx := { s.ctx with speed := min 255 value, speedFresh := some (s.now + 1000) } }

/-- A speed written that drive-away locking answers. -/
def Rises (value : Nat) (s : State) : Prop :=
  s.cfg.car.driveAwaySpeed ≠ 0 ∧ s.ctx.speed < s.cfg.car.driveAwaySpeed ∧
    s.cfg.car.driveAwaySpeed ≤ min 255 value ∧ (∃ d ∈ s.ctx.speedFresh, s.now ≤ d) ∧
    (∀ c, (closure s c).latch = .shut) ∧ s.group.driveAwayArmed = true

/-- The speed told, with drive-away locking disarmed. -/
def disarmed (value : Nat) (s : State) : State :=
  { speedTold value s with group := { s.group with driveAwayArmed := false } }

theorem allShut_iff (s : State) : allShut s = true ↔ ∀ c, (closure s c).latch = .shut := by
  have every : ∀ c, c ∈ allClosures := fun c => by cases c <;> decide
  simp [allShut, every]

theorem writeSpeed_eq {value : Nat} {s : State} (run : s.stage = .run) (on : s.ctx.ignition = .run) :
    (Rises value s → writeSpeed value s = arriveLock ⟨.lockAll, .driveAway, false⟩ (disarmed value s)) ∧
      (¬Rises value s → writeSpeed value s = speedTold value s) := by
  have running_ : running (speedTold value s) = true := by simp [running, run, speedTold]
  have updated : writeSpeed value s = speedUpdate s.ctx.speed (speedFresh s) (speedTold value s) := if_pos running_
  have judged : (s.cfg.car.driveAwaySpeed ≠ 0 && s.cfg.car.driveAwaySpeed ≤ min 255 value && speedFresh s &&
      s.ctx.speed < s.cfg.car.driveAwaySpeed && s.ctx.ignition == .run && allShut s && s.group.driveAwayArmed : Bool) = true ↔
      Rises value s := by
    simp only [Bool.and_eq_true, decide_eq_true_eq, speedFresh_iff, on, allShut_iff, Rises, beq_self_eq_true, and_true]
    constructor
    · rintro ⟨⟨⟨⟨⟨h1, h2⟩, d, hd, h3⟩, h4⟩, h5⟩, h6⟩
      exact ⟨h1, h4, h2, ⟨d, hd, h3⟩, h5, h6⟩
    · rintro ⟨h1, h4, h2, ⟨d, hd, h3⟩, h5, h6⟩
      exact ⟨⟨⟨⟨⟨h1, h2⟩, d, hd, h3⟩, h4⟩, h5⟩, h6⟩
  rw [updated]
  exact ⟨fun rises => if_pos (judged.mpr rises), fun stays => if_neg fun h => stays (judged.mp h)⟩

/-- Taking and completing a lock request reads no activity. -/
theorem AgreeButActivity.lockTaken {s t : State} (h : AgreeButActivity s t) (dt : Nat) (q : LockRequest) :
    AgreeButActivity (lockTaken dt q s) (lockTaken dt q t) := by
  rw [h.eq]
  rfl

theorem lockCompleted_withActivity (dt last idle : Nat) (q : LockRequest) (s : State) :
    lockCompleted dt q (withActivity last idle s) = withActivity last idle (lockCompleted dt q s) := by
  unfold lockCompleted
  by_cases locks : q.kind = .lockAll ∨ q.kind = .deadlockAll
  · simp only [if_pos locks]
    rfl
  · simp only [if_neg locks]
    rfl

theorem AgreeButActivity.lockCompleted {s t : State} (h : AgreeButActivity s t) (dt : Nat) (q : LockRequest) :
    AgreeButActivity (lockCompleted dt q s) (lockCompleted dt q t) := by
  rw [h.eq, lockCompleted_withActivity]
  exact withActivity_agrees ..

theorem Steady.lockCompleted {s : State} (steady : Steady s) (dt : Nat) (q : LockRequest) :
    Steady (lockCompleted dt q s) := by
  unfold Machine.lockCompleted
  by_cases locks : q.kind = .lockAll ∨ q.kind = .deadlockAll
  · simp only [if_pos locks]
    exact steady.of_same rfl rfl rfl rfl rfl
  · simp only [if_neg locks]
    exact steady.of_same rfl rfl rfl rfl rfl

/-- A ready group stays ready whatever arms drive-away locking and whatever the speed. -/
theorem LockReady.disarmed {value : Nat} {s : State} (h : LockReady s) : LockReady (disarmed value s) :=
  ⟨h.alert.of_same rfl rfl rfl rfl rfl rfl, h.room, h.idle, h.unsent, h.noFlight, h.noSlot, h.reported, h.present,
    h.notForced, h.tokens, h.noHold, h.noAjar⟩

section
variable {dt i h : Nat} {r : Rule} {id : CanId} {data : List Byte} {s : State}

theorem entryHit_ready (ready : LockReady s) : LockReady (entryHit i h r dt s) := by
  obtain ⟨last, idle, same⟩ := entryHit_eq i h r dt s
  rw [same]
  exact ready.of_fields (ready.alert.of_same rfl rfl rfl rfl rfl rfl) ready.room rfl rfl rfl rfl

theorem performs_speed (action : r.action = .context) (speed : r.argument.toNat % 2 = 0) (u : State) :
    performAction i r id data u = writeSpeed (extract r data) u := by
  have bit : bitOf r.argument.toNat 0 = false := by
    rw [← Bool.not_eq_true, bitOf_iff]
    simp [speed]
  simp [performAction, action, bit]

namespace Decided
variable (d : Decided i h r id data s) (steady : Steady s)
include d steady

/-- A lock request that a ready group takes. -/
theorem acts_lock {q : LockRequest} {u t : State} (effect : performAction i r id data (entryHit i h r dt s) = arriveLock q u)
    (ready : LockReady u) (relock : q.source ≠ .autoRelock) (plain : q.kind ≠ .crashUnlock) (drives : Drives q.kind u)
    (agrees : AgreeButActivity (lockTaken 0 q u) t) (calm : Steady t) : AnswersActive (.bodyFrameReceived dt id data) s t := by
  refine d.acts steady ?_ ?_ calm <;> rw [effect]
  · exact (arriveLock_drives ready (.inl relock) plain drives).trans agrees
  · exact arriveLock_noted ready.alert.run ready.alert.awake q

theorem answers_speed (action : r.action = .context) (speed : r.argument.toNat % 2 = 0) {told disarms : State}
    (toldIs : told = { entryHit i h r dt s with
      ctx := { s.ctx with speed := min 255 (extract r data), speedFresh := some (s.now + dt + 1000) } })
    (disarmsIs : disarms = { told with group := { s.group with driveAwayArmed := false } }) :
    (¬Rises (extract r data) (elapse dt s) → Answers (.bodyFrameReceived dt id data) s told) ∧
      (Rises (extract r data) (elapse dt s) → LockReady s →
        (Drives .lockAll s →
          AnswersActive (.bodyFrameReceived dt id data) s (lockTaken 0 ⟨.lockAll, .driveAway, false⟩ disarms)) ∧
        (¬Drives .lockAll s →
          AnswersActive (.bodyFrameReceived dt id data) s (lockCompleted 0 ⟨.lockAll, .driveAway, false⟩ disarms))) ∧
      (Rises (extract r data) (elapse dt s) → GroupIdle s → s.group.crashHold.isSome →
        AnswersActive (.bodyFrameReceived dt id data) s
          { disarms with group := { disarms.group with lastRefusal := some .crashHold } }) := by
  have on : s.ctx.ignition = .run := steady.ignition steady.run
  obtain ⟨last, idle, same⟩ := entryHit_eq i h r dt s
  subst toldIs disarmsIs
  let u : State := withActivity last idle (hitCounted i h (elapse dt s))
  obtain ⟨locks, tells⟩ := writeSpeed_eq (value := extract r data) (s := u) steady.run on
  have takes (rises : Rises (extract r data) (elapse dt s)) : performAction i r id data (entryHit i h r dt s) =
      arriveLock ⟨.lockAll, .driveAway, false⟩ (disarmed (extract r data) u) := by
    rw [same, performs_speed action speed]
    exact locks rises
  have awake : s.ctx.state = .awake := steady.awake steady.run
  refine ⟨fun stays => ?_, fun rises ready => ⟨fun drives => ?_, fun stands => ?_⟩, fun rises group held => ?_⟩
  · refine d.answers steady ?_ ?_
    · rw [same, performs_speed action speed, show writeSpeed (extract r data) u = _ from tells stays]
      rfl
    · rw [same]
      exact steady.toCalm.of_same rfl rfl rfl rfl rfl
  · have readyU : LockReady (disarmed (extract r data) u) := LockReady.disarmed
      (ready.of_fields (ready.alert.of_same rfl rfl rfl rfl rfl rfl) ready.room rfl rfl rfl rfl)
    refine d.acts_lock steady (takes rises) readyU (by simp) (by simp) drives ?_ ?_ <;> rw [same]
    · refine AgreeButActivity.lockTaken ?_ 0 _
      rfl
    · exact steady.of_same rfl rfl rfl rfl rfl
  · have readyU : LockReady (disarmed (extract r data) u) := LockReady.disarmed
      (ready.of_fields (ready.alert.of_same rfl rfl rfl rfl rfl rfl) ready.room rfl rfl rfl rfl)
    refine d.acts steady ?_ ?_ ?_
    · rw [takes rises, same]
      refine (arriveLock_completes (r := ⟨.lockAll, .driveAway, false⟩) readyU (.inl (by simp)) (by simp) stands
        (by simp [QuietSource]) rfl).trans (AgreeButActivity.lockCompleted ?_ 0 _)
      rfl
    · rw [takes rises]
      exact arriveLock_noted (s := disarmed (extract r data) u) steady.run awake _
    · rw [same]
      refine Steady.lockCompleted ?_ 0 _
      exact steady.of_same rfl rfl rfl rfl rfl
  · refine d.acts steady ?_ ?_ ?_
    · obtain ⟨last', idle', active⟩ := activity_eq (disarmed (extract r data) u)
      have idleGroup : GroupIdle (withActivity last' idle' (disarmed (extract r data) u)) :=
        ⟨group.idle, group.noFlight, group.noSlot, group.reported⟩
      rw [takes rises, arriveLock_awake (s := disarmed (extract r data) u) steady.run awake (by simp), active,
        placeLock_refused idleGroup awake (lockRefusal_crashHold rfl held) (by simp), same]
      rfl
    · rw [takes rises]
      exact arriveLock_noted (s := disarmed (extract r data) u) steady.run awake _
    · rw [same]
      exact steady.of_same rfl rfl rfl rfl rfl

end Decided
end

end Sys2Proof.Machine
end

section
/-!
PROOFS. The requests of a REQUEST entry: central locking, the tailgate release, the crash unlock, the windows and the
global operations (R19, R24, R45, R50, R130, R138, R151, R152).
-/

namespace Sys2Proof.Machine

/-! ## What a request's code hands on (R151, R152) -/

section
variable {r : Rule} {data : List Byte} {u : State}

theorem bitsOf_zero (n width : Nat) : bitsOf n 0 width = n % 2 ^ width := by simp [bitsOf]

theorem ruleRequest_lock {kind : LockKind} (code : lockKindOfCode (r.argument.toNat % 16) = some kind) :
    ruleRequest r data u = arriveLock ⟨kind, ruleSource r.argument.toNat kind, false⟩ u := by
  have low : lockKindOfCode (bitsOf r.argument.toNat 0 4) = some kind := by rw [bitsOf_zero]; exact code
  simp only [ruleRequest, low]

theorem ruleRequest_release (code : r.argument.toNat % 16 = 6) : ruleRequest r data u = releaseTailgate u := by
  have low : bitsOf r.argument.toNat 0 4 = 6 := by rw [bitsOf_zero]; exact code
  simp [ruleRequest, low, lockKindOfCode]

/-- The windows that a window mask of one bit names. -/
theorem maskWindows_one {n : Nat} {w : WindowId} (mask : n / 16 % 16 = 2 ^ windowCode w) :
    (allWindows.filter fun v => bitOf n (4 + windowCode v)) = [w] := by
  have bit (v : WindowId) : bitOf n (4 + windowCode v) = bitOf (2 ^ windowCode w) (windowCode v) := by
    rw [Bool.eq_iff_iff, bitOf_iff, bitOf_iff, ← mask]
    cases v <;> simp [windowCode] <;> omega
  simp only [bit]
  cases w <;> decide

theorem ruleRequest_move {w : WindowId} (code : r.argument.toNat % 16 = 11)
    (mask : r.argument.toNat / 16 % 16 = 2 ^ windowCode w) :
    ruleRequest r data u =
      requestMotion ⟨w, (min 100 (extract r data) * (windowCfg u w).travel + 50) / 100, .body, false⟩ u := by
  have low : bitsOf r.argument.toNat 0 4 = 11 := by rw [bitsOf_zero]; exact code
  simp [ruleRequest, low, lockKindOfCode, maskWindows_one mask, percentTarget]

theorem ruleRequest_stop {w : WindowId} (code : r.argument.toNat % 16 = 12)
    (mask : r.argument.toNat / 16 % 16 = 2 ^ windowCode w) : ruleRequest r data u = stopWindow w u := by
  have low : bitsOf r.argument.toNat 0 4 = 12 := by rw [bitsOf_zero]; exact code
  simp [ruleRequest, low, lockKindOfCode, maskWindows_one mask]

theorem ruleRequest_start (code : r.argument.toNat % 16 = 13) :
    ruleRequest r data u = startOperation (r.argument.toNat / 1024 % 4) .body u := by
  have low : bitsOf r.argument.toNat 0 4 = 13 := by rw [bitsOf_zero]; exact code
  have index : bitsOf r.argument.toNat 10 2 = r.argument.toNat / 1024 % 4 := rfl
  simp [ruleRequest, low, lockKindOfCode, index]

theorem ruleRequest_cancel (code : r.argument.toNat % 16 = 14) : ruleRequest r data u = cancelOperation u := by
  have low : bitsOf r.argument.toNat 0 4 = 14 := by rw [bitsOf_zero]; exact code
  simp [ruleRequest, low, lockKindOfCode]

theorem ruleSource_plain {n : Nat} {kind : LockKind} (plain : kind ≠ .crashUnlock) :
    ruleSource n kind = if n / 512 % 2 = 1 then .body else .remote := by
  have other : (kind == .crashUnlock) = false := beq_false_of_ne plain
  simp only [ruleSource, other, Bool.false_eq_true, if_false, bitOf_iff]
  rfl

end

/-! ## A crash unlock that is taken (R19) -/

section
variable {s : State}

/-- With no pending request, what follows a crash unlock completes it at most. -/
theorem followGroup_crash {f : InFlight} (flight : s.group.inFlight = some f) (crash : f.request.kind = .crashUnlock)
    (noSlot : s.group.slot = none) :
    followGroup s = s ∨ followGroup s = { s with group := { s.group with inFlight := none, driveAwayArmed := true } } := by
  have noDue : releaseDue f s = false := by simp [releaseDue, crash]
  have items : completeItems f s = { s with group := { s.group with inFlight := none, driveAwayArmed := true } } := by
    simp [completeItems, startRelock, lockType, unlockType, crash]
  by_cases busy : groupBusy s = true
  · exact .inl (followGroup_waits busy)
  · exact .inr (by simp [followGroup, completeOne, takePending, flight, noSlot, busy, noDue, items])

/-- What a crash unlock leaves, whatever the part did. -/
structure CrashDone (s u : State) : Prop where
  hold : u.group.crashHold = some s.now
  tokens : u.group.tokens = s.group.tokens
  active : u.op.active = none
  target : ∀ c, (closure u c).target = .unlocked
  source : ∀ c, (closure u c).lastSource = .crash

theorem crashRecord_aimed (c : Closure) :
    (crashRecord s c).target = .unlocked ∧ (crashRecord s c).lastSource = .crash := by
  have dropped (k : ClosureLock) : (dropPulse k).target = k.target ∧ (dropPulse k).lastSource = k.lastSource := by
    unfold dropPulse
    split <;> exact ⟨rfl, rfl⟩
  unfold crashRecord
  dsimp only
  split
  · exact ⟨(dropped _).1, (dropped _).2⟩
  · exact ⟨rfl, rfl⟩

theorem takeCrash_done (s : State) : CrashDone s (takeCrash s) := by
  let u := crashStop (abort .crashAbort (crashTaken s))
  have same : lessMotion u = lessMotion (crashTaken s) := by rw [crashStop_lessMotion, abort_lessMotion]
  have group : u.group = (crashTaken s).group := same_of_motion same State.group fun _ => rfl
  have record (c : Closure) : closure u c = crashRecord s c := by
    have kept : closure u c = closure (crashTaken s) c := same_of_motion same (fun v => closure v c) fun _ => rfl
    rw [kept]
    exact Five.get_mapWith ..
  have engine : Kept False True u := crashStop_kept (kept_of_abort ⟨False.elim, False.elim⟩)
  have active : u.op.active = none := (engine.sound trivial).stopped (by rw [group]; rfl)
  have follows := followGroup_crash (s := u) (f := ⟨⟨.crashUnlock, .crash, false⟩, driverClosure s⟩)
    (congrArg LockGroup.inFlight group) rfl (congrArg LockGroup.slot group)
  rw [takeCrash_eq]
  have done : CrashDone s u := ⟨by rw [group]; rfl, by rw [group]; rfl, active,
    fun c => by rw [record]; exact (crashRecord_aimed c).1, fun c => by rw [record]; exact (crashRecord_aimed c).2⟩
  change CrashDone s (followGroup u)
  clear_value u
  rcases follows with h | h <;> rw [h]
  · exact done
  · exact ⟨done.hold, done.tokens, done.active, done.target, done.source⟩

end

end Sys2Proof.Machine
end

section
/-!
PROOFS. The commands of a REQUEST entry in a steady part, one for each request (R151, R152).
-/

namespace Sys2Proof.Machine

/-! ## The engine's answers (R130, R138) -/

section
variable {s : State} (run : s.stage = .run) (noOp : s.op.active = none)
include run noOp

theorem startOperation_held {i : Nat} {d : Descriptor} (source : OpSource) (found : s.cfg.descriptors[i]? = some d)
    (held : s.group.crashHold.isSome) :
    AgreeButActivity (startOperation i source s)
      { s with op := { s.op with lastStart := some ⟨.crashHold, i, source⟩ } } := by
  obtain ⟨last, idle, active⟩ := activity_eq s
  have on : (!running s) = false := by simp [running, run]
  have tested : crashTest (withActivity last idle s) = withActivity last idle s :=
    (if_pos held).trans (abort_none (s := withActivity last idle s) _ noOp)
  have result : decideStart i d source (withActivity last idle s) = .crashHold := if_pos held
  unfold startOperation
  simp only [on, found, active, tested, result, Bool.false_eq_true, if_false]
  exact withActivity_agrees last idle { s with op := { s.op with lastStart := some ⟨.crashHold, i, source⟩ } }

theorem cancelOperation_none : AgreeButActivity (cancelOperation s) s := by
  obtain ⟨last, idle, active⟩ := activity_eq s
  have on : running s = true := by simp [running, run]
  have tested : crashTest (withActivity last idle s) = withActivity last idle s := by
    unfold crashTest
    split
    · exact abort_none (s := withActivity last idle s) _ noOp
    · rfl
  rw [cancelOperation, if_pos on, active, tested, abort_none (s := withActivity last idle s) _ noOp]
  exact withActivity_agrees last idle s

end

section
variable {s : State} (run : s.stage = .run) (awake : s.ctx.state = .awake)
include run awake

/-- A start reads no activity that it does not note itself. -/
theorem startOperation_again (i : Nat) (source : OpSource) (found : s.cfg.descriptors[i]?.isSome) :
    startOperation i source (activity s) = startOperation i source s := by
  obtain ⟨v, lively⟩ := lively_activity run awake
  obtain ⟨last, idle, active⟩ := activity_eq s
  obtain ⟨d, there⟩ := Option.isSome_iff_exists.mp found
  have there' : (activity s).cfg.descriptors[i]? = some d := by rw [active]; exact there
  have on : running s = true := by simp [running, run]
  have on' : running (activity s) = true := by simp [running, lively.run]
  simp only [startOperation, on, on', there, there', activity_again lively, Bool.not_true, Bool.false_eq_true, if_false]

theorem startOperation_noted (i : Nat) (source : OpSource) (found : s.cfg.descriptors[i]?.isSome) :
    Fresh (startOperation i source s) := by
  obtain ⟨v, lively⟩ := lively_activity run awake
  rw [← startOperation_again run awake i source found]
  exact (startOperation_lively i source lively).noted

/-- An effect upon a part that has just noted activity. -/
theorem fresh_after {effect : State → State} (keeps : ∀ v u, Lively v u → Lively v (effect u)) :
    Fresh (effect (activity s)) := by
  obtain ⟨v, lively⟩ := lively_activity run awake
  exact (keeps v _ lively).noted

end

/-! ## The commands -/

section
variable {dt i h : Nat} {r : Rule} {id : CanId} {data : List Byte} {s : State}

theorem performs_request (action : r.action = .request) (u : State) :
    performAction i r id data u = ruleRequest r data u := by simp [performAction, action]

namespace Decided
variable (d : Decided i h r id data s) (steady : Steady s)
include d steady

/-- An effect that the action has upon the part once activity is noted. -/
theorem acts_after {effect : State → State} {t : State}
    (meaning : performAction i r id data (entryHit i h r dt s) = effect (activity (entryHit i h r dt s)))
    (keeps : ∀ v u, Lively v u → Lively v (effect u))
    (taken : ∀ last idle, AgreeButActivity (effect (withActivity last idle (hitCounted i h (elapse dt s)))) t)
    (calm : Steady t) : AnswersActive (.bodyFrameReceived dt id data) s t := by
  have hit := entryHit_steady (i := i) (h := h) (r := r) (dt := dt) steady
  refine d.acts steady ?_ ?_ calm <;> rw [meaning]
  · obtain ⟨last, idle, same⟩ := entryHit_eq i h r dt s
    obtain ⟨last', idle', active⟩ := activity_eq (entryHit i h r dt s)
    have noted : activity (entryHit i h r dt s) = withActivity last' idle' (hitCounted i h (elapse dt s)) := by
      rw [active, same]
      rfl
    rw [noted]
    exact taken last' idle'
  · exact fresh_after hit.run (hit.awake hit.run) keeps

variable (action : r.action = .request)
include action

theorem acts_lockRequest {kind : LockKind} (ready : LockReady s) (drives : Drives kind s)
    (code : (r.argument.toNat % 16, kind) ∈
      [(1, LockKind.lockAll), (2, .unlockAll), (3, .unlockDriver), (4, .deadlockAll), (5, .unlockTailgate)]) :
    AnswersActive (.bodyFrameReceived dt id data) s
      (lockTaken 0 ⟨kind, if r.argument.toNat / 512 % 2 = 1 then .body else .remote, false⟩ (entryHit i h r dt s)) := by
  have kinds : lockKindOfCode (r.argument.toNat % 16) = some kind ∧ kind ≠ .crashUnlock := by
    simp only [List.mem_cons, Prod.mk.injEq, List.not_mem_nil, or_false] at code
    rcases code with ⟨h, rfl⟩ | ⟨h, rfl⟩ | ⟨h, rfl⟩ | ⟨h, rfl⟩ | ⟨h, rfl⟩ <;> rw [h] <;> decide
  obtain ⟨known, plain⟩ := kinds
  have effect : performAction i r id data (entryHit i h r dt s) =
      arriveLock ⟨kind, if r.argument.toNat / 512 % 2 = 1 then .body else .remote, false⟩ (entryHit i h r dt s) := by
    rw [performs_request action, ruleRequest_lock known, ruleSource_plain plain]
  have relock : (if r.argument.toNat / 512 % 2 = 1 then LockSource.body else .remote) ≠ .autoRelock := by
    split <;> decide
  obtain ⟨last, idle, same⟩ := entryHit_eq i h r dt s
  have hits : Drives kind (entryHit i h r dt s) := by
    rw [same]
    exact drives
  refine d.acts_lock steady effect (entryHit_ready ready) relock plain hits (.refl _) ?_
  rw [same]
  exact steady.of_same rfl rfl rfl rfl rfl

theorem acts_release (code : r.argument.toNat % 16 = 6) (locked : (closure s .tg).target ≠ .unlocked) :
    AnswersActive (.bodyFrameReceived dt id data) s
      { entryHit i h r dt s with group := { s.group with lastRefusal := some .locked } } := by
  have hit := entryHit_steady (i := i) (h := h) (r := r) (dt := dt) steady
  obtain ⟨last, idle, same⟩ := entryHit_eq i h r dt s
  refine d.acts_after (effect := checkRelease) steady ?_ (fun _ _ => checkRelease_lively) (fun last' idle' => ?_) ?_
  · rw [performs_request action, ruleRequest_release code, releaseTailgate_awake hit.run (hit.awake hit.run)]
  · rw [checkRelease_locked (s := withActivity last' idle' (hitCounted i h (elapse dt s))) locked, same]
    rfl
  · rw [same]
    exact steady.of_same rfl rfl rfl rfl rfl

theorem next_crash (code : r.argument.toNat % 16 = 7) :
    ∃ u, exec (.bodyFrameReceived dt id data) s = .next u ∧ u.group.crashHold = some (s.now + dt) ∧
      u.group.tokens = s.group.tokens ∧ u.op.active = none ∧
      ∀ c, (closure u c).target = .unlocked ∧ (closure u c).lastSource = .crash := by
  have hit := entryHit_steady (i := i) (h := h) (r := r) (dt := dt) steady
  have known : lockKindOfCode (r.argument.toNat % 16) = some .crashUnlock := by rw [code]; rfl
  have effect : performAction i r id data (entryHit i h r dt s) = takeCrash (activity (entryHit i h r dt s)) := by
    rw [performs_request action, ruleRequest_lock known, arriveLock_crash_awake hit.run (hit.awake hit.run)]
  obtain ⟨v, lively⟩ := lively_activity hit.run (hit.awake hit.run)
  have acted : Lively v (takeCrash (activity (entryHit i h r dt s))) := takeCrash_lively lively
  have calm : Calm (activity (entryHit i h r dt s)) := Calm.of_agrees (activity_agreesWith _) hit.toCalm
  have done := takeCrash_done (activity (entryHit i h r dt s))
  have agrees := activity_agreesWith (entryHit i h r dt s)
  have now : (activity (entryHit i h r dt s)).now = s.now + dt :=
    (agrees.same State.now fun _ => rfl).trans (entryHit_same State.now fun _ => rfl)
  have group : (activity (entryHit i h r dt s)).group = s.group :=
    (agrees.same State.group fun _ => rfl).trans (entryHit_same State.group fun _ => rfl)
  refine ⟨takeCrash (activity (entryHit i h r dt s)), ?_, ?_, ?_, done.active, fun c => ⟨done.target c, done.source c⟩⟩
  · rw [d.next_steady steady, effect, finish_lively acted (acted.calm lively calm)]
  · rw [done.hold, now]
  · rw [done.tokens, group]

theorem acts_move {w : WindowId} {dir : Direction} {requested : Nat} (code : r.argument.toNat % 16 = 11)
    (mask : r.argument.toNat / 16 % 16 = 2 ^ windowCode w) (free : WindowFree w s)
    (counts : requested = (min 100 (extract r data) * (windowCfg s w).travel + 50) / 100)
    (within : requested ≤ (windowCfg s w).travel) (way : requestDirection requested (window s w).position = dir)
    (moves : LeftToMove dir (min requested (currentLimit s w)) (window s w).position) :
    AnswersActive (.bodyFrameReceived dt id data) s
      (waitingFor (s.now + dt) w requested dir .body (entryHit i h r dt s)) := by
  have hit := entryHit_steady (i := i) (h := h) (r := r) (dt := dt) steady
  obtain ⟨last, idle, same⟩ := entryHit_eq i h r dt s
  let q : WindowRequest := ⟨w, requested, .body, false⟩
  have travel : windowCfg (entryHit i h r dt s) w = windowCfg s w := entryHit_same (fun u => windowCfg u w) fun _ => rfl
  have all : min requested (windowCfg s w).travel = requested := Nat.min_eq_left within
  refine d.acts_after (effect := checkRequest q) steady ?_ (fun _ _ => checkRequest_lively q) (fun last' idle' => ?_) ?_
  · rw [performs_request action, ruleRequest_move code mask, requestMotion_awake hit.run (hit.awake hit.run),
      travel, ← counts]
  · let u : State := withActivity last' idle' (hitCounted i h (elapse dt s))
    have whole : requestedOf q u = requested := all
    rw [same]
    refine AgreeButActivity.trans (t := waitsFor q dir u) ?_ ?_
    · have freeHit : WindowFree w u := free.of_same rfl rfl rfl
      have waits : checkRequest q u = waitsFor q dir u := checkRequest_waits (r := q) freeHit
        (by rw [whole]; exact way) (by rw [whole]; exact moves)
      exact congrArg lessActivity waits
    · simp only [waitsFor, accepted, whole]
      rfl
  · rw [same]
    exact steady.of_same rfl rfl rfl rfl rfl

theorem acts_stop {w : WindowId} (code : r.argument.toNat % 16 = 12) (mask : r.argument.toNat / 16 % 16 = 2 ^ windowCode w)
    (clear : (window s w).clearPending = false)
    (out : (window s w).state = .movingManual ∨ (window s w).state = .movingAuto)
    (origin : (window s w).origin = some .body ∨ (window s w).origin = some .management)
    (mode : s.cfg.modes.get (windowClosure w) ≠ .forcedOff) :
    AnswersActive (.bodyFrameReceived dt id data) s (endedRunning w .stopped (entryHit i h r dt s)) := by
  have hit := entryHit_steady (i := i) (h := h) (r := r) (dt := dt) steady
  have switch : switchOrigin (window s w).origin = false := by rcases origin with h | h <;> rw [h] <;> rfl
  have operation : operationOrigin (window s w).origin = false := by rcases origin with h | h <;> rw [h] <;> rfl
  obtain ⟨last, idle, same⟩ := entryHit_eq i h r dt s
  refine d.acts_after (effect := stopEffect w) steady ?_ (fun v u lively => ?_) (fun last' idle' => ?_) ?_
  · rw [performs_request action, ruleRequest_stop code mask]
    exact stopWindow_run hit.run
  · unfold stopEffect
    (repeat' split) <;> simp [lively]
  · let u : State := withActivity last' idle' (hitCounted i h (elapse dt s))
    have sends : channelOff u (windowClosure w) = false := steady.alert.sends mode
    have ends : stopEffect w u = endedRunning w .stopped u := (stopEffect_ends (t := u) (.inr out) switch).trans
      (endMotion_plain (s := u) out operation (by simp) clear sends)
    rw [same, show stopEffect w (withActivity last' idle' (hitCounted i h (elapse dt s))) = _ from ends]
    rfl
  · rw [same]
    exact steady.of_same rfl rfl rfl rfl rfl

theorem acts_start (code : r.argument.toNat % 16 = 13) (held : s.group.crashHold.isSome) (noOp : s.op.active = none)
    (four : s.cfg.descriptors.length = 4) :
    AnswersActive (.bodyFrameReceived dt id data) s
      { entryHit i h r dt s with
        op := { s.op with lastStart := some ⟨.crashHold, r.argument.toNat / 1024 % 4, .body⟩ } } := by
  have inside : r.argument.toNat / 1024 % 4 < s.cfg.descriptors.length := by omega
  have found : s.cfg.descriptors[r.argument.toNat / 1024 % 4]? = some s.cfg.descriptors[r.argument.toNat / 1024 % 4] :=
    List.getElem?_eq_getElem inside
  have hit := entryHit_steady (i := i) (h := h) (r := r) (dt := dt) steady
  have cfg : (entryHit i h r dt s).cfg = s.cfg := entryHit_same State.cfg fun _ => rfl
  obtain ⟨last, idle, same⟩ := entryHit_eq i h r dt s
  refine d.acts steady ?_ ?_ ?_
  · rw [performs_request action, ruleRequest_start code, same]
    exact startOperation_held (s := withActivity last idle (hitCounted i h (elapse dt s))) steady.run noOp .body found held
  · rw [performs_request action, ruleRequest_start code]
    exact startOperation_noted hit.run (hit.awake hit.run) _ _ (by rw [cfg, found]; rfl)
  · rw [same]
    exact steady.of_same rfl rfl rfl rfl rfl

theorem acts_cancel (code : r.argument.toNat % 16 = 14) (noOp : s.op.active = none) :
    AnswersActive (.bodyFrameReceived dt id data) s (entryHit i h r dt s) := by
  have hit := entryHit_steady (i := i) (h := h) (r := r) (dt := dt) steady
  have on : running (entryHit i h r dt s) = true := by simp [running, hit.run]
  have op : (entryHit i h r dt s).op = s.op := entryHit_same State.op fun _ => rfl
  refine d.acts steady ?_ ?_ hit <;> rw [performs_request action, ruleRequest_cancel code]
  · exact cancelOperation_none hit.run (by rw [op]; exact noOp)
  · rw [cancelOperation, if_pos on]
    exact fresh_after (effect := fun u => abort .cancelled (crashTest u)) hit.run (hit.awake hit.run)
      fun v u lively => abort_lively _ (crashTest_lively lively)

end Decided
end

end Sys2Proof.Machine
end

section
/-!
PROOFS. A SEARCH entry (R120 to R124, R126): the slot that a response closes, and the outcome of the search.
-/

namespace Sys2Proof.Machine

/-! ## The first of a numbered list -/

section
variable {α β : Type} {l : List α} {f : α × Nat → Option β}

theorem findSome_zipIdx {k : Nat} {a : α} {b : β} (here : l[k]? = some a) (found : f (a, k) = some b)
    (before : ∀ j c, j < k → l[j]? = some c → f (c, j) = none) : l.zipIdx.findSome? f = some b := by
  have place : l.zipIdx[k]? = some (a, k) := by simp [List.getElem?_zipIdx, here]
  obtain ⟨inside, same⟩ := List.getElem?_eq_some_iff.mp place
  refine List.findSome?_eq_some_iff.mpr ⟨l.zipIdx.take k, (a, k), l.zipIdx.drop (k + 1), ?_, found, fun p hp => ?_⟩
  · rw [← same, List.cons_getElem_drop_succ, List.take_append_drop]
  · obtain ⟨j, hj⟩ := List.mem_iff_getElem?.mp hp
    have near : j < k := by
      by_contra far
      simp [far] at hj
    rw [List.getElem?_take_of_lt near, List.getElem?_zipIdx] at hj
    obtain ⟨c, hc, rfl⟩ := Option.map_eq_some_iff.mp hj
    simpa using before j c near hc

theorem findSome_zipIdx_none (none_ : ∀ j c, l[j]? = some c → f (c, j) = none) : l.zipIdx.findSome? f = none := by
  refine List.findSome?_eq_none_iff.mpr fun p hp => ?_
  obtain ⟨j, hj⟩ := List.mem_iff_getElem?.mp hp
  rw [List.getElem?_zipIdx] at hj
  obtain ⟨c, hc, rfl⟩ := Option.map_eq_some_iff.mp hj
  simpa using none_ j c hc

end

/-! ## Eligible fobs (R121) -/

/-- The bitmap names the fob of the index, which is ACTIVE and has passive allowed. -/
def KeyAt (s : State) (bits k : Nat) : Prop :=
  bits / 2 ^ k % 2 = 1 ∧ ∃ f, s.cfg.fobs[k]? = some f ∧ f.state = .active ∧ f.passiveAllowed = true

section
variable {s : State} {bits k : Nat}

theorem eligible_iff {j : Nat} {f : Fob} (here : s.cfg.fobs[j]? = some f) :
    (bitOf bits j && f.state == .active && f.passiveAllowed : Bool) = true ↔ KeyAt s bits j := by
  simp [KeyAt, here, bitOf_iff, and_assoc]

theorem firstEligible_some (key : KeyAt s bits k) (first : ∀ j, j < k → ¬KeyAt s bits j) :
    firstEligible s bits = some k := by
  obtain ⟨f, here, -⟩ := key.2
  refine findSome_zipIdx here (if_pos ((eligible_iff here).mpr key)) fun j g near there => if_neg ?_
  exact fun is => first j near ((eligible_iff there).mp is)

theorem firstEligible_none (none_ : ∀ k, ¬KeyAt s bits k) : firstEligible s bits = none :=
  findSome_zipIdx_none fun j _ there => if_neg fun is => none_ j ((eligible_iff there).mp is)

/-! ## The slot of a response (R113, R120, R126) -/

/-- The slot closed, with the last search record. -/
def slotClosed (n : Nat) (y : SearchSlot) (outcome : SearchOutcome) (who : Option Nat) (s : State) : State :=
  { s with search := { s.search with
      slots := s.search.slots.set n none, last := some ⟨y.closure, y.purpose, y.tag, outcome, who⟩ } }

section
variable {n : Nat} {y : SearchSlot} {outcome : SearchOutcome} {who : Option Nat}

theorem closeSlot_quiet (inside : outcome ≠ .keyInside) (error : outcome ≠ .moduleError) :
    closeSlot n y outcome who s = slotClosed n y outcome who s := by
  simp [closeSlot, inside, error, setSlot, slotClosed]

theorem closeSlot_notice (run : s.stage = .run) (room : s.tx.length < Config.txPlaces)
    (told : outcome = .keyInside ∨ outcome = .moduleError) :
    closeSlot n y outcome who s =
      { slotClosed n y outcome who s with
        tx := s.tx ++ [⟨.other, s.mgmt.base + 2#11,
          searchNoticeData ⟨y.closure, y.purpose, y.tag, outcome, who⟩, false⟩] } := by
  have sends : (outcome == .keyInside || outcome == .moduleError) = true := by rcases told with rfl | rfl <;> rfl
  exact (if_pos sends).trans (offerNotice_room (s := slotClosed n y outcome who s) run room)

theorem slotOf_tag {x : SearchResponse} (only : OnlySlot n y s) (tag : y.tag = x.tag) :
    (s.search.slots.zipIdx.findSome? fun p => p.1.bind fun z => if z.tag == x.tag then some (p.2, z) else none) =
      some (n, y) := by
  refine findSome_zipIdx only.1 (by simp [tag]) fun j z near there => ?_
  cases z with
  | none => rfl
  | some z =>
    have inside : j < s.search.slots.length := (List.getElem?_eq_some_iff.mp there).1
    have other : z.tag ≠ x.tag := tag ▸ only.2 j (List.mem_range.mpr inside) near.ne z there
    simp [other]

theorem takeResponse_found {x : SearchResponse} (run : s.stage = .run) (only : OnlySlot n y s) (tag : y.tag = x.tag) :
    takeResponse x s =
      if x.error then closeSlot n y .moduleError none s else searchOutcome n y x.outside x.inside s := by
  have on : (!running s) = false := by simp [running, run]
  unfold takeResponse
  rw [slotOf_tag only tag]
  simp only [on, Bool.false_eq_true, if_false]

theorem takeResponse_late {x : SearchResponse} (run : s.stage = .run)
    (absent : ∀ y ∈ s.search.slots, ∀ z, y = some z → z.tag ≠ x.tag) : takeResponse x s = raise .late none s := by
  have on : (!running s) = false := by simp [running, run]
  have noSlot : (s.search.slots.zipIdx.findSome? fun p =>
      p.1.bind fun z => if z.tag == x.tag then some (p.2, z) else none) = none := by
    refine findSome_zipIdx_none fun j z there => ?_
    cases z with
    | none => rfl
    | some z => simp [absent (some z) (List.mem_of_getElem? there) z rfl]
  unfold takeResponse
  rw [noSlot]
  simp only [on, Bool.false_eq_true, if_false]

/-! ## The outcome of the search (R122 to R124) -/

theorem searchOutcome_noKey {outside inside : Nat} (noneOut : ∀ k, ¬KeyAt s outside k)
    (noneIn : y.purpose = .lock → ∀ k, ¬KeyAt s inside k) :
    searchOutcome n y outside inside s = slotClosed n y .noKey none s := by
  have out := firstEligible_none noneOut
  rw [← closeSlot_quiet (by simp) (by simp)]
  cases purpose : y.purpose with
  | unlock => simp [searchOutcome, purpose, out]
  | tailgate => simp [searchOutcome, purpose, out]
  | lock => simp [searchOutcome, purpose, out, firstEligible_none (noneIn purpose)]

/-- The request that a fob outside makes of a search. -/
def OutsideKind (s : State) (y : SearchSlot) (f : Fob) (kind : LockKind) : Prop :=
  y.purpose = .unlock ∧ y.closure = driverClosure s ∧ f.mode = .driverFirst ∧ kind = .unlockDriver ∨
    y.purpose = .unlock ∧ (y.closure ≠ driverClosure s ∨ f.mode = .all) ∧ kind = .unlockAll ∨
    y.purpose = .tailgate ∧ kind = .unlockTailgate ∨ y.purpose = .lock ∧ kind = .lockAll

theorem searchOutcome_outside {outside inside : Nat} {f : Fob} {kind : LockKind} (key : KeyAt s outside k)
    (first : ∀ j, j < k → ¬KeyAt s outside j) (here : s.cfg.fobs[k]? = some f)
    (noneIn : y.purpose = .lock → ∀ j, ¬KeyAt s inside j) (kinds : OutsideKind s y f kind) :
    searchOutcome n y outside inside s =
      arriveLock ⟨kind, .passive, y.purpose == .tailgate⟩ (slotClosed n y .keyOutside (some k) s) := by
  have out := firstEligible_some key first
  have found : fob s k = f := fob_of_getElem here
  have unlocks : (Purpose.unlock == .tailgate) = false := rfl
  have locks : (Purpose.lock == .tailgate) = false := rfl
  rw [← closeSlot_quiet (by simp) (by simp)]
  rcases kinds with ⟨purpose, door, mode, rfl⟩ | ⟨purpose, other, rfl⟩ | ⟨purpose, rfl⟩ | ⟨purpose, rfl⟩
  · simp [searchOutcome, purpose, out, unlockKind, door, found, mode, unlocks]
  · have all : (y.closure == driverClosure s && (fob s k).mode == .driverFirst) = false := by
      rw [found]
      rcases other with h | h <;> simp [h]
    simp [searchOutcome, purpose, out, unlockKind, all, unlocks]
  · simp [searchOutcome, purpose, out]
  · simp [searchOutcome, purpose, out, firstEligible_none (noneIn purpose), locks]

theorem searchOutcome_inside {outside inside : Nat} (lock : y.purpose = .lock) (key : KeyAt s inside k)
    (first : ∀ j, j < k → ¬KeyAt s inside j) :
    searchOutcome n y outside inside s = closeSlot n y .keyInside (some k) (refuseKeyInside s) := by
  have found := firstEligible_some key first
  cases out : firstEligible s outside <;> simp [searchOutcome, lock, out, found]

theorem refuseKeyInside_eq (s : State) : refuseKeyInside s =
    { s with group := { s.group with lastRefusal := some .keyInside }, timed := some ⟨.fast, s.now + 3000⟩ } := by
  rw [refuseKeyInside, refuseLock_eq (by simp)]
  rfl

end
end

/-! ## The commands -/

section
variable {dt i h : Nat} {r : Rule} {id : CanId} {data : List Byte} {s : State} {x : SearchResponse}

theorem performs_search (action : r.action = .search) (reads : readSearchResponse data = some x) (u : State) :
    performAction i r id data u = takeResponse x u := by simp [performAction, action, reads]

namespace Decided
variable (d : Decided i h r id data s) (steady : Steady s) (action : r.action = .search)
  (reads : readSearchResponse data = some x)
include d steady action reads

theorem search_late (absent : ∀ y ∈ s.search.slots, ∀ z, y = some z → z.tag ≠ x.tag) (places : s.faults.length = 14) :
    ∃ u, exec (.bodyFrameReceived dt id data) s = .next u ∧ u.search = s.search ∧ u.group = s.group ∧
      (faultRecord u .late).count = min 255 ((faultRecord s .late).count + 1) := by
  have hit := entryHit_steady (i := i) (h := h) (r := r) (dt := dt) steady
  have search : (entryHit i h r dt s).search = s.search := entryHit_same State.search fun _ => rfl
  have effect : performAction i r id data (entryHit i h r dt s) = raise .late none (entryHit i h r dt s) := by
    rw [performs_search action reads, takeResponse_late hit.run (by rw [search]; exact absent)]
  obtain ⟨u, next, -, -, same, group, -, count, -⟩ := d.next_raises steady (dt := dt) (by decide) places effect
  exact ⟨u, next, same, group, count⟩

variable {m : Nat} {y : SearchSlot} (only : OnlySlot m y s) (tag : y.tag = x.tag)
include only tag

omit d in
/-- The response closes the slot of its tag. -/
theorem performs_response (last idle : Nat) :
    let u : State := withActivity last idle (hitCounted i h (elapse dt s))
    performAction i r id data u =
      if x.error then closeSlot m y .moduleError none u else searchOutcome m y x.outside x.inside u := by
  intro u
  rw [performs_search action reads]
  exact takeResponse_found (s := u) steady.run only tag

theorem answers_moduleError (error : x.error = true) (room : s.tx.length < 16) :
    Answers (.bodyFrameReceived dt id data) s
      { slotClosed m y .moduleError none (entryHit i h r dt s) with
        tx := s.tx ++ [⟨.other, s.mgmt.base + 2#11,
          searchNoticeData ⟨y.closure, y.purpose, y.tag, .moduleError, none⟩, false⟩] } := by
  obtain ⟨last, idle, same⟩ := entryHit_eq i h r dt s
  refine d.answers steady ?_ ?_ <;> rw [same]
  · have closed := closeSlot_notice (n := m) (y := y) (who := none) (outcome := .moduleError)
      (s := withActivity last idle (hitCounted i h (elapse dt s))) steady.run room (.inr rfl)
    rw [performs_response steady action reads only tag last idle, if_pos error, closed]
    rfl
  · exact steady.toCalm.of_same rfl rfl rfl rfl rfl

theorem answers_noKey (fine : x.error = false) (noneOut : ∀ k, ¬KeyAt s x.outside k)
    (noneIn : y.purpose = .lock → ∀ k, ¬KeyAt s x.inside k) :
    Answers (.bodyFrameReceived dt id data) s (slotClosed m y .noKey none (entryHit i h r dt s)) := by
  obtain ⟨last, idle, same⟩ := entryHit_eq i h r dt s
  refine d.answers steady ?_ ?_ <;> rw [same]
  · have closed := searchOutcome_noKey (n := m) (y := y) (outside := x.outside) (inside := x.inside)
      (s := withActivity last idle (hitCounted i h (elapse dt s))) noneOut noneIn
    rw [performs_response steady action reads only tag last idle, if_neg (by simp [fine]), closed]
    rfl
  · exact steady.toCalm.of_same rfl rfl rfl rfl rfl

theorem acts_outside {k : Nat} {f : Fob} {kind : LockKind} (fine : x.error = false) (key : KeyAt s x.outside k)
    (first : ∀ j, j < k → ¬KeyAt s x.outside j) (here : s.cfg.fobs[k]? = some f)
    (noneIn : y.purpose = .lock → ∀ j, ¬KeyAt s x.inside j) (ready : LockReady s) (drives : Drives kind s)
    (kinds : OutsideKind s y f kind) :
    AnswersActive (.bodyFrameReceived dt id data) s
      (lockTaken 0 ⟨kind, .passive, y.purpose == .tailgate⟩
        (slotClosed m y .keyOutside (some k) (entryHit i h r dt s))) := by
  have plain : kind ≠ .crashUnlock := by
    rcases kinds with ⟨-, -, -, rfl⟩ | ⟨-, -, rfl⟩ | ⟨-, rfl⟩ | ⟨-, rfl⟩ <;> decide
  obtain ⟨last, idle, same⟩ := entryHit_eq i h r dt s
  let u : State := withActivity last idle (hitCounted i h (elapse dt s))
  have effect : performAction i r id data (entryHit i h r dt s) =
      arriveLock ⟨kind, .passive, y.purpose == .tailgate⟩ (slotClosed m y .keyOutside (some k) u) := by
    rw [same]
    refine (performs_response steady action reads only tag last idle).trans ((if_neg (by simp [fine])).trans ?_)
    exact searchOutcome_outside (s := u) key first here noneIn kinds
  have readyU : LockReady (slotClosed m y .keyOutside (some k) u) :=
    ready.of_fields (ready.alert.of_same rfl rfl rfl rfl rfl rfl) ready.room rfl rfl rfl rfl
  refine d.acts_lock steady effect readyU (by simp) plain drives ?_ ?_ <;> rw [same]
  · exact .refl _
  · exact steady.of_same rfl rfl rfl rfl rfl

theorem answers_inside {k : Nat} (fine : x.error = false) (lock : y.purpose = .lock) (key : KeyAt s x.inside k)
    (first : ∀ j, j < k → ¬KeyAt s x.inside j) (room : s.tx.length < 16) :
    Answers (.bodyFrameReceived dt id data) s
      { slotClosed m y .keyInside (some k) (entryHit i h r dt s) with
        tx := s.tx ++ [⟨.other, s.mgmt.base + 2#11,
          searchNoticeData ⟨y.closure, y.purpose, y.tag, .keyInside, some k⟩, false⟩]
        group := { s.group with lastRefusal := some .keyInside }
        timed := some ⟨.fast, s.now + dt + 3000⟩ } := by
  obtain ⟨last, idle, same⟩ := entryHit_eq i h r dt s
  refine d.answers steady ?_ ?_ <;> rw [same]
  · have closed := searchOutcome_inside (n := m) (outside := x.outside)
      (s := withActivity last idle (hitCounted i h (elapse dt s))) lock key first
    rw [performs_response steady action reads only tag last idle, if_neg (by simp [fine]), closed, refuseKeyInside_eq]
    refine congrArg lessActivity (closeSlot_notice ?_ ?_ (.inl rfl))
    · exact steady.run
    · exact room
  · exact steady.toCalm.of_same rfl rfl rfl rfl rfl

end Decided
end

end Sys2Proof.Machine
end

section
/-!
PROOFS. The telegram of a FOB entry (R101 to R108): an accepted press acts on its button, and a counted repeat moves the
hold, starts the comfort operation or renews its lease.
-/

namespace Sys2Proof.Machine

/-! ## The button of an accepted press (R102 to R104) -/

section
variable {k : Nat} {s : State} (ready : LockReady s)
include ready

theorem fobLock_drives {kind : LockKind} (release : Bool) (plain : kind ≠ .crashUnlock) (drives : Drives kind s) :
    AgreeButActivity (fobLock kind release s) (lockTaken 0 ⟨kind, .fob, release⟩ s) :=
  arriveLock_drives (r := ⟨kind, .fob, release⟩) ready (.inl (by simp)) plain drives

theorem lockPress_taken {kind : LockKind} (is : kind = if doubleLockOf k s then .deadlockAll else .lockAll)
    (drives : Drives kind s) :
    let taken := lockTaken 0 ⟨kind, .fob, false⟩ s
    AgreeButActivity (pressButton k .lock s)
      { taken with group := { taken.group with doubleLock := some ⟨k, s.now + 1500⟩ } } := by
  intro taken
  have plain : kind ≠ .crashUnlock := by
    rw [is]
    split <;> decide
  have pressed := (fobLock_drives ready false plain drives).eq
  change AgreeButActivity (lockPress k s) _
  unfold lockPress
  rw [← is, pressed]
  rfl

theorem unlockPress_all (mode : (fob s k).mode = .all) (drives : Drives .unlockAll s) :
    AgreeButActivity (pressButton k .unlock s) (lockTaken 0 ⟨.unlockAll, .fob, false⟩ s) := by
  have pressed : pressButton k .unlock s = fobLock .unlockAll false s := by simp [pressButton, unlockPress, mode]
  rw [pressed]
  exact fobLock_drives ready false (by simp) drives

theorem unlockPress_driverFirst {kind : LockKind} (mode : (fob s k).mode = .driverFirst)
    (is : kind = if live s.now s.group.driverFirst then .unlockAll else .unlockDriver) (drives : Drives kind s) :
    let taken := lockTaken 0 ⟨kind, .fob, false⟩ s
    AgreeButActivity (pressButton k .unlock s)
      { taken with group := { taken.group with driverFirst := some (s.now + 3000) } } := by
  intro taken
  have plain : kind ≠ .crashUnlock := by
    rw [is]
    split <;> decide
  have pressed := (fobLock_drives ready false plain drives).eq
  change AgreeButActivity (unlockPress k s) _
  unfold unlockPress
  rw [mode]
  dsimp only
  rw [← is, pressed]
  rfl

end

theorem doubleLockOf_iff (k : Nat) (s : State) :
    doubleLockOf k s = true ↔ ∃ w, s.group.doubleLock = some w ∧ w.fob = k ∧ s.now ≤ w.deadline := by
  unfold doubleLockOf
  cases s.group.doubleLock <;> simp [live]

/-! ## A counted repeat (R105, R107, R108) -/

/-- The hold moved on by a counted repeat, with the record of the telegram. -/
def repeatMoved (k : Nat) (q : FobRun) (t : Telegram) (hold : Hold) (started : Bool) (s : State) : State :=
  { s with
    fobRun := s.fobRun.set k { q with batteryLow := t.batteryLow }
    key := { s.key with
      hold := some { hold with
        lastCounted := t.repeatNumber, deadline := s.now + 300, operationStarted := started }
      lastTelegram := some ⟨t.serial, t.button, t.repeatNumber, some k, .repeatCounted⟩ } }

/-- A repeat that the hold counts. -/
structure RepeatCounts (k : Nat) (f : Fob) (t : Telegram) (hold : Hold) (s : State) : Prop where
  repeats : 0 < t.repeatNumber
  held : s.key.hold = some hold
  fob : hold.fob = k
  button : hold.button = t.button
  counter : hold.counter = t.counter
  accepted : f.accepted = some t.counter
  live : s.now ≤ hold.deadline
  onward : hold.lastCounted < t.repeatNumber ∨ t.repeatNumber = 255

/-- The repeat is the one that starts the comfort operation of its button. -/
def comfortStarts (f : Fob) (t : Telegram) (hold : Hold) : Bool :=
  hold.lastCounted < 8 && 8 ≤ t.repeatNumber && !hold.operationStarted && !hold.comfortCleared && f.comfortAllowed &&
    (comfortDescriptor hold.button).isSome

section
variable {k : Nat} {f : Fob} {q : FobRun} {t : Telegram} {hold : Hold} {s : State}

theorem takeTelegram_counted (found : FobFound k f q t s) (counts : RepeatCounts k f t hold s) :
    takeTelegram t s = countRepeat k t hold s := by
  have own : Machine.fob s k = f := fob_of_getElem found.fob
  have yes : countsRepeat s.now k f t hold = true := by
    have onward : (Decidable.decide (hold.lastCounted < t.repeatNumber) || t.repeatNumber == 255) = true := by
      simpa using counts.onward
    have living : Machine.live s.now (some hold.deadline) = true := (live_iff _ _).mpr ⟨_, rfl, counts.live⟩
    simp only [countsRepeat, living, counts.fob, counts.button, counts.counter, counts.accepted, beq_self_eq_true,
      Bool.and_self, Bool.true_and]
    exact onward
  rw [takeTelegram_found found, if_neg (by have := counts.repeats; omega)]
  unfold repeatTelegram
  rw [counts.held, own]
  exact if_pos yes

theorem countRepeat_eq (here : s.cfg.fobs[k]? = some f) (runs : s.fobRun[k]? = some q) :
    countRepeat k t hold s =
      (fun u => match comfortDescriptor hold.button with
        | none => u
        | some d => if comfortStarts f t hold then startOperation d (.fob k) u
          else if hold.operationStarted then renewLease k d u else u)
        (repeatMoved k q t hold (hold.operationStarted || comfortStarts f t hold) s) := by
  have own : Machine.fob s k = f := fob_of_getElem here
  have run : Machine.fobRun (noteTelegram t (some k) .repeatCounted s) k = q := fobRun_of_getElem runs
  unfold countRepeat
  dsimp only
  rw [run, own]
  rfl

theorem countRepeat_moves (here : s.cfg.fobs[k]? = some f) (runs : s.fobRun[k]? = some q)
    (none_ : hold.button = .tailgate ∨ hold.operationStarted = false ∧ comfortStarts f t hold = false) :
    countRepeat k t hold s = repeatMoved k q t hold hold.operationStarted s := by
  rw [countRepeat_eq here runs]
  rcases none_ with tailgate | ⟨unstarted, stays⟩
  · have stays : comfortStarts f t hold = false := by simp [comfortStarts, tailgate, comfortDescriptor]
    simp [tailgate, comfortDescriptor, stays]
  · simp only [stays, unstarted, Bool.false_eq_true, if_false, Bool.or_false]
    split <;> rfl

theorem countRepeat_starts {d : Nat} (here : s.cfg.fobs[k]? = some f) (runs : s.fobRun[k]? = some q)
    (starts : comfortStarts f t hold = true) (own : comfortDescriptor hold.button = some d) :
    countRepeat k t hold s = startOperation d (.fob k) (repeatMoved k q t hold true s) := by
  rw [countRepeat_eq here runs]
  simp only [starts, own, if_true, Bool.or_true]

theorem countRepeat_renews {d : Nat} (here : s.cfg.fobs[k]? = some f) (runs : s.fobRun[k]? = some q)
    (started : hold.operationStarted = true) (own : comfortDescriptor hold.button = some d) :
    countRepeat k t hold s = renewLease k d (repeatMoved k q t hold true s) := by
  have stays : comfortStarts f t hold = false := by simp [comfortStarts, started]
  rw [countRepeat_eq here runs]
  simp only [stays, own, started, if_true, Bool.false_eq_true, if_false, Bool.or_false]

end

/-! ## The operation of a held button (R107, R130 C, R136) -/

theorem startOperation_disabled {s : State} {i : Nat} {d : Descriptor} (run : s.stage = .run) (noOp : s.op.active = none)
    (free : s.group.crashHold = none) (source : OpSource) (found : s.cfg.descriptors[i]? = some d)
    (off : d.enabled = false) :
    AgreeButActivity (startOperation i source s)
      { s with op := { s.op with lastStart := some ⟨.disabled, i, source⟩ } } := by
  obtain ⟨last, idle, active⟩ := activity_eq s
  have on : (!running s) = false := by simp [running, run]
  have tested : crashTest (withActivity last idle s) = withActivity last idle s := crashTest_free free
  have result : decideStart i d source (withActivity last idle s) = .disabled := by
    simp [decideStart, withActivity, free, noOp, off]
  unfold startOperation
  simp only [on, found, active, tested, result, Bool.false_eq_true, if_false]
  exact withActivity_agrees last idle { s with op := { s.op with lastStart := some ⟨.disabled, i, source⟩ } }

theorem renewLease_moves {s : State} {k i e : Nat} {op : ActiveOp} (free : s.group.crashHold = none)
    (active : s.op.active = some op) (source : op.source = .fob k) (own : op.descriptor = i) (lease : op.lease = some e)
    (live : s.now ≤ e) :
    renewLease k i s = { s with op := { s.op with active := some { op with lease := some (s.now + 300) } } } := by
  have holder : sameHolder op i (.fob k) = true := by simp [sameHolder, source, own]
  have moved : moveLease s.now op = { op with lease := some (s.now + 300) } :=
    if_pos ((live_iff _ _).mpr ⟨e, lease, live⟩)
  unfold renewLease
  simp only [crashTest_free free, active, holder, if_true, moved]

/-! ## A telegram keeps the part calm -/

section
variable {s : State} (run : s.stage = .run) (calm : Calm s)
include run calm

theorem activity_then_calm {u t : State} (agrees : AgreeButActivity s u)
    (keeps : ∀ v, Lively v (activity u) → Lively v t) : Calm t := by
  have calmU : Calm u := calm.of_agrees agrees.symm
  have runU : u.stage = .run := (agrees.same State.stage fun _ => rfl).symm.trans run
  obtain ⟨v, lively⟩ := lively_activity runU (calmU.awake runU)
  exact (keeps v lively).calm lively (Calm.of_agrees (activity_agreesWith u) calmU)

end

theorem Calm.startOperation {s : State} (calm : Calm s) (run : s.stage = .run) (i : Nat) (source : OpSource) :
    Calm (startOperation i source s) := by
  by_cases found : s.cfg.descriptors[i]?.isSome
  · refine activity_then_calm run calm (.refl s) fun v lively => ?_
    rw [← startOperation_again run (calm.awake run) i source found]
    exact startOperation_lively i source lively
  · have same : Machine.startOperation i source s = s := by
      rw [Option.not_isSome_iff_eq_none] at found
      unfold Machine.startOperation
      simp only [found, ite_self]
    rw [same]
    exact calm

theorem Calm.renewLease {s : State} (calm : Calm s) (k i : Nat) : Calm (renewLease k i s) := by
  have tested : Calm (crashTest s) := by
    unfold crashTest
    split
    · exact calm.of_motion (abort_lessMotion ..)
    · exact calm
  unfold Machine.renewLease
  dsimp only
  generalize crashTest s = t at tested ⊢
  (repeat' split)
  · exact tested
  · exact tested.of_same rfl rfl rfl rfl rfl
  · exact tested

/-- A telegram that reaches a calm part in RUN leaves it calm. -/
theorem Calm.takeTelegram {s : State} (calm : Calm s) (run : s.stage = .run) (t : Telegram) : Calm (takeTelegram t s) := by
  have noted (k : Option Nat) (result : TelegramResult) : Calm (noteTelegram t k result s) :=
    calm.of_same rfl rfl rfl rfl rfl
  have pressed (k : Nat) (result : TelegramResult) : Calm (acceptPress k t (noteTelegram t (some k) result s)) := by
    let u : State := noteTelegram t (some k) result s
    let w : State := setHold (some ⟨k, t.button, t.counter, 0, false, s.now + Config.fobHoldTime, false⟩)
      (setFobRun k ⟨none, t.batteryLow⟩ (setFob k { fob u k with accepted := some t.counter } u))
    have calmW : Calm w := calm.of_same rfl rfl rfl rfl rfl
    exact activity_then_calm (s := w) run calmW (.refl w) fun v lively =>
      pressButton_lively k t.button (wake_lively .fob lively)
  have counted (k : Nat) (hold : Hold) : Calm (countRepeat k t hold s) := by
    unfold countRepeat noteTelegram setFobRun setHold
    dsimp only
    (repeat' split)
    · exact calm.of_same rfl rfl rfl rfl rfl
    · refine Calm.startOperation ?_ ?_ _ _
      · exact calm.of_same rfl rfl rfl rfl rfl
      · exact run
    · refine Calm.renewLease ?_ _ _
      exact calm.of_same rfl rfl rfl rfl rfl
    · exact calm.of_same rfl rfl rfl rfl rfl
  have first (k : Nat) : Calm (firstPress k t s) := by
    unfold firstPress
    dsimp only
    split
    · exact calm.of_same rfl rfl rfl rfl rfl
    · exact (noted (some k) _).of_motion (lessMotion_of_traffic (raise_rest ..))
    · exact pressed k _
  have repeats (k : Nat) : Calm (repeatTelegram k t s) := by
    unfold repeatTelegram
    (repeat' split)
    · exact counted k _
    · exact noted ..
    · exact noted ..
  unfold Machine.takeTelegram
  (repeat' split)
  · exact calm
  · exact calm.of_same rfl rfl rfl rfl rfl
  · exact calm.of_same rfl rfl rfl rfl rfl
  · exact first _
  · exact repeats _

end Sys2Proof.Machine
end

section
/-!
PROOFS. The commands of a FOB entry in a steady part (R97, R101 to R108, R153).
-/

namespace Sys2Proof.Machine

section
variable {dt i h : Nat} {r : Rule} {id : CanId} {data : List Byte} {s : State} {t : Telegram}

theorem performs_fob (action : r.action = .fob) (reads : readTelegram data = some t) (u : State) :
    performAction i r id data u = takeTelegram t u := by simp [performAction, action, reads]

/-- A fob of the part that may act on a telegram, and its accepted counter. -/
structure Acts (k : Nat) (f : Fob) (q : FobRun) (t : Telegram) (s : State) : Prop where
  fob : s.cfg.fobs[k]? = some f
  fobRun : s.fobRun[k]? = some q
  active : f.state = .active
  remote : f.remoteAllowed = true
  serial : f.serial = t.serial
  first : ∀ j g, j < k → s.cfg.fobs[j]? = some g → g.state ≠ .empty → g.serial ≠ t.serial

namespace Decided
variable (d : Decided i h r id data s) (steady : Steady s) (action : r.action = .fob)
  (reads : readTelegram data = some t)
include d steady action reads

theorem answers_telegram : Answers (.bodyFrameReceived dt id data) s (takeTelegram t (entryHit i h r dt s)) := by
  have hit := entryHit_steady (i := i) (h := h) (r := r) (dt := dt) steady
  refine d.answers steady ?_ (hit.toCalm.takeTelegram hit.run t)
  rw [performs_fob action reads]
  exact .refl _

variable {k : Nat} {f : Fob} {q : FobRun} (acts : Acts k f q t s)
include acts

omit d action reads in
theorem found_hit (last idle : Nat) :
    FobFound k f q t (withActivity last idle (hitCounted i h (elapse dt s))) :=
  ⟨steady.run, acts.fob, acts.fobRun, acts.active, acts.remote, acts.serial, acts.first⟩

/-- An accepted press acts on its button upon the records that it writes. -/
theorem acts_press {pressed result : State} {a : Nat} (accepted : f.accepted = some a) (small : a < 1048576)
    (press : t.repeatNumber = 0) (low : 1 ≤ (t.counter + 1048576 - a) % 1048576)
    (high : (t.counter + 1048576 - a) % 1048576 ≤ s.cfg.key.forwardWindow)
    (is : pressed = { entryHit i h r dt s with
      cfg := { s.cfg with fobs := s.cfg.fobs.set k { f with accepted := some t.counter } }
      fobRun := s.fobRun.set k ⟨none, t.batteryLow⟩
      key := { s.key with
        hold := some ⟨k, t.button, t.counter, 0, false, s.now + dt + 300, false⟩
        lastTelegram := some ⟨t.serial, t.button, t.repeatNumber, some k, .accepted⟩ } })
    (ready : LockReady s)
    (takes : ∀ v, LockReady v → AgreeButActivity v pressed → AgreeButActivity (pressButton k t.button v) result)
    (calm : Steady result) : AnswersActive (.bodyFrameReceived dt id data) s result := by
  obtain ⟨last, idle, same⟩ := entryHit_eq i h r dt s
  let u : State := withActivity last idle (hitCounted i h (elapse dt s))
  have found : FobFound k f q t u := found_hit steady acts last idle
  have awake : (activity (pressTaken k f t u)).ctx.state = .awake :=
    (activity_state (pressTaken k f t u)).trans (steady.awake steady.run)
  have effect : performAction i r id data (entryHit i h r dt s) =
      pressButton k t.button (activity (pressTaken k f t u)) := by
    rw [performs_fob action reads, same, show takeTelegram t (withActivity last idle (hitCounted i h (elapse dt s))) = _ from
      takeTelegram_accepted found press (judgePress_accepted accepted small low high), acceptPress_eq found.fob,
      wake_awake .fob awake]
  have readyU : LockReady (activity (pressTaken k f t u)) := by
    obtain ⟨last', idle', active⟩ := activity_eq (pressTaken k f t u)
    rw [active]
    exact ready.of_fields (ready.alert.of_same rfl rfl rfl rfl rfl rfl) ready.room rfl rfl rfl rfl
  have agrees : AgreeButActivity (activity (pressTaken k f t u)) pressed := by
    refine (activity_agreesWith _).trans ?_
    rw [is, same]
    rfl
  refine d.acts steady ?_ ?_ calm <;> rw [effect]
  · exact takes _ readyU agrees
  · exact fresh_after (effect := pressButton k t.button) (s := pressTaken k f t u) steady.run (steady.awake steady.run)
      fun v _ lively => pressButton_lively k t.button lively

variable {hold : Hold} (counts : RepeatCounts k f t hold (elapse dt s))
include counts

omit d in
theorem performs_repeat (last idle : Nat) :
    performAction i r id data (withActivity last idle (hitCounted i h (elapse dt s))) =
      countRepeat k t hold (withActivity last idle (hitCounted i h (elapse dt s))) := by
  rw [performs_fob action reads]
  exact takeTelegram_counted (found_hit steady acts last idle)
    ⟨counts.repeats, counts.held, counts.fob, counts.button, counts.counter, counts.accepted, counts.live, counts.onward⟩

theorem answers_repeat (none_ : hold.button = .tailgate ∨ hold.operationStarted = false ∧ comfortStarts f t hold = false) :
    Answers (.bodyFrameReceived dt id data) s (repeatMoved k q t hold hold.operationStarted (entryHit i h r dt s)) := by
  obtain ⟨last, idle, same⟩ := entryHit_eq i h r dt s
  refine d.answers steady ?_ ?_ <;> rw [same]
  · rw [performs_repeat steady action reads acts counts,
      countRepeat_moves (s := withActivity last idle (hitCounted i h (elapse dt s))) acts.fob acts.fobRun none_]
    exact .refl _
  · exact steady.toCalm.of_same rfl rfl rfl rfl rfl

theorem acts_disabled {n : Nat} {c : Descriptor} (starts : comfortStarts f t hold = true)
    (own : comfortDescriptor hold.button = some n) (there : s.cfg.descriptors[n]? = some c) (off : c.enabled = false)
    (free : s.group.crashHold = none) (noOp : s.op.active = none) :
    AnswersActive (.bodyFrameReceived dt id data) s
      { repeatMoved k q t hold true (entryHit i h r dt s) with
        op := { s.op with lastStart := some ⟨.disabled, n, .fob k⟩ } } := by
  obtain ⟨last, idle, same⟩ := entryHit_eq i h r dt s
  let u : State := repeatMoved k q t hold true (withActivity last idle (hitCounted i h (elapse dt s)))
  have effect : performAction i r id data (entryHit i h r dt s) = startOperation n (.fob k) u := by
    rw [same, performs_repeat steady action reads acts counts]
    exact countRepeat_starts acts.fob acts.fobRun starts own
  refine d.acts steady ?_ ?_ ?_
  · rw [effect, same]
    exact startOperation_disabled (s := u) steady.run noOp free (.fob k) there off
  · rw [effect]
    exact startOperation_noted (s := u) steady.run (steady.awake steady.run) n (.fob k) (Option.isSome_iff_exists.mpr ⟨c, there⟩)
  · rw [same]
    exact steady.of_same rfl rfl rfl rfl rfl

theorem answers_renewed {n e : Nat} {op : ActiveOp} (started : hold.operationStarted = true)
    (own : comfortDescriptor hold.button = some n) (free : s.group.crashHold = none) (active : s.op.active = some op)
    (source : op.source = .fob k) (descriptor : op.descriptor = n) (lease : op.lease = some e) (live : s.now + dt ≤ e) :
    Answers (.bodyFrameReceived dt id data) s
      { repeatMoved k q t hold true (entryHit i h r dt s) with
        op := { s.op with active := some { op with lease := some (s.now + dt + 300) } } } := by
  obtain ⟨last, idle, same⟩ := entryHit_eq i h r dt s
  let u : State := repeatMoved k q t hold true (withActivity last idle (hitCounted i h (elapse dt s)))
  refine d.answers steady ?_ ?_ <;> rw [same]
  · rw [performs_repeat steady action reads acts counts,
      countRepeat_renews (s := withActivity last idle (hitCounted i h (elapse dt s))) acts.fob acts.fobRun started own,
      renewLease_moves (s := u) free active source descriptor lease live]
    rfl
  · exact steady.toCalm.of_same rfl rfl rfl rfl rfl

end Decided
end

end Sys2Proof.Machine
end

section
/-!
PROOFS. A body frame is decided by its first match (O57): the parts of the statement, put together.
-/

namespace Sys2Proof.Machine

section
variable {dt i h : Nat} {r : Rule} {id : CanId} {data : List Byte} {s : State}

namespace Decided
variable (d : Decided i h r id data s) (steady : Steady s)
include d steady

/-- The presses and the repeats of a fob that may act (R97, R101 to R108). -/
theorem fob_acts {t : Telegram} {k a : Nat} {f : Fob} {q : FobRun} (action : r.action = .fob)
    (reads : readTelegram data = some t) (acts : Acts k f q t s) (accepted : f.accepted = some a) (small : a < 1048576)
    {pressed : State}
    (press : t.repeatNumber = 0) (low : 1 ≤ (t.counter + 1048576 - a) % 1048576)
    (high : (t.counter + 1048576 - a) % 1048576 ≤ s.cfg.key.forwardWindow) (ready : LockReady s)
    (is : pressed = { entryHit i h r dt s with
      cfg := { s.cfg with fobs := s.cfg.fobs.set k { f with accepted := some t.counter } }
      fobRun := s.fobRun.set k ⟨none, t.batteryLow⟩
      key := { s.key with
        hold := some ⟨k, t.button, t.counter, 0, false, s.now + dt + 300, false⟩
        lastTelegram := some ⟨t.serial, t.button, t.repeatNumber, some k, .accepted⟩ } })
    (kind : LockKind) (drives : Drives kind s) :
    let taken (release : Bool) : State := lockTaken 0 ⟨kind, .fob, release⟩ pressed
    (t.button = .lock →
      (kind = .lockAll ∧ (∀ w, s.group.doubleLock = some w → w.fob ≠ k ∨ w.deadline < s.now + dt) ∨
        kind = .deadlockAll ∧ ∃ w, s.group.doubleLock = some w ∧ w.fob = k ∧ s.now + dt ≤ w.deadline) →
      AnswersActive (.bodyFrameReceived dt id data) s
        { taken false with
          group := { (taken false).group with doubleLock := some ⟨k, s.now + dt + 1500⟩ } }) ∧
    (t.button = .unlock → f.mode = .all → kind = .unlockAll →
      AnswersActive (.bodyFrameReceived dt id data) s (taken false)) ∧
    (t.button = .unlock → f.mode = .driverFirst →
      (kind = .unlockDriver ∧ (∀ e, s.group.driverFirst = some e → e < s.now + dt) ∨
        kind = .unlockAll ∧ ∃ e, s.group.driverFirst = some e ∧ s.now + dt ≤ e) →
      AnswersActive (.bodyFrameReceived dt id data) s
        { taken false with
          group := { (taken false).group with driverFirst := some (s.now + dt + 3000) } }) ∧
    (t.button = .tailgate → kind = .unlockTailgate →
      AnswersActive (.bodyFrameReceived dt id data) s (taken true)) := by
  intro taken
  obtain ⟨last, idle, same⟩ := entryHit_eq i h r dt s
  have steadyPressed : Steady pressed := by
    rw [is, same]
    exact steady.of_same rfl rfl rfl rfl rfl
  have now : pressed.now = s.now + dt := by
    rw [is, same]
    rfl
  have group : pressed.group = s.group := by
    rw [is, same]
    rfl
  have drivesPressed : Drives kind pressed := by
    rw [is, same]
    exact drives
  have mode : (Machine.fob pressed k).mode = f.mode := by
    have inside := (List.getElem?_eq_some_iff.mp acts.fob).1
    rw [is]
    simp [Machine.fob, inside]
  have answered {result : State} (calm : Steady result)
      (takes : ∀ last idle, LockReady (withActivity last idle pressed) →
        AgreeButActivity (pressButton k t.button (withActivity last idle pressed)) result) :
      AnswersActive (.bodyFrameReceived dt id data) s result :=
    d.acts_press steady action reads acts accepted small press low high is ready
      (fun v readyV agrees => by rw [agrees.eq] at readyV ⊢; exact takes _ _ readyV) calm
  refine ⟨fun button kinds => ?_, fun button all kinds => ?_, fun button driverFirst kinds => ?_, fun button kinds => ?_⟩
  · refine answered (steadyPressed.of_same rfl rfl rfl rfl rfl) fun last' idle' readyV => ?_
    have kindIs : kind = if doubleLockOf k (withActivity last' idle' pressed) then .deadlockAll else .lockAll := by
      have double := doubleLockOf_iff k (withActivity last' idle' pressed)
      rcases kinds with ⟨locks, none_⟩ | ⟨locks, some_⟩
      · rw [locks, if_neg]
        intro yes
        obtain ⟨w, there, fob, live⟩ := double.mp yes
        have late := none_ w (group ▸ there)
        have : s.now + dt ≤ w.deadline := now ▸ live
        omega
      · rw [locks, if_pos]
        refine double.mpr ?_
        rw [← group, ← now] at some_
        exact some_
    rw [button, ← now]
    exact (lockPress_taken readyV kindIs drivesPressed).trans rfl
  · refine answered (steadyPressed.of_same rfl rfl rfl rfl rfl) fun last' idle' readyV => ?_
    subst kinds
    rw [button]
    exact (unlockPress_all readyV (mode.trans all) drivesPressed).trans rfl
  · refine answered (steadyPressed.of_same rfl rfl rfl rfl rfl) fun last' idle' readyV => ?_
    have kindIs : kind = if live (withActivity last' idle' pressed).now (withActivity last' idle' pressed).group.driverFirst
        then .unlockAll else .unlockDriver := by
      have liveIs := live_iff (withActivity last' idle' pressed).now (withActivity last' idle' pressed).group.driverFirst
      rcases kinds with ⟨unlocks, none_⟩ | ⟨unlocks, some_⟩
      · rw [unlocks, if_neg]
        intro yes
        obtain ⟨e, there, live⟩ := liveIs.mp yes
        have late := none_ e (group ▸ there)
        have : s.now + dt ≤ e := now ▸ live
        omega
      · rw [unlocks, if_pos]
        refine liveIs.mpr ?_
        rw [← group, ← now] at some_
        exact some_
    rw [button, ← now]
    exact (unlockPress_driverFirst readyV (mode.trans driverFirst) kindIs drivesPressed).trans rfl
  · refine answered (steadyPressed.of_same rfl rfl rfl rfl rfl) fun last' idle' readyV => ?_
    subst kinds
    rw [button]
    exact (fobLock_drives readyV true (by simp) drivesPressed).trans rfl

end Decided
end

end Sys2Proof.Machine
end

section
/-!
PROOFS. The statement on body frames (O57).
-/

namespace Sys2Proof.Machine

section
variable {dt : Nat} {id : CanId} {data : List Byte} {s : State}

/-- The entry that decides a frame, as the statement says it. -/
theorem decides_of {i : Nat} {r : Rule} (h : s.cfg.rules[i]? = some r ∧
    (r.valid = true ∧ id &&& r.mask = r.base &&& r.mask ∧ r.minLength ≤ data.length) ∧
    ∀ j g, j < i → s.cfg.rules[j]? = some g →
      ¬(g.valid = true ∧ id &&& g.mask = g.base &&& g.mask ∧ g.minLength ≤ data.length)) : Decides i r id data s :=
  ⟨h.1, (ruleMatches_iff ..).mpr h.2.1, fun j q near there => by
    rw [← Bool.not_eq_true, ruleMatches_iff]
    exact h.2.2 j q near there⟩

/-- A frame that no entry matches (R146). -/
theorem answers_unmatched (steady : Steady s) (other : id ≠ s.mgmt.base) (short : data.length ≤ 8)
    (none_ : ∀ r ∈ s.cfg.rules, ¬(r.valid = true ∧ id &&& r.mask = r.base &&& r.mask ∧ r.minLength ≤ data.length)) :
    (s.cfg.frame.passDefault = false → Answers (.bodyFrameReceived dt id data) s (unmatchedCounted (elapse dt s))) ∧
      (s.cfg.frame.passDefault = true →
        (∀ c, TakesCopy s.cfg.frame.defaultMask.toNat c s → (s.pass.get c).length < 2) →
        Answers (.bodyFrameReceived dt id data) s
          { unmatchedCounted (elapse dt s) with pass := passedTo s.cfg.frame.defaultMask.toNat ⟨id, data⟩ s }) := by
  have unmatched : receiveFrame id data (elapse dt s) = defaultDisposition id data (elapse dt s) := by
    rw [receiveFrame_matches (s := elapse dt s) steady.run other short]
    refine matchFrame_none (s := elapse dt s) fun j r _ there => ?_
    rw [← Bool.not_eq_true, ruleMatches_iff]
    exact none_ r (List.mem_of_getElem? there)
  refine ⟨fun drops => ?_, fun passes room => ?_⟩
  · exact answers_calm (f := receiveFrame id data) rfl steady.supplied (unmatched.trans (defaultDisposition_drop drops))
      (steady.toCalm.of_same rfl rfl rfl rfl rfl)
  · exact answers_calm (f := receiveFrame id data) rfl steady.supplied
      (unmatched.trans (defaultDisposition_pass (s := elapse dt s) steady.run passes room))
      (steady.toCalm.of_same rfl rfl rfl rfl rfl)

/-- The slot closed upon the hit of the deciding entry. -/
theorem slotClosed_hit (i h : Nat) (r : Rule) (n : Nat) (y : SearchSlot) (outcome : SearchOutcome) (who : Option Nat) :
    slotClosed n y outcome who (entryHit i h r dt s) =
      { entryHit i h r dt s with
        search := { s.search with
          slots := s.search.slots.set n none, last := some ⟨y.closure, y.purpose, y.tag, outcome, who⟩ } } := by
  have search : (entryHit i h r dt s).search = s.search := entryHit_same State.search fun _ => rfl
  rw [slotClosed, search]

/-- The hold moved on upon the hit of the deciding entry. -/
theorem repeatMoved_hit (i h : Nat) (r : Rule) (k : Nat) (q : FobRun) (t : Telegram) (hold : Hold) (started : Bool) :
    repeatMoved k q t hold started (entryHit i h r dt s) =
      { entryHit i h r dt s with
        fobRun := s.fobRun.set k { q with batteryLow := t.batteryLow }
        key := { s.key with
          hold := some { hold with
            lastCounted := t.repeatNumber, deadline := s.now + dt + 300, operationStarted := started }
          lastTelegram := some ⟨t.serial, t.button, t.repeatNumber, some k, .repeatCounted⟩ } } := by
  have key : (entryHit i h r dt s).key = s.key := entryHit_same State.key fun _ => rfl
  have runs : (entryHit i h r dt s).fobRun = s.fobRun := entryHit_same State.fobRun fun _ => rfl
  have now : (entryHit i h r dt s).now = s.now + dt := entryHit_same State.now fun _ => rfl
  simp only [repeatMoved, key, runs, now]

/-- The descriptor of a comfort button (R107). -/
theorem comfortDescriptor_of {b : Button} {n : Nat} (h : b = .lock ∧ n = 0 ∨ b = .unlock ∧ n = 1) :
    comfortDescriptor b = some n := by
  rcases h with ⟨rfl, rfl⟩ | ⟨rfl, rfl⟩ <;> rfl

end

/-- Settles O57. -/
theorem bodyFrameIsDecidedByTheFirstMatch : Obligations.BodyFrameIsDecidedByTheFirstMatch := by
  intro s dt id data other short frameMatches decides
  refine ⟨fun steady none_ => answers_unmatched steady other short none_, fun i r first => ⟨fun steady keeps => ?_,
    fun asleep wakes => ?_, fun h asleep settled noWake drops hits => ?_⟩, fun i h r steady first hits => ?_⟩
  · have d : Decided i _ r id data s := ⟨other, short, decides_of first, rfl⟩
    exact d.keepsAwake steady keeps
  · have d : Decided i _ r id data s := ⟨other, short, decides_of first, rfl⟩
    exact d.wakes asleep wakes
  · have d : Decided i h r id data s := ⟨other, short, decides_of first, by simp [List.getD, hits]⟩
    exact d.sleeps asleep settled noWake drops
  · have d : Decided i h r id data s := ⟨other, short, decides_of first, by simp [List.getD, hits]⟩
    intro n counted hit value
    refine ⟨d.answers_drop steady, d.answers_voltage steady, fun action even => ?_, d.answers_trap steady,
      d.trap_overflows steady, d.answers_pass steady, fun c action takes full alone places =>
        d.pass_overflows steady action takes full alone places, fun action => ?_, fun x action reads => ?_,
      fun t action reads => ?_⟩
    · intro limit told rises disarms acts
      obtain ⟨plain, ready, held⟩ := d.answers_speed steady action even (told := told) (disarms := disarms) rfl rfl
      exact ⟨plain, ready, fun up idle noFlight noSlot reported => held up ⟨idle, noFlight, noSlot, reported⟩⟩
    · intro source acts
      refine ⟨fun kind ready drives code => d.acts_lockRequest steady action ready drives code,
        fun code locked => d.acts_release steady action code locked, fun code => d.next_crash steady action code,
        fun w code mask free => ?_,
        fun w code mask clear out origin mode => d.acts_stop steady action code mask clear out origin mode,
        fun code held noOp four => d.acts_start steady action code held noOp four,
        fun code noOp => d.acts_cancel steady action code noOp⟩
      intro requested
      refine ⟨fun below within => ?_, fun up within => ?_⟩
      · exact d.acts_move steady action code mask free rfl within (requestDirection_down (by omega) (by omega))
          (.inl ⟨rfl, below⟩)
      · exact d.acts_move steady action code mask free rfl within (requestDirection_up up) (.inr ⟨rfl, by omega⟩)
    · intro answers key
      refine ⟨fun m y only tag => ?_, fun absent places => d.search_late steady action reads absent places⟩
      intro closed notice
      refine ⟨fun error room => ?_, fun fine => ⟨fun noneOut noneIn => ?_, ?_, ?_⟩⟩
      · have done := d.answers_moduleError (dt := dt) steady action reads only tag error room
        rw [slotClosed_hit] at done
        exact done
      · have done := d.answers_noKey (dt := dt) steady action reads only tag fine noneOut noneIn
        rw [slotClosed_hit] at done
        exact done
      · intro k f kind there first here noneIn ready drives kinds
        have done := d.acts_outside (dt := dt) steady action reads only tag fine there first here noneIn ready drives kinds
        rw [slotClosed_hit] at done
        exact done
      · intro k lock there first room
        have done := d.answers_inside (dt := dt) steady action reads only tag fine lock there first room
        rw [slotClosed_hit] at done
        exact done
    · refine ⟨d.answers_telegram steady action reads, fun k f q a fob run active remote serial accepted first small bound => ?_⟩
      intro ahead noted late
      have acts : Acts k f q t s := ⟨fob, run, active, remote, serial, first⟩
      refine ⟨fun press low high ready => ?_, fun hold repeats counter held whose button same live onward => ?_⟩
      · intro pressed kind drives
        exact d.fob_acts steady action reads acts accepted bound press low high ready rfl kind drives
      · intro moved starts
        have counts : RepeatCounts k f t hold (elapse dt s) :=
          ⟨repeats, held, whose, button, same.trans counter.symm, by rw [accepted, counter], live, onward⟩
        refine ⟨fun none_ => ?_, fun n c starting unstarted uncleared comfort own there off free noOp => ?_,
          fun n op e started own free active source descriptor lease ahead => ?_⟩
        · have stays : hold.button = .tailgate ∨ hold.operationStarted = false ∧ comfortStarts f t hold = false := by
            rcases none_ with tailgate | ⟨unstarted, barred⟩
            · exact .inl (button.trans tailgate)
            · refine .inr ⟨unstarted, ?_⟩
              rcases barred with h | h | h
              · simp [comfortStarts, h]
              · simp [comfortStarts, h]
              · have apart : ¬(hold.lastCounted < 8 ∧ 8 ≤ t.repeatNumber) := h
                simp only [comfortStarts, Bool.and_eq_false_iff, decide_eq_false_iff_not]
                omega
          have done := d.answers_repeat (dt := dt) steady action reads acts counts stays
          rw [repeatMoved_hit] at done
          exact done
        · have descriptor : comfortDescriptor hold.button = some n := by rw [button, comfortDescriptor_of own]
          have starts_ : comfortStarts f t hold = true := by
            simp [comfortStarts, starting.1, starting.2, unstarted, uncleared, comfort, descriptor]
          have done := d.acts_disabled (dt := dt) steady action reads acts counts starts_ descriptor there off free noOp
          rw [repeatMoved_hit] at done
          exact done
        · have ownIs : comfortDescriptor hold.button = some n := by rw [button, comfortDescriptor_of own]
          have done := d.answers_renewed (dt := dt) steady action reads acts counts started ownIs free active source
            descriptor lease ahead
          rw [repeatMoved_hit] at done
          exact done

end Sys2Proof.Machine
end

section
/-!
PROOFS. What the lock group, the searches and the handles leave alone in an awake part: the settings, the windows, the
engine, the child locks, the channels, what the locks are known to be, and the fault table but for TX_OVERFLOW (R7 to R11,
R17, R24, R113 to R118, R160).
-/

namespace Sys2Proof.Machine

/-- What is known of the locks: the sensed states and the latches. -/
def knownLocks (closures : Five ClosureLock) : Closure → LockSensed × Latch :=
  fun c => ((closures.get c).sensed, (closures.get c).latch)

/-- The context less the activity. -/
def quietCtx (ctx : Context) : Context := { ctx with lastActivity := 0, idleDeadline := 0 }

/-- `Beside` in the fields it reads. -/
structure BesideOf (b : State) (stage : Stage) (now : Nat) (cfg : Tables) (closures : Five ClosureLock)
    (children : Two ChildLock) (windows : Four Window) (motion : Motion) (op : OpEngine) (channels : Five Channel)
    (ctx : Context) (faults : List FaultRecord) : Prop where
  awake : b.ctx.state = .awake
  same : (stage, now, cfg, knownLocks closures, children, windows, motion, op, channels, quietCtx ctx) =
    (b.stage, b.now, b.cfg, knownLocks b.closures, b.children, b.windows, b.motion, b.op, b.channels, quietCtx b.ctx)
  length : faults.length = b.faults.length
  record : ∀ cls, cls ≠ .txOverflow → faults.getD (faultClassCode cls) .clear = faultRecord b cls

/-- The part has all that the lock group, the searches and the handles leave alone from the awake part `b`. -/
structure Beside (b s : State) : Prop where
  awake : b.ctx.state = .awake
  same : (s.stage, s.now, s.cfg, knownLocks s.closures, s.children, s.windows, s.motion, s.op, s.channels,
      quietCtx s.ctx) =
    (b.stage, b.now, b.cfg, knownLocks b.closures, b.children, b.windows, b.motion, b.op, b.channels, quietCtx b.ctx)
  faults : FaultsKept b s

section
variable {b s : State}

@[simp] theorem beside_fold :
    BesideOf b s.stage s.now s.cfg s.closures s.children s.windows s.motion s.op s.channels s.ctx s.faults ↔ Beside b s :=
  ⟨fun h => ⟨h.awake, h.same, h.length, h.record⟩, fun h => ⟨h.awake, h.same, h.faults.length, h.faults.record⟩⟩

@[simp] theorem beside_mk
    {pending now draws pins strapPins stage listenEnd cfg closures children group release timed windows motion
    fobRun key search op counts trap pass tx port nextStatus channels ctx lines mgmt faults store} :
    Beside b
      ⟨pending, now, draws, pins, strapPins, stage, listenEnd, cfg, closures, children, group, release, timed,
       windows, motion, fobRun, key, search, op, counts, trap, pass, tx, port, nextStatus, channels, ctx, lines,
       mgmt, faults, store⟩ ↔
      BesideOf b stage now cfg closures children windows motion op channels ctx faults :=
  beside_fold.symm

namespace Beside

theorem refl (awake : b.ctx.state = .awake) : Beside b b := ⟨awake, rfl, .refl b⟩

/-- Any field that `Beside` reads. -/
theorem field {α : Type} (h : Beside b s) (f : State → α)
    (hf : ∀ t u : State, (t.stage, t.now, t.cfg, knownLocks t.closures, t.children, t.windows, t.motion, t.op, t.channels,
        quietCtx t.ctx) =
      (u.stage, u.now, u.cfg, knownLocks u.closures, u.children, u.windows, u.motion, u.op, u.channels,
        quietCtx u.ctx) → f t = f u) : f s = f b := hf _ _ h.same

theorem ctx (h : Beside b s) : quietCtx s.ctx = quietCtx b.ctx := h.field (fun u => quietCtx u.ctx) fun _ _ e => by
  simp only [Prod.mk.injEq] at e
  tauto

theorem windows (h : Beside b s) : s.windows = b.windows := h.field State.windows fun _ _ e => by
  simp only [Prod.mk.injEq] at e
  tauto

theorem cfg (h : Beside b s) : s.cfg = b.cfg := h.field State.cfg fun _ _ e => by
  simp only [Prod.mk.injEq] at e
  tauto

theorem known (h : Beside b s) : knownLocks s.closures = knownLocks b.closures :=
  h.field (fun u => knownLocks u.closures) fun _ _ e => by
    simp only [Prod.mk.injEq] at e
    tauto

theorem children (h : Beside b s) : s.children = b.children := h.field State.children fun _ _ e => by
  simp only [Prod.mk.injEq] at e
  tauto

theorem channels (h : Beside b s) : s.channels = b.channels := h.field State.channels fun _ _ e => by
  simp only [Prod.mk.injEq] at e
  tauto

theorem stays_awake (h : Beside b s) : s.ctx.state = .awake :=
  (congrArg Context.state h.ctx : (quietCtx s.ctx).state = (quietCtx b.ctx).state).trans h.awake

end Beside

theorem ite_beside {c : Prop} [Decidable c] {t u : State} (ht : Beside b t) (hu : Beside b u) :
    Beside b (if c then t else u) := by
  split <;> assumption

theorem foldl_beside {α : Type} {f : State → α → State} {l : List α} (h : Beside b s)
    (step : ∀ u a, Beside b u → Beside b (f u a)) : Beside b (l.foldl f s) := by
  induction l generalizing s with
  | nil => exact h
  | cons a l ih => exact ih (step s a h)

/-! ## The traffic and the activity -/

@[simp] theorem offer_beside (f : TxFrame) (h : Beside b s) : Beside b (offer f s) := by
  refine ⟨h.awake, ?_, h.faults.trans (offer_faultsKept f s)⟩
  rw [← h.same]
  exact same_of_rest (offer_rest f s) (fun u => (u.stage, u.now, u.cfg, knownLocks u.closures, u.children, u.windows,
    u.motion, u.op, u.channels, quietCtx u.ctx)) fun _ => rfl

@[simp] theorem offerNotice_beside (data : List Byte) (h : Beside b s) : Beside b (offerNotice data s) :=
  offer_beside _ h

@[simp] theorem offerPagesNow_beside (h : Beside b s) : Beside b (offerPagesNow s) := by
  unfold offerPagesNow offerPages
  exact ite_beside (foldl_beside h fun _ _ hu => offer_beside _ hu) h

@[simp] theorem activity_beside (h : Beside b s) : Beside b (activity s) := by
  obtain ⟨last, idle, active⟩ := activity_eq s
  rw [active]
  exact ⟨h.awake, h.same, h.faults.trans (.of_faults rfl)⟩

@[simp] theorem wake_beside (cause : WakeCause) (h : Beside b s) : Beside b (wake cause s) := by
  rw [wake_awake cause h.stays_awake]
  exact h

/-! ## The lock group -/

/-- A closure's record written with what is known of its lock. -/
theorem setClosure_beside {c : Closure} {k : ClosureLock} (sensed : k.sensed = (closure s c).sensed)
    (latch : k.latch = (closure s c).latch) (h : Beside b s) : Beside b (setClosure c k s) := by
  have known : knownLocks (s.closures.set c k) = knownLocks s.closures := by
    funext d
    by_cases here : d = c
    · subst here
      simp [knownLocks, sensed, latch, closure]
    · simp [knownLocks, Five.get_set_other here]
  refine ⟨h.awake, ?_, h.faults.trans (.of_faults rfl)⟩
  rw [← h.same, ← known]
  rfl

theorem dropPulse_sensed (k : ClosureLock) : (dropPulse k).sensed = k.sensed := by
  unfold dropPulse
  split <;> rfl

theorem standAt_sensed (phase : LockPhase) (k : ClosureLock) : (standAt phase k).sensed = k.sensed := dropPulse_sensed k

@[simp] theorem actuateClosure_beside (kind : LockKind) (source : LockSource) (c : Closure) (h : Beside b s) :
    Beside b (actuateClosure kind source c s) := by
  unfold actuateClosure
  dsimp only
  refine setClosure_beside ?_ ?_ h
  · split
    · exact standAt_sensed ..
    · split
      · exact standAt_sensed ..
      · rfl
  · split
    · exact standAt_latch ..
    · split
      · exact standAt_latch ..
      · rfl

@[simp] theorem setTimed_beside (pattern : Pattern) (time : Nat) (h : Beside b s) : Beside b (setTimed pattern time s) := by
  simp [h, setTimed]

@[simp] theorem dropSteady_beside (h : Beside b s) : Beside b (dropSteady s) := by
  unfold dropSteady
  (repeat' split) <;> simp [h]

@[simp] theorem refuseLock_beside (cause : LockRefusal) (h : Beside b s) : Beside b (refuseLock cause s) := by
  unfold refuseLock
  split <;> simp [h]

@[simp] theorem actuate_beside (r : LockRequest) (h : Beside b s) : Beside b (actuate r s) := by
  unfold actuate
  refine foldl_beside ?_ fun _ _ hu => actuateClosure_beside _ _ _ hu
  split <;> simp [h]

@[simp] theorem takeRequest_beside (r : LockRequest) (h : Beside b s) : Beside b (takeRequest r s) := by
  unfold takeRequest
  split <;> simp [h]

@[simp] theorem checkRelease_beside (h : Beside b s) : Beside b (checkRelease s) := by
  unfold checkRelease
  dsimp only
  (repeat' split) <;> simp [h]

@[simp] theorem releaseTailgate_beside (h : Beside b s) : Beside b (releaseTailgate s) := by
  unfold releaseTailgate
  exact ite_beside (checkRelease_beside (wake_beside _ (activity_beside h))) h

@[simp] theorem startRelock_beside (f : InFlight) (h : Beside b s) : Beside b (startRelock f s) := by
  unfold startRelock
  dsimp only
  split <;> simp [h]

@[simp] theorem completeItems_beside (f : InFlight) (h : Beside b s) : Beside b (completeItems f s) := by
  unfold completeItems
  dsimp only
  (repeat' split) <;> simp [h]

@[simp] theorem takePending_beside (h : Beside b s) : Beside b (takePending s) := by
  unfold takePending
  (repeat' split) <;> simp [h]

@[simp] theorem completeOne_beside (h : Beside b s) : Beside b ((completeOne s).1) := by
  unfold completeOne
  (repeat' split) <;> simp [h]

@[simp] theorem followGroup_beside (h : Beside b s) : Beside b (followGroup s) := by
  have taken : Beside b (completeOne (takePending (completeOne s).1)).1 :=
    completeOne_beside (takePending_beside (completeOne_beside h))
  unfold followGroup
  dsimp only
  (repeat' split) <;> simp [taken]

@[simp] theorem placeLock_beside (r : LockRequest) (h : Beside b s) : Beside b (placeLock r s) := by
  unfold placeLock mergeOrWait
  dsimp only
  (repeat' split) <;> simp [h]

/-- A request other than a crash unlock. -/
theorem arriveLock_beside {r : LockRequest} (plain : r.kind ≠ .crashUnlock) (h : Beside b s) :
    Beside b (arriveLock r s) := by
  have placed : Beside b (placeLock r (wake .request (activity s))) :=
    placeLock_beside r (wake_beside _ (activity_beside h))
  unfold arriveLock
  simp only [beq_eq_false_iff_ne.mpr plain, Bool.false_eq_true, if_false]
  exact ite_beside h placed

/-- An edge of the central lock switch or the key cylinder asks for no crash unlock. -/
@[simp] theorem lockSwitchEdge_beside (source : LockSource) (old new : LockSwitch) (h : Beside b s) :
    Beside b (lockSwitchEdge source old new s) := by
  unfold lockSwitchEdge
  split
  · exact arriveLock_beside nofun h
  · exact arriveLock_beside nofun h
  · exact h

/-! ## The searches and the handles -/

@[simp] theorem closeSlot_beside (n : Nat) (x : SearchSlot) (outcome : SearchOutcome) (who : Option Nat)
    (h : Beside b s) : Beside b (closeSlot n x outcome who s) := by
  have noted (record : SearchRecord) :
      Beside b (setSlot n none { s with search := { s.search with last := some record } }) := by
    simp [h, setSlot]
  unfold closeSlot
  exact ite_beside (offerNotice_beside _ (noted _)) (noted _)

@[simp] theorem openSlot_beside (n : Nat) (c : Closure) (p : Purpose) (trigger : Trigger) (h : Beside b s) :
    Beside b (openSlot n c p trigger s) := by
  unfold openSlot setSlot
  exact wake_beside _ (activity_beside (offer_beside _ (by simp [h])))

@[simp] theorem touch_beside (c : Closure) (p : Purpose) (trigger : Trigger) (h : Beside b s) :
    Beside b (touch c p trigger s) := by
  unfold touch
  (repeat' split) <;> simp [h]

@[simp] theorem handleEvents_beside (c : Closure) (rep : Report) (h : Beside b s) : Beside b (handleEvents c rep s) := by
  unfold handleEvents releaseButton
  (repeat' split) <;> simp [h]

@[simp] theorem takeUplink_beside (c : Closure) (rep : Report) (h : Beside b s) : Beside b (takeUplink c rep s) := by
  unfold takeUplink
  (repeat' split) <;> simp [h]

end

end Sys2Proof.Machine
end

section
/-!
PROOFS. What every item of a good report leaves alone in an awake part: the operating state, the modes, the channels, and
the fault table but for TX_OVERFLOW and PINCH (R160, R168 to R172, R176).
-/

namespace Sys2Proof.Machine

/-- `Serving` in the fields it reads. -/
structure ServingOf (b : State) (stage : Stage) (now : Nat) (modes : Five PowerMode) (channels : Five Channel)
    (state : OpState) (ignition : Ignition) (faults : List FaultRecord) : Prop where
  awake : b.ctx.state = .awake
  same : (stage, now, modes, channels, state, ignition) =
    (b.stage, b.now, b.cfg.modes, b.channels, b.ctx.state, b.ctx.ignition)
  length : faults.length = b.faults.length
  record : ∀ cls, cls ≠ .txOverflow → cls ≠ .pinch → faults.getD (faultClassCode cls) .clear = faultRecord b cls

/-- The part serves its channels as the awake part `b` does. -/
structure Serving (b s : State) : Prop where
  awake : b.ctx.state = .awake
  same : (s.stage, s.now, s.cfg.modes, s.channels, s.ctx.state, s.ctx.ignition) =
    (b.stage, b.now, b.cfg.modes, b.channels, b.ctx.state, b.ctx.ignition)
  length : s.faults.length = b.faults.length
  record : ∀ cls, cls ≠ .txOverflow → cls ≠ .pinch → faultRecord s cls = faultRecord b cls

section
variable {b s t : State}

@[simp] theorem serving_fold :
    ServingOf b s.stage s.now s.cfg.modes s.channels s.ctx.state s.ctx.ignition s.faults ↔ Serving b s :=
  ⟨fun h => ⟨h.awake, h.same, h.length, h.record⟩, fun h => ⟨h.awake, h.same, h.length, h.record⟩⟩

@[simp] theorem serving_mk
    {pending now draws pins strapPins stage listenEnd cfg closures children group release timed windows motion
    fobRun key search op counts trap pass tx port nextStatus channels ctx lines mgmt faults store} :
    Serving b
      ⟨pending, now, draws, pins, strapPins, stage, listenEnd, cfg, closures, children, group, release, timed,
       windows, motion, fobRun, key, search, op, counts, trap, pass, tx, port, nextStatus, channels, ctx, lines,
       mgmt, faults, store⟩ ↔
      ServingOf b stage now cfg.modes channels ctx.state ctx.ignition faults :=
  serving_fold.symm

namespace Serving

theorem refl (awake : b.ctx.state = .awake) : Serving b b := ⟨awake, rfl, rfl, fun _ _ _ => rfl⟩

theorem eqs (h : Serving b s) : s.stage = b.stage ∧ s.now = b.now ∧ s.cfg.modes = b.cfg.modes ∧
    s.channels = b.channels ∧ s.ctx.state = b.ctx.state ∧ s.ctx.ignition = b.ctx.ignition := by
  simpa only [Prod.mk.injEq] using h.same

theorem stays_awake (h : Serving b s) : s.ctx.state = .awake := by
  obtain ⟨-, -, -, -, state, -⟩ := h.eqs
  exact state.trans h.awake

theorem trans (h : Serving b s) (g : Serving s t) : Serving b t :=
  ⟨h.awake, g.same.trans h.same, g.length.trans h.length,
    fun cls tx pinch => (g.record cls tx pinch).trans (h.record cls tx pinch)⟩

theorem of_beside (h : Serving b s) (g : Beside s t) : Serving b t := by
  refine h.trans ⟨h.stays_awake, ?_, g.faults.length, fun cls tx _ => g.faults.record cls tx⟩
  refine g.field (fun u => (u.stage, u.now, u.cfg.modes, u.channels, u.ctx.state, u.ctx.ignition)) fun x y e => ?_
  simp only [Prod.mk.injEq] at e ⊢
  obtain ⟨stage, now, cfg, -, -, -, -, -, channels, ctx⟩ := e
  exact ⟨stage, now, by rw [cfg], channels,
    (congrArg Context.state ctx : (quietCtx x.ctx).state = (quietCtx y.ctx).state),
    (congrArg Context.ignition ctx : (quietCtx x.ctx).ignition = (quietCtx y.ctx).ignition)⟩

/-- What the windows and the engine do. -/
theorem of_motion (h : Serving b s) (rest : lessMotion t = lessMotion s) (faults : FaultsKept s t) : Serving b t :=
  h.trans ⟨h.stays_awake, same_of_motion rest (fun u =>
    (u.stage, u.now, u.cfg.modes, u.channels, u.ctx.state, u.ctx.ignition)) fun _ => rfl,
    faults.length, fun cls tx _ => faults.record cls tx⟩

end Serving

theorem ite_serving {c : Prop} [Decidable c] {t u : State} (ht : Serving b t) (hu : Serving b u) :
    Serving b (if c then t else u) := by
  split <;> assumption

theorem foldl_serving {α : Type} {f : State → α → State} {l : List α} (h : Serving b s)
    (step : ∀ u a, Serving b u → Serving b (f u a)) : Serving b (l.foldl f s) := by
  induction l generalizing s with
  | nil => exact h
  | cons a l ih => exact ih (step s a h)

/-! ## The windows -/

@[simp] theorem activity_serving (h : Serving b s) : Serving b (activity s) :=
  h.of_beside (activity_beside (.refl h.stays_awake))

@[simp] theorem wake_serving (cause : WakeCause) (h : Serving b s) : Serving b (wake cause s) :=
  h.of_beside (wake_beside cause (.refl h.stays_awake))

@[simp] theorem setWindow_serving (w : WindowId) (x : Window) (h : Serving b s) : Serving b (setWindow w x s) := by
  simp [h, setWindow]

@[simp] theorem endMotion_serving (w : WindowId) (outcome : MotionOutcome) (h : Serving b s) :
    Serving b (endMotion w outcome s) := h.of_motion (endMotion_lessMotion ..) (endMotion_faultsKept ..)

@[simp] theorem handStatus_serving (w : WindowId) (status : StepStatus) (h : Serving b s) :
    Serving b (handStatus w status s) := h.of_motion (handStatus_lessMotion ..) (handStatus_faultsKept ..)

@[simp] theorem handOutcome_serving (origin : Option Origin) (w : WindowId) (outcome : MotionOutcome)
    (h : Serving b s) : Serving b (handOutcome origin w outcome s) := by
  unfold handOutcome
  (repeat' split) <;> simp [h]

@[simp] theorem refuseWindow_serving (w : WindowId) (origin : Option Origin) (cause : WindowRefusal)
    (h : Serving b s) : Serving b (refuseWindow w origin cause s) := by
  unfold refuseWindow
  dsimp only
  split <;> simp [h]

@[simp] theorem completeAtOnce_serving (r : WindowRequest) (h : Serving b s) : Serving b (completeAtOnce r s) := by
  unfold completeAtOnce
  exact handOutcome_serving _ _ _ (setWindow_serving _ _ (endMotion_serving _ _ h))

theorem setWindow_motion_serving (w : WindowId) (x : Window) (m : Motion) (h : Serving b s) :
    Serving b { setWindow w x s with motion := m } := by
  simp [h, setWindow]

@[simp] theorem placeRequest_serving (r : WindowRequest) (dir : Direction) (h : Serving b s) :
    Serving b (placeRequest r dir s) := by
  unfold placeRequest
  dsimp only
  split
  · exact handOutcome_serving _ _ _ (setWindow_motion_serving _ _ _ h)
  · split
    · simp [h]
    · exact setWindow_motion_serving _ _ _ h

@[simp] theorem acceptRequest_serving (r : WindowRequest) (h : Serving b s) : Serving b (acceptRequest r s) := by
  unfold acceptRequest
  dsimp only
  split <;> simp [h]

@[simp] theorem checkRequest_serving (r : WindowRequest) (h : Serving b s) : Serving b (checkRequest r s) := by
  unfold checkRequest
  dsimp only
  (repeat' split) <;> simp [h]

@[simp] theorem requestMotion_serving (r : WindowRequest) (h : Serving b s) : Serving b (requestMotion r s) := by
  unfold requestMotion
  exact ite_serving (checkRequest_serving _ (wake_serving _ (activity_serving h))) h

@[simp] theorem endIfReached_serving (w : WindowId) (h : Serving b s) : Serving b (endIfReached w s) := by
  unfold endIfReached
  dsimp only
  split <;> simp [h]

/-! ## The switches and buttons -/

@[simp] theorem press_serving (w : WindowId) (origin : Origin) (level : Switch) (h : Serving b s) :
    Serving b (press w origin level s) := by
  unfold press
  dsimp only
  (repeat' split) <;> simp [h]

@[simp] theorem releaseSwitch_serving (w : WindowId) (origin : Origin) (h : Serving b s) :
    Serving b (releaseSwitch w origin s) := ite_serving (endMotion_serving _ _ h) h

@[simp] theorem makeAuto_serving (w : WindowId) (origin : Origin) (dir : Direction) (h : Serving b s) :
    Serving b (makeAuto w origin dir s) := ite_serving (setWindow_serving _ _ h) h

@[simp] theorem pressUnder_serving (w : WindowId) (origin : Origin) (level other : Switch) (h : Serving b s) :
    Serving b (pressUnder w origin level other s) := by
  unfold pressUnder
  dsimp only
  (repeat' split) <;> simp [h]

@[simp] theorem interpretEdge_serving (w : WindowId) (origin : Origin) (old new other : Switch) (h : Serving b s) :
    Serving b (interpretEdge w origin old new other s) := by
  unfold interpretEdge
  (repeat' split) <;> simp [h]

@[simp] theorem switchEdge_serving (w : WindowId) (origin : Origin) (old new other : Switch) (h : Serving b s) :
    Serving b (switchEdge w origin old new other s) := by
  unfold switchEdge
  dsimp only
  (repeat' split) <;> simp [h]

@[simp] theorem followSettings_serving (before : State) (h : Serving b s) : Serving b (followSettings before s) := by
  refine foldl_serving h fun u w hu => ?_
  have limited : Serving b (followLimit before w u) := ite_serving hu (endIfReached_serving _ hu)
  unfold followInhibit
  exact ite_serving (endMotion_serving _ _ limited) limited

@[simp] theorem aimChild_serving (target : ChildTarget) (d : RearDoor) (h : Serving b s) :
    Serving b (aimChild target d s) := by
  unfold aimChild actuateChild setChild
  dsimp only
  split <;> simp [h]

@[simp] theorem childToggle_serving (h : Serving b s) : Serving b (childToggle s) := by
  unfold childToggle setChildTargets
  refine ite_serving (followSettings_serving _ (foldl_serving ?_ fun _ _ hu => aimChild_serving _ _ hu)) h
  exact wake_serving _ (activity_serving h)

@[simp] theorem setLockout_serving (flag : Bool) (h : Serving b s) : Serving b (setLockout flag s) :=
  followSettings_serving _ (by simp [h])

@[simp] theorem lockSwitchEdge_serving (source : LockSource) (old new : LockSwitch) (h : Serving b s) :
    Serving b (lockSwitchEdge source old new s) :=
  h.of_beside (lockSwitchEdge_beside source old new (.refl h.stays_awake))

@[simp] theorem packEdges_serving (c : Closure) (old rep : Report) (h : Serving b s) :
    Serving b (packEdges c old rep s) := by
  have child {u : State} (hu : Serving b u) : Serving b (childButtonEdge old.childButton rep.childButton u) :=
    ite_serving (childToggle_serving hu) hu
  have lockout {u : State} (hu : Serving b u) : Serving b (lockoutButtonEdge old.lockoutButton rep.lockoutButton u) := by
    have active := wake_serving .button (activity_serving hu)
    exact ite_serving hu (ite_serving (setLockout_serving _ active) active)
  unfold packEdges
  exact lockSwitchEdge_serving _ _ _ (lockout (child (lockSwitchEdge_serving _ _ _
    (foldl_serving h fun _ _ hu => switchEdge_serving _ _ _ _ _ hu))))

@[simp] theorem clearSuppressed_serving (w : WindowId) (level : Switch) (h : Serving b s) :
    Serving b (clearSuppressed w level s) := ite_serving (setWindow_serving _ _ h) h

@[simp] theorem takeEdges_serving (c : Closure) (old : Option Report) (rep : Report) (h : Serving b s) :
    Serving b (takeEdges c old rep s) := by
  have own (o : Report) {u : State} (hu : Serving b u) : Serving b (ownEdge c o rep u) := by
    unfold ownEdge
    split <;> simp [hu]
  have edges : Serving b (match old with
      | some o =>
        if running s then ownEdge c o rep (if c == driverClosure s then packEdges c o rep s else s) else s
      | none => s) := by
    split
    · exact ite_serving (own _ (ite_serving (packEdges_serving _ _ _ h) h)) h
    · exact h
  unfold takeEdges
  dsimp only
  split
  · exact clearSuppressed_serving _ _ edges
  · exact edges

/-! ## The locks -/

@[simp] theorem dropRetained_serving (h : Serving b s) : Serving b (dropRetained s) := by
  have dropped (m : Motion) : Serving b { s with motion := m } := by simp [h]
  have ended {u : State} (hu : Serving b u) : Serving b (endHonouring u) := by
    refine foldl_serving hu fun u w hu => ?_
    dsimp only
    exact ite_serving (endMotion_serving _ _ hu) hu
  unfold dropRetained
  exact ite_serving (ite_serving (ended (dropped _)) (dropped _)) h

@[simp] theorem recomputeIdle_serving (h : Serving b s) : Serving b (recomputeIdle s) := by simp [h, recomputeIdle]

@[simp] theorem latchChanged_serving (c : Closure) (old new : Latch) (h : Serving b s) :
    Serving b (latchChanged c old new s) := by
  have opened : Serving b { setClosure c { closure s c with openedSinceUnlock := true } s with
      group := { s.group with relockTimer := none, driveAwayArmed := true } } := by simp [h, setClosure]
  have ajar : Serving b (if new == .ajar then
      if c == .fl || c == .fr then dropRetained { setClosure c { closure s c with openedSinceUnlock := true } s with
        group := { s.group with relockTimer := none, driveAwayArmed := true } }
      else { setClosure c { closure s c with openedSinceUnlock := true } s with
        group := { s.group with relockTimer := none, driveAwayArmed := true } }
      else s) := ite_serving (ite_serving (dropRetained_serving opened) opened) h
  have active {u : State} (hu : Serving b u) : Serving b (if old == .unknown || new == .unknown then u else activity u) :=
    ite_serving hu (activity_serving hu)
  have idle {u : State} (hu : Serving b u) : Serving b (if old == .ajar || new == .ajar then recomputeIdle u else u) :=
    ite_serving (recomputeIdle_serving hu) hu
  unfold latchChanged
  exact ite_serving h (ite_serving (wake_serving _ (idle (active ajar))) (idle (active ajar)))

@[simp] theorem takeLocks_serving (c : Closure) (rep : Report) (recovery : Bool) (h : Serving b s) :
    Serving b (takeLocks c rep recovery s) := by
  have written (k : ClosureLock) : Serving b (setClosure c k s) := by simp [h, setClosure]
  have locked : Serving b (lockReport c rep recovery s) := latchChanged_serving _ _ _ (written _)
  have child (d : RearDoor) {u : State} (hu : Serving b u) : Serving b (childReport d rep.childSensed u) := by
    simp [hu, childReport, setChild]
  have taken : Serving b (match closureRear c with
      | some d => childReport d rep.childSensed (lockReport c rep recovery s)
      | none => lockReport c rep recovery s) := by
    split
    · exact child _ locked
    · exact locked
  exact taken.of_beside (followGroup_beside (.refl taken.stays_awake))

/-! ## The motor -/

@[simp] theorem endRunning_serving (w : WindowId) (outcome : Option MotionOutcome) (h : Serving b s) :
    Serving b (endRunning w outcome s) := setWindow_motion_serving _ _ _ h

@[simp] theorem takePinch_serving (w : WindowId) (cause : PinchCause) (zone current : Nat) (h : Serving b s) :
    Serving b (takePinch w cause zone current s) := by
  have handed : Serving b (handOutcome (window s w).origin w .pinched
      (setWindow w (pinchedRecord (windowCfg s w) cause (window s w)) s)) := by simp [h]
  unfold takePinch
  dsimp only
  generalize handOutcome _ _ _ _ = u at handed
  have counted : Serving b (countFault .pinch (some (windowClosure w)) u) := by
    refine handed.trans ⟨handed.stays_awake, rfl, List.length_set .., fun cls tx pinch => ?_⟩
    refine faultRecord_countFault_other ?_
    revert pinch
    cases cls <;> decide
  unfold raiseWith
  exact ite_serving counted (counted.of_beside (offer_beside _ (.refl counted.stays_awake)))

@[simp] theorem endStop_serving (w : WindowId) (h : Serving b s) : Serving b (endStop w s) := by
  have adapted : Serving b (if (window s w).normalized && Config.adaptStart ≤ (window s w).startPosition then
      setProfile w (adaptProfile (s.cfg.profiles.get w) (window s w).maxima) s else s) := by
    split <;> simp [h, setProfile]
  unfold endStop
  exact endMotion_serving _ _ (setWindow_serving _ _ adapted)

@[simp] theorem carryOut_serving (w : WindowId) (zone current : Nat) (decision : Decision) (h : Serving b s) :
    Serving b (carryOut w zone current decision s) := by
  cases decision <;> simp [carryOut, h]

@[simp] theorem closingReport_serving (w : WindowId) (d i : Nat) (h : Serving b s) :
    Serving b (closingReport w d i s) := by
  unfold closingReport
  dsimp only
  refine endIfReached_serving _ (ite_serving ?_ ?_) <;> simp [h]

@[simp] theorem openingReport_serving (w : WindowId) (d : Nat) (h : Serving b s) : Serving b (openingReport w d s) := by
  unfold openingReport
  dsimp only
  split <;> simp [h]

@[simp] theorem reversalReport_serving (w : WindowId) (d : Nat) (h : Serving b s) :
    Serving b (reversalReport w d s) := by
  unfold reversalReport
  dsimp only
  split <;> simp [h]

@[simp] theorem coastReport_serving (w : WindowId) (dir : Direction) (d : Nat) (h : Serving b s) :
    Serving b (coastReport w dir d s) := setWindow_serving _ _ h

@[simp] theorem windowReport_serving (w : WindowId) (rep : Report) (h : Serving b s) :
    Serving b (windowReport w rep s) := by
  unfold windowReport motorData
  dsimp only
  (repeat' split) <;> simp [h]

@[simp] theorem takeMotor_serving (c : Closure) (rep : Report) (h : Serving b s) : Serving b (takeMotor c rep s) := by
  unfold takeMotor
  split <;> simp [h]

@[simp] theorem windowOvertemp_serving (w : WindowId) (flag : Bool) (h : Serving b s) :
    Serving b (windowOvertemp w flag s) := by
  unfold windowOvertemp
  dsimp only
  split <;> simp [h]

end

end Sys2Proof.Machine
end

section
/-!
PROOFS. A window that its node's overtemperature has stopped stays at rest through what is left of the report: a request
for it is refused with HOT or FAULT, and nothing else moves it (R48, R68, R168).
-/

namespace Sys2Proof.Machine

/-- A window at rest whose node shows overtemperature, in an awake part. -/
structure Halted (w : WindowId) (state : WindowState) (outcome : Option MotionOutcome) (s : State) : Prop where
  awake : s.ctx.state = .awake
  rests : state = .idle ∨ state = .fault
  same : (window s w).state = state
  outcome : (window s w).lastOutcome = outcome
  overtemp : (window s w).overtemp = true

section
variable {w : WindowId} {state : WindowState} {outcome : Option MotionOutcome} {s : State}

/-- A motion or entry of any window ends; one that rests stays as it is. -/
theorem endMotion_window_resting {v w : WindowId} {o : MotionOutcome} {s : State}
    (rests : (window s v).state = .idle ∨ (window s v).state = .fault) :
    window (endMotion w o s) v = window s v := by
  have recorded : window (endMotionRecord w o s) v = window s v := by
    by_cases here : v = w
    · subst here
      have still : endMotionRecord v o s = s := by
        rcases rests with h | h <;> simp [endMotionRecord, windowMoving, h]
      rw [still]
    · exact endMotionRecord_window_other here ..
  have free : ¬EnginesOwn (window (endMotionRecord w o s) v) := by
    rw [recorded]
    rcases rests with h | h <;> simp [EnginesOwn, h]
  unfold endMotion handOutcome
  dsimp only
  split
  · split
    · split
      · exact (handStatus_window free ..).trans recorded
      · exact recorded
    · exact recorded
  · exact recorded

namespace Halted

variable {t : State}

theorem of_window (h : Halted w state outcome s) (awake : t.ctx.state = s.ctx.state) (same : window t w = window s w) :
    Halted w state outcome t :=
  ⟨awake.trans h.awake, h.rests, by rw [same, h.same], by rw [same, h.outcome], by rw [same, h.overtemp]⟩

theorem resting (h : Halted w state outcome s) : (window s w).state = .idle ∨ (window s w).state = .fault := by
  rw [h.same]
  exact h.rests

theorem of_beside (h : Halted w state outcome s) (g : Beside s t) : Halted w state outcome t := by
  refine h.of_window (g.stays_awake.trans h.awake.symm) ?_
  rw [window, g.windows, window]

theorem endMotion (v : WindowId) (o : MotionOutcome) (h : Halted w state outcome s) :
    Halted w state outcome (endMotion v o s) :=
  h.of_window (same_of_motion (endMotion_lessMotion ..) (fun u => u.ctx.state) fun _ => rfl)
    (endMotion_window_resting h.resting)

theorem handOutcome (origin : Option Origin) (v : WindowId) (o : MotionOutcome) (h : Halted w state outcome s) :
    Halted w state outcome (handOutcome origin v o s) := by
  have free : ¬EnginesOwn (window s w) := by
    rcases h.resting with e | e <;> simp [EnginesOwn, e]
  unfold Machine.handOutcome
  split
  · split
    · exact h.of_window (same_of_motion (handStatus_lessMotion ..) (fun u => u.ctx.state) fun _ => rfl)
        (handStatus_window free ..)
    · exact h
  · exact h

/-- A write of a window that leaves the outcome, the state and the flag of the halted one. -/
theorem setWindow {v : WindowId} {x : Window} (h : Halted w state outcome s)
    (same : v = w → x.state = (window s w).state ∧ x.lastOutcome = (window s w).lastOutcome ∧
      x.overtemp = (window s w).overtemp) : Halted w state outcome (setWindow v x s) := by
  by_cases here : v = w
  · subst here
    obtain ⟨st, out, hot⟩ := same rfl
    refine ⟨h.awake, h.rests, ?_, ?_, ?_⟩ <;> rw [window_setWindow]
    · rw [st, h.same]
    · rw [out, h.outcome]
    · rw [hot, h.overtemp]
  · exact h.of_window rfl (window_setWindow_other (Ne.symm here) ..)

theorem setWindow_motion {v : WindowId} {x : Window} {m : Motion} (other : v ≠ w) (h : Halted w state outcome s) :
    Halted w state outcome { Machine.setWindow v x s with motion := m } :=
  h.of_window rfl (window_setWindow_other (Ne.symm other) x s)

theorem activity (h : Halted w state outcome s) : Halted w state outcome (activity s) :=
  h.of_beside (activity_beside (.refl h.awake))

theorem wake (cause : WakeCause) (h : Halted w state outcome s) : Halted w state outcome (wake cause s) :=
  h.of_beside (wake_beside cause (.refl h.awake))

end Halted

theorem ite_halted {c : Prop} [Decidable c] {t u : State} (ht : Halted w state outcome t)
    (hu : Halted w state outcome u) : Halted w state outcome (if c then t else u) := by
  split <;> assumption

theorem foldl_halted {α : Type} {f : State → α → State} {l : List α} (h : Halted w state outcome s)
    (step : ∀ u a, Halted w state outcome u → Halted w state outcome (f u a)) :
    Halted w state outcome (l.foldl f s) := by
  induction l generalizing s with
  | nil => exact h
  | cons a l ih => exact ih (step s a h)

/-! ## Requests (R48) -/

theorem refuseWindow_halted (v : WindowId) (origin : Option Origin) (cause : WindowRefusal)
    (h : Halted w state outcome s) : Halted w state outcome (refuseWindow v origin cause s) := by
  have written : Halted w state outcome (setWindow v { window s v with lastRefusal := some cause } s) :=
    h.setWindow fun here => by subst here; exact ⟨rfl, rfl, rfl⟩
  have free : ¬EnginesOwn (window (setWindow v { window s v with lastRefusal := some cause } s) w) := by
    rcases written.resting with e | e <;> simp [EnginesOwn, e]
  unfold refuseWindow
  refine ite_halted ?_ written
  exact written.of_window (same_of_motion (handStatus_lessMotion ..) (fun u => u.ctx.state) fun _ => rfl)
    (handStatus_window free ..)

/-- A request of another window. -/
theorem acceptRequest_halted {r : WindowRequest} (other : r.window ≠ w) (h : Halted w state outcome s) :
    Halted w state outcome (acceptRequest r s) := by
  have wrote (x : Window) {u : State} (hu : Halted w state outcome u) : Halted w state outcome (setWindow r.window x u) :=
    hu.setWindow fun here => absurd here other
  unfold acceptRequest completeAtOnce placeRequest
  dsimp only
  split
  · exact (wrote _ ((wrote _ h).endMotion ..)).handOutcome ..
  · split
    · exact ((wrote _ h).setWindow_motion other).handOutcome ..
    · split
      · exact (wrote _ (wrote _ h)).handOutcome ..
      · exact (wrote _ h).setWindow_motion other

theorem checkRequest_halted (r : WindowRequest) (h : Halted w state outcome s) :
    Halted w state outcome (checkRequest r s) := by
  have rested : Halted w state outcome (setWindow r.window (heatRest s.now (window s r.window)) s) := by
    refine h.setWindow fun here => ?_
    rw [here]
    unfold heatRest
    split <;> exact ⟨rfl, rfl, rfl⟩
  have refuses (here : r.window = w) (close : Bool) {u : State} (hu : Halted w state outcome u) :
      thermalRefusal r.window close u = some .hot := by
    simp [thermalRefusal, here, hu.overtemp]
  unfold checkRequest
  dsimp only
  split
  · exact refuseWindow_halted _ _ _ h
  · split
    · exact refuseWindow_halted _ _ _ rested
    · next passes =>
      refine acceptRequest_halted (fun here => ?_) rested
      rw [refuses here _ rested] at passes
      cases passes

theorem requestMotion_halted (r : WindowRequest) (h : Halted w state outcome s) :
    Halted w state outcome (requestMotion r s) := by
  unfold requestMotion
  exact ite_halted (checkRequest_halted _ (h.activity.wake _)) h

/-! ## Switches and buttons -/

theorem press_halted (v : WindowId) (origin : Origin) (level : Switch) (h : Halted w state outcome s) :
    Halted w state outcome (press v origin level s) := by
  unfold press
  exact ite_halted h (ite_halted (h.endMotion ..) (requestMotion_halted _ h))

theorem releaseSwitch_halted (v : WindowId) (origin : Origin) (h : Halted w state outcome s) :
    Halted w state outcome (releaseSwitch v origin s) := ite_halted (h.endMotion ..) h

theorem makeAuto_halted (v : WindowId) (origin : Origin) (dir : Direction) (h : Halted w state outcome s) :
    Halted w state outcome (makeAuto v origin dir s) := by
  refine ite_halted (h.setWindow fun here => ?_) h
  subst here
  refine ⟨if_neg ?_, rfl, rfl⟩
  rcases h.resting with e | e <;> simp [e]

theorem interpretEdge_halted (v : WindowId) (origin : Origin) (old new other : Switch) (h : Halted w state outcome s) :
    Halted w state outcome (interpretEdge v origin old new other s) := by
  have under {u : State} (hu : Halted w state outcome u) :
      Halted w state outcome (pressUnder v origin new other u) := by
    have suppressed : Halted w state outcome (setWindow v { window u v with suppressed := true } u) :=
      hu.setWindow fun here => by subst here; exact ⟨rfl, rfl, rfl⟩
    exact ite_halted (press_halted _ _ _ hu) (ite_halted suppressed (press_halted _ _ _ suppressed))
  have released := releaseSwitch_halted v origin h
  unfold interpretEdge
  exact ite_halted released (ite_halted (under h) (ite_halted (makeAuto_halted _ _ _ h)
    (ite_halted (makeAuto_halted _ _ _ h) (ite_halted (under released) h))))

theorem switchEdge_halted (v : WindowId) (origin : Origin) (old new other : Switch) (h : Halted w state outcome s) :
    Halted w state outcome (switchEdge v origin old new other s) :=
  ite_halted h (ite_halted h.activity (interpretEdge_halted _ _ _ _ _ h.activity))

theorem followSettings_halted (before : State) (h : Halted w state outcome s) :
    Halted w state outcome (followSettings before s) := by
  refine foldl_halted h fun u v hu => ?_
  have limited : Halted w state outcome (followLimit before v u) := ite_halted hu (ite_halted (hu.endMotion ..) hu)
  exact ite_halted (limited.endMotion ..) limited

theorem childToggle_halted (h : Halted w state outcome s) : Halted w state outcome (childToggle s) := by
  have aimed (target : ChildTarget) (d : RearDoor) {u : State} (hu : Halted w state outcome u) :
      Halted w state outcome (aimChild target d u) := by
    unfold aimChild actuateChild setChild
    dsimp only
    split <;> exact hu.of_window rfl rfl
  exact ite_halted (followSettings_halted _ (foldl_halted (h.activity.wake _) fun _ _ hu => aimed _ _ hu)) h

theorem packEdges_halted (c : Closure) (old rep : Report) (h : Halted w state outcome s) :
    Halted w state outcome (packEdges c old rep s) := by
  have lock (source : LockSource) (old new : LockSwitch) {u : State} (hu : Halted w state outcome u) :
      Halted w state outcome (lockSwitchEdge source old new u) :=
    hu.of_beside (lockSwitchEdge_beside source old new (.refl hu.awake))
  have child {u : State} (hu : Halted w state outcome u) :
      Halted w state outcome (childButtonEdge old.childButton rep.childButton u) := ite_halted (childToggle_halted hu) hu
  have lockout {u : State} (hu : Halted w state outcome u) :
      Halted w state outcome (lockoutButtonEdge old.lockoutButton rep.lockoutButton u) := by
    have active := hu.activity.wake .button
    exact ite_halted hu (ite_halted (followSettings_halted _ (active.of_window rfl rfl)) active)
  exact lock _ _ _ (lockout (child (lock _ _ _ (foldl_halted h fun _ _ hu => switchEdge_halted _ _ _ _ _ hu))))

theorem takeEdges_halted (c : Closure) (old : Option Report) (rep : Report) (h : Halted w state outcome s) :
    Halted w state outcome (takeEdges c old rep s) := by
  have own (o : Report) {u : State} (hu : Halted w state outcome u) : Halted w state outcome (ownEdge c o rep u) := by
    unfold ownEdge
    split
    · exact switchEdge_halted _ _ _ _ _ hu
    · exact hu
  have cleared (v : WindowId) (level : Switch) {u : State} (hu : Halted w state outcome u) :
      Halted w state outcome (clearSuppressed v level u) :=
    ite_halted (hu.setWindow fun here => by subst here; exact ⟨rfl, rfl, rfl⟩) hu
  have edges : Halted w state outcome (match old with
      | some o =>
        if running s then ownEdge c o rep (if c == driverClosure s then packEdges c o rep s else s) else s
      | none => s) := by
    split
    · exact ite_halted (own _ (ite_halted (packEdges_halted _ _ _ h) h)) h
    · exact h
  unfold takeEdges
  dsimp only
  split
  · exact cleared _ _ edges
  · exact edges

/-! ## The overtemperature flag (R68) -/

/-- The flag leaves its window at rest, and a motion, an entry or a reversal ends STOPPED by it. -/
theorem windowOvertemp_halts (awake : s.ctx.state = .awake) (w : WindowId) : ∃ state outcome,
    Halted w state outcome (windowOvertemp w true s) ∧
      ((window s w).state ≠ .idle → (window s w).state ≠ .fault → state = .idle ∧ outcome = some .stopped) := by
  let u := setWindow w { window s w with overtemp := true } s
  have own : window u w = { window s w with overtemp := true } := window_setWindow ..
  have told : windowOvertemp w true s = endMotion w .stopped u := rfl
  have stays : (endMotion w .stopped u).ctx.state = .awake :=
    (same_of_motion (endMotion_lessMotion ..) (fun u => u.ctx.state) fun _ => rfl).trans awake
  by_cases rests : (window s w).state = .idle ∨ (window s w).state = .fault
  · have still : window (endMotion w .stopped u) w = { window s w with overtemp := true } :=
      (endMotion_window_resting (by rw [own]; exact rests)).trans own
    refine ⟨(window s w).state, (window s w).lastOutcome, ⟨stays, rests, ?_, ?_, ?_⟩, fun notIdle notFault => ?_⟩
    · rw [told, still]
    · rw [told, still]
    · rw [told, still]
    · exact absurd rests (by simp [notIdle, notFault])
  · have out : (window u w).state = .waiting ∨ windowMoving (window u w) = true := by
      rw [own]
      revert rests
      simp only [windowMoving]
      cases (window s w).state <;> simp
    have ended := endMotion_ended (outcome := .stopped) (by simp) out
    obtain ⟨idle, outcome, -⟩ := endMotionRecord_ended (outcome := .stopped) (by simp) out
    have kept : (window (endMotionRecord w .stopped u) w).overtemp = (window u w).overtemp := by
      have waiting : window (endWaiting w .stopped u) w = _ := window_setWindow ..
      have running : window (endRunning w (some .stopped) u) w = _ := window_setWindow ..
      unfold endMotionRecord
      split
      · rw [waiting]
      · split
        · rw [running, endedRecord]
          split <;> rfl
        · rfl
    refine ⟨.idle, some .stopped, ⟨stays, .inl rfl, ?_, ?_, ?_⟩, fun _ _ => ⟨rfl, rfl⟩⟩
    · rw [told, ended, idle]
    · rw [told, ended, outcome]
    · rw [told, ended, kept, own]

end

end Sys2Proof.Machine
end

section
/-!
PROOFS. What a motor report makes of its own window is settled by that window, its settings and limit, the time and the
vehicle context alone (R43, R62, R70 to R91).
-/

namespace Sys2Proof.Machine

/-- Two states agree in all that a motor report's own window depends on. -/
structure OwnSame (w : WindowId) (s t : State) : Prop where
  window : window s w = window t w
  cfg : windowCfg s w = windowCfg t w
  profile : s.cfg.profiles.get w = t.cfg.profiles.get w
  limit : currentLimit s w = currentLimit t w
  now : s.now = t.now
  voltage : pinchVoltage s = pinchVoltage t
  rough : rough s = rough t

section
variable {w : WindowId} {s t u v : State}

theorem lessMotion_fields (f : State → State) (rest : lessMotion (f s) = lessMotion s) :
    windowCfg (f s) w = windowCfg s w ∧ (f s).cfg.profiles = s.cfg.profiles ∧ currentLimit (f s) w = currentLimit s w ∧
      (f s).now = s.now ∧ pinchVoltage (f s) = pinchVoltage s ∧ rough (f s) = rough s :=
  ⟨same_of_motion rest (fun u => windowCfg u w) fun _ => rfl, same_of_motion rest (fun u => u.cfg.profiles) fun _ => rfl,
    same_of_motion rest (fun u => currentLimit u w) fun _ => rfl, same_of_motion rest State.now fun _ => rfl,
    same_of_motion rest pinchVoltage fun _ => rfl, same_of_motion rest rough fun _ => rfl⟩

namespace OwnSame

/-- One operation of the windows and the engine in both states. -/
theorem through (h : OwnSame w s t) (f : State → State) (rest : ∀ x, lessMotion (f x) = lessMotion x)
    (same : Machine.window (f s) w = Machine.window (f t) w) : OwnSame w (f s) (f t) := by
  obtain ⟨cfg, profile, limit, now, voltage, rough⟩ := lessMotion_fields (w := w) f (rest s)
  obtain ⟨cfg', profile', limit', now', voltage', rough'⟩ := lessMotion_fields (w := w) f (rest t)
  exact ⟨same, by rw [cfg, cfg', h.cfg], by rw [profile, profile', h.profile], by rw [limit, limit', h.limit],
    by rw [now, now', h.now], by rw [voltage, voltage', h.voltage], by rw [rough, rough', h.rough]⟩

theorem setWindow (h : OwnSame w s t) (x : Window) : OwnSame w (setWindow w x s) (setWindow w x t) :=
  h.through (Machine.setWindow w x) (fun _ => rfl) (by rw [window_setWindow, window_setWindow])

theorem ite {c d : Prop} [Decidable c] [Decidable d] (same : c ↔ d) (yes : OwnSame w s t) (no : OwnSame w u v) :
    OwnSame w (if c then s else u) (if d then t else v) := by
  by_cases h : c
  · rw [if_pos h, if_pos (same.mp h)]
    exact yes
  · rw [if_neg h, if_neg fun g => h (same.mpr g)]
    exact no

theorem endRunning (h : OwnSame w s t) (outcome : Option MotionOutcome) :
    OwnSame w (endRunning w outcome s) (endRunning w outcome t) := by
  refine h.through (Machine.endRunning w outcome) (fun _ => rfl) ?_
  have own (x : State) : Machine.window (Machine.endRunning w outcome x) w =
      endedRecord (windowCfg x w).travel outcome (Machine.window x w) := window_setWindow ..
  rw [own, own, h.cfg, h.window]

theorem endMotion (h : OwnSame w s t) {outcome : MotionOutcome} (kept : outcome ≠ .lost) :
    OwnSame w (endMotion w outcome s) (endMotion w outcome t) := by
  refine h.through (Machine.endMotion w outcome) (fun _ => endMotion_lessMotion ..) ?_
  have waiting (x : State) : Machine.window (endWaiting w outcome x) w = _ := window_setWindow ..
  have running (x : State) : Machine.window (Machine.endRunning w (some outcome) x) w = _ := window_setWindow ..
  by_cases out : (Machine.window s w).state = .waiting ∨ windowMoving (Machine.window s w) = true
  · rw [endMotion_ended kept out, endMotion_ended kept (h.window ▸ out), endMotionRecord, endMotionRecord, ← h.window]
    split
    · rw [waiting, waiting, h.window]
    · split
      · rw [running, running, h.window, h.cfg]
      · exact h.window
  · have rests : (Machine.window s w).state = .idle ∨ (Machine.window s w).state = .fault := by
      revert out
      simp only [windowMoving]
      cases (Machine.window s w).state <;> simp
    rw [endMotion_window_resting rests, endMotion_window_resting (h.window ▸ rests), h.window]

theorem endIfReached (h : OwnSame w s t) : OwnSame w (endIfReached w s) (endIfReached w t) := by
  have target : effectiveTarget s w = effectiveTarget t w := by rw [effectiveTarget, h.window, h.limit, effectiveTarget]
  unfold Machine.endIfReached
  dsimp only
  exact .ite (by rw [target, h.window]) (h.endMotion nofun) h

theorem takePinch (h : OwnSame w s t) (cause : PinchCause) (zone current : Nat) :
    OwnSame w (takePinch w cause zone current s) (takePinch w cause zone current t) := by
  have rest (x : State) : lessMotion (Machine.takePinch w cause zone current x) = lessMotion x := by
    unfold Machine.takePinch handOutcome
    refine (lessMotion_of_traffic (raiseWith_rest ..)).trans ?_
    split
    · exact handStatus_lessMotion ..
    · rfl
  refine h.through (Machine.takePinch w cause zone current) rest ?_
  rw [takePinch_window, takePinch_window, h.cfg, h.window]

theorem setProfile (h : OwnSame w s t) (profile : List Nat) :
    OwnSame w (setProfile w profile s) (setProfile w profile t) := by
  refine ⟨h.window, h.cfg, ?_, h.limit, h.now, h.voltage, h.rough⟩
  have own (x : State) : (Machine.setProfile w profile x).cfg.profiles.get w = profile := Four.get_set_same ..
  rw [own, own]

theorem endStop (h : OwnSame w s t) : OwnSame w (endStop w s) (endStop w t) := by
  unfold Machine.endStop
  dsimp only
  rw [h.window, h.profile]
  exact ((OwnSame.ite Iff.rfl (h.setProfile _) h).setWindow _).endMotion nofun

theorem carryOut (h : OwnSame w s t) (zone current : Nat) (decision : Decision) :
    OwnSame w (carryOut w zone current decision s) (carryOut w zone current decision t) := by
  cases decision with
  | none => exact h
  | endStop => exact h.endStop
  | normHold =>
    unfold Machine.carryOut
    dsimp only
    rw [h.window, h.now]
    exact h.setWindow _
  | pinch cause => exact h.takePinch ..

theorem closingReport (h : OwnSame w s t) (d i : Nat) : OwnSame w (closingReport w d i s) (closingReport w d i t) := by
  have level (p : WindowSettings) : threshold s p = threshold t p := by rw [threshold, h.rough, threshold]
  unfold Machine.closingReport
  dsimp only
  rw [h.window, h.cfg, h.voltage, h.profile, level]
  exact (OwnSame.ite Iff.rfl ((h.setWindow _).carryOut ..) (h.setWindow _)).endIfReached

theorem openingReport (h : OwnSame w s t) (d : Nat) : OwnSame w (openingReport w d s) (openingReport w d t) := by
  unfold Machine.openingReport
  dsimp only
  rw [h.window, h.cfg]
  exact .ite Iff.rfl ((h.setWindow _).endMotion nofun) (h.setWindow _).endIfReached

theorem reversalReport (h : OwnSame w s t) (d : Nat) : OwnSame w (reversalReport w d s) (reversalReport w d t) := by
  unfold Machine.reversalReport
  dsimp only
  rw [h.window, h.cfg]
  exact .ite Iff.rfl ((h.setWindow _).endRunning _) (h.setWindow _)

theorem coastReport (h : OwnSame w s t) (dir : Direction) (d : Nat) :
    OwnSame w (coastReport w dir d s) (coastReport w dir d t) := by
  unfold Machine.coastReport
  rw [h.window, h.cfg]
  exact h.setWindow _

theorem motorData (h : OwnSame w s t) (d i : Nat) : OwnSame w (motorData w d i s) (motorData w d i t) := by
  unfold Machine.motorData
  dsimp only
  rw [h.window]
  split
  · exact .ite Iff.rfl (h.closingReport d i) (h.coastReport ..)
  · exact .ite Iff.rfl (.ite Iff.rfl (h.reversalReport d) (h.openingReport d)) (h.coastReport ..)
  · split
    · exact h.coastReport ..
    · exact h

/-- The motor report of the window. -/
theorem windowReport (h : OwnSame w s t) (rep : Report) : OwnSame w (windowReport w rep s) (windowReport w rep t) := by
  unfold Machine.windowReport
  dsimp only
  rw [h.window, h.now]
  exact (h.setWindow _).motorData ..

end OwnSame

end

end Sys2Proof.Machine
end

section
/-!
PROOFS. A good report in RUN, item by item, and its node faults (R68, R160, R165, R168, R175).
-/

namespace Sys2Proof.Machine

/-! ## The items of a good report -/

/-- The state with the report counted and its node recovered (R165, R168 A). -/
def reportCounted (c : Closure) (rep : Report) (s : State) : State :=
  recoverNode c (setChannel c (countGood rep (channel s c)) s)

/-- The state with the locks and the motor data taken (R168 B, C). -/
def motorTaken (c : Closure) (rep : Report) (s : State) : State :=
  takeMotor c rep (takeLocks c rep (nodeLost s c) (reportCounted c rep s))

/-- The report that a channel's next one is compared with (R169). -/
def comparedReport (s : State) (c : Closure) : Option Report :=
  if (channel s c).comparable then (channel s c).lastReport else none

/-- NODE_FAULT raised where a new flag shows (R175). -/
def faultRaised (c : Closure) (old : Option Report) (rep : Report) (s : State) : State :=
  if running s && newFault old rep then raise .nodeFault (some c) s else s

/-- The items D to G of R168. -/
def reportHandled (c : Closure) (old : Option Report) (rep : Report) (s : State) : State :=
  takeUplink c rep (handleEvents c rep (takeEdges c old rep (takeFaults c old rep s)))

/-- Item H of R168, and the group that follows. -/
def reportKept (c : Closure) (rep : Report) (awake : Bool) (s : State) : State :=
  followGroup (setChannel c (recordReport rep awake (channel s c)) s)

theorem reportRecorded_eq (c : Closure) (rep : Report) (s : State) : reportRecorded c rep s =
    reportKept c rep (isAwake s) (reportHandled c (comparedReport s c) rep (motorTaken c rep s)) := rfl

/-- A write of a channel that keeps its rate. -/
theorem setChannel_rates {c : Closure} {ch : Channel} {s : State} (rate : ch.rate = (channel s c).rate) (d : Closure) :
    (channel (setChannel c ch s) d).rate = (channel s d).rate := by
  by_cases here : d = c
  · rw [here, channel_setChannel, rate]
  · rw [channel_setChannel_other here]

section
variable {s : State} (c : Closure) (rep : Report)

/-- The fields that the count and the recovery leave, and the rates. -/
theorem reportCounted_fields : (reportCounted c rep s).stage = s.stage ∧ (reportCounted c rep s).now = s.now ∧
    (reportCounted c rep s).cfg = s.cfg ∧ (reportCounted c rep s).ctx = s.ctx ∧
    (reportCounted c rep s).faults = s.faults ∧ (reportCounted c rep s).children = s.children ∧
    ∀ d, (channel (reportCounted c rep s) d).rate = (channel s d).rate := by
  let v := setChannel c (countGood rep (channel s c)) s
  have counted (d : Closure) : (channel v d).rate = (channel s d).rate :=
    setChannel_rates (ch := countGood rep (channel s c)) rfl d
  have linked (d : Closure) : (channel (setChannel c { channel v c with link := .present } v) d).rate = (channel s d).rate :=
    (setChannel_rates (ch := { channel v c with link := .present }) rfl d).trans (counted d)
  unfold reportCounted recoverNode windowRecovered
  dsimp only
  split
  · split <;> exact ⟨rfl, rfl, rfl, rfl, rfl, rfl, linked⟩
  · exact ⟨rfl, rfl, rfl, rfl, rfl, rfl, counted⟩

variable {b : State}

theorem motorTaken_serving (awake : s.ctx.state = .awake) : Serving (reportCounted c rep s) (motorTaken c rep s) := by
  obtain ⟨-, -, -, ctx, -⟩ := reportCounted_fields (s := s) c rep
  exact takeMotor_serving _ _ (takeLocks_serving _ _ _ (.refl (by rw [ctx, awake])))

theorem takeFaults_eq (old : Option Report) : takeFaults c old rep s =
    match closureWindow c with
    | some w => windowOvertemp w rep.overtemp (faultRaised c old rep s)
    | none => faultRaised c old rep s := rfl

theorem reportHandled_serving (old : Option Report) (awake : s.ctx.state = .awake) :
    Serving (faultRaised c old rep s) (reportHandled c old rep s) := by
  have raised : (faultRaised c old rep s).ctx.state = .awake := by
    unfold faultRaised
    split
    · exact (same_of_rest (raise_rest ..) (fun u => u.ctx.state) fun _ => rfl).trans awake
    · exact awake
  have flagged : Serving (faultRaised c old rep s) (takeFaults c old rep s) := by
    rw [takeFaults_eq]
    split
    · exact windowOvertemp_serving _ _ (.refl raised)
    · exact .refl raised
  have edges := takeEdges_serving c old rep flagged
  have handled := edges.of_beside (handleEvents_beside c rep (.refl edges.stays_awake))
  exact handled.of_beside (takeUplink_beside c rep (.refl handled.stays_awake))

/-! ## The close of the step -/

theorem faultRaised_rest (old : Option Report) : lessTraffic (faultRaised c old rep s) = lessTraffic s := by
  unfold faultRaised
  split
  · exact raise_rest ..
  · rfl

/-- The awake part as a good report leaves it is calm, and its fault table is that of NODE_FAULT's raise. -/
theorem reportRecorded_calm (steady : Steady s) : Calm (reportRecorded c rep s) ∧
    (reportRecorded c rep s).stage = .run ∧
    ∀ cls, cls ≠ .txOverflow → cls ≠ .pinch → faultRecord (reportRecorded c rep s) cls =
      faultRecord (faultRaised c (comparedReport s c) rep (motorTaken c rep s)) cls := by
  let m := motorTaken c rep s
  let r := faultRaised c (comparedReport s c) rep m
  let u := reportHandled c (comparedReport s c) rep m
  let k := setChannel c (recordReport rep (isAwake s) (channel u c)) u
  obtain ⟨stage, -, cfg, ctx, -, -, rates⟩ := reportCounted_fields (s := s) c rep
  have motor : Serving (reportCounted c rep s) m := motorTaken_serving c rep (steady.awake steady.run)
  have handled : Serving r u := reportHandled_serving c rep (comparedReport s c) motor.stays_awake
  have raised : lessTraffic r = lessTraffic m := faultRaised_rest c rep _
  obtain ⟨stage₁, -, modes₁, channels₁, state₁, ignition₁⟩ := motor.eqs
  obtain ⟨stage₂, -, modes₂, channels₂, state₂, ignition₂⟩ := handled.eqs
  have rest {α : Type} (f : State → α) (hf : ∀ u, f (lessTraffic u) = f u) : f r = f m := same_of_rest raised f hf
  have rated (d : Closure) : (channel k d).rate = (channel s d).rate := by
    rw [setChannel_rates (ch := recordReport rep (isAwake s) (channel u c)) rfl d, channel, channels₂,
      rest State.channels fun _ => rfl, channels₁]
    exact rates d
  have calm : Calm k := Calm.of_rates steady.toCalm
    (by rw [← stage, ← stage₁, ← rest State.stage fun _ => rfl]; exact stage₂)
    (by rw [← ctx, ← state₁, ← rest (fun u => u.ctx.state) fun _ => rfl]; exact state₂)
    (by rw [← ctx, ← ignition₁, ← rest (fun u => u.ctx.ignition) fun _ => rfl]; exact ignition₂)
    (by rw [← cfg, ← modes₁, ← rest (fun u => u.cfg.modes) fun _ => rfl]; exact modes₂) rated
  have run : k.stage = .run := by
    rw [← steady.run, ← stage, ← stage₁, ← rest State.stage fun _ => rfl]
    exact stage₂
  have followed : Serving k (followGroup k) :=
    (Serving.refl (calm.awake run)).of_beside (followGroup_beside (.refl (calm.awake run)))
  obtain ⟨stage₃, -, modes₃, channels₃, state₃, ignition₃⟩ := followed.eqs
  have same : reportRecorded c rep s = followGroup k := rfl
  rw [same]
  refine ⟨Calm.of_rates calm stage₃ state₃ ignition₃ modes₃ fun d => by rw [channel, channels₃, channel],
    stage₃.trans run, fun cls tx pinch => ?_⟩
  exact (followed.record cls tx pinch).trans (handled.record cls tx pinch)

/-- A report that is due comes in an open cycle (R165). -/
theorem cycleOpen_due {c : Closure} {rep : Report} {dt : Nat} {record : List Byte} {s : State}
    (due : ReportDue dt c record rep s) : cycleOpen (elapse dt s) c = true := by
  obtain ⟨d, ends, late⟩ := due.due
  have first : (channel (elapse dt s) c).answered = false := due.first
  have until_ : (channel (elapse dt s) c).cycleEnd = some d := ends
  simp [cycleOpen, live, first, until_, late]

/-- A good report in RUN: the close of the step may note activity. -/
theorem exec_goodReport {dt : Nat} {record : List Byte} {s : State} {rep : Report}
    (due : ReportDue dt c record rep s) : ∃ u, exec (.nodeReport dt c record) s = .next u ∧
      AgreeButActivity u (reportRecorded c rep (elapse dt s)) := by
  obtain ⟨calm, run, -⟩ := reportRecorded_calm c rep (due.steady.elapse dt)
  refine ⟨_, exec_nodeReport due.steady.supplied (cycleOpen_due due) due.read, ?_⟩
  rw [goodReport_eq, pollCheck_run run]
  exact finish_calm_agrees _ calm

end

end Sys2Proof.Machine
end

section
/-!
PROOFS. The node faults of a good report: NODE_FAULT, and a window that overtemperature stops (R64, R68, R168, R174, R175).
-/

namespace Sys2Proof.Machine

theorem newFault_iff (rep : Report) (old : Option Report) : newFault old rep = true ↔ ShowsFault rep old := by
  cases old <;> simp [newFault, ShowsFault, or_assoc]

section
variable {s t : State} {c : Closure} {rep : Report} {w : WindowId}

/-! ## The window before its motor data (R64, R174) -/

theorem OwnSame.trans {u : State} (h : OwnSame w s t) (g : OwnSame w t u) : OwnSame w s u :=
  ⟨h.window.trans g.window, h.cfg.trans g.cfg, h.profile.trans g.profile, h.limit.trans g.limit, h.now.trans g.now,
    h.voltage.trans g.voltage, h.rough.trans g.rough⟩

/-- The child-lock target alone moves a window's limit (R37). -/
theorem currentLimit_congr (cfg : t.cfg = s.cfg) (target : ∀ d, (child t d).target = (child s d).target)
    (w : WindowId) : currentLimit t w = currentLimit s w := by
  unfold currentLimit windowCfg
  simp only [cfg, target]

/-- The windows, the settings, the child-lock targets and the context but for the activity. -/
theorem ownSame_of_fields (windows : t.windows = s.windows) (cfg : t.cfg = s.cfg)
    (target : ∀ d, (child t d).target = (child s d).target) (now : t.now = s.now)
    (ctx : quietCtx t.ctx = quietCtx s.ctx) (w : WindowId) : OwnSame w t s := by
  have context {α : Type} (f : Context → α) (hf : ∀ x, f (quietCtx x) = f x) : f t.ctx = f s.ctx := by
    rw [← hf, ctx, hf]
  have speed : t.ctx.speed = s.ctx.speed := context Context.speed fun _ => rfl
  have speedUntil : t.ctx.speedFresh = s.ctx.speedFresh := context Context.speedFresh fun _ => rfl
  have voltage : t.ctx.voltage = s.ctx.voltage := context Context.voltage fun _ => rfl
  have voltageUntil : t.ctx.voltageFresh = s.ctx.voltageFresh := context Context.voltageFresh fun _ => rfl
  have fresh : voltageFresh t = voltageFresh s := by rw [voltageFresh, now, voltageUntil, voltageFresh]
  refine ⟨by rw [window, windows, window], by rw [windowCfg, cfg, windowCfg], by rw [cfg],
    currentLimit_congr cfg target w, now, by rw [pinchVoltage, fresh, voltage, pinchVoltage], ?_⟩
  rw [rough, speedFresh, now, speedUntil, speed, fresh, rough, speedFresh]

/-- What the lock group does reaches no window. -/
theorem Beside.ownSame (h : Beside s t) (w : WindowId) : OwnSame w t s := by
  have fields := h.same
  simp only [Prod.mk.injEq] at fields
  obtain ⟨-, now, cfg, -, children, windows, -, -, -, ctx⟩ := fields
  exact ownSame_of_fields windows cfg (fun d => by rw [child, children, child]) now ctx w

theorem childPhaseReport_target (now : Nat) (k : ChildLock) : (childPhaseReport now k).target = k.target := by
  unfold childPhaseReport childDrive childStand
  split <;> split <;> rfl

/-- What a change of latch may write besides the activity (R2, R22, R23, R51). -/
def latchTold (c : Closure) (opened : Bool) (retained : Option Nat) (group : LockGroup) (s : State) : State :=
  { s with
    closures := s.closures.set c { closure s c with openedSinceUnlock := opened }, group := group
    motion := { s.motion with retained := retained } }

/-- A change of latch in an awake part with the ignition on ends no motion and wakes nothing. -/
theorem latchChanged_told (on : s.ctx.ignition = .run) (awake : s.ctx.state = .awake) (c : Closure)
    (old new : Latch) : ∃ opened retained group,
      AgreeButActivity (latchChanged c old new s) (latchTold c opened retained group s) := by
  have same : latchTold c (closure s c).openedSinceUnlock s.motion.retained s.group s = s := by
    unfold latchTold
    have record : s.closures.set c { closure s c with openedSinceUnlock := (closure s c).openedSinceUnlock } =
        s.closures := Five.set_get ..
    rw [record]
  have ajar : ∃ opened retained group, (if new == .ajar then
      let s := setClosure c { closure s c with openedSinceUnlock := true } s
      let s := { s with group := { s.group with relockTimer := none, driveAwayArmed := true } }
      if c == .fl || c == .fr then dropRetained s else s
      else s) = latchTold c opened retained group s := by
    split
    · let group := { s.group with relockTimer := none, driveAwayArmed := true }
      dsimp only
      split
      · exact ⟨true, none, group, dropRetained_on (s := latchTold c true s.motion.retained group s) on⟩
      · exact ⟨true, s.motion.retained, group, rfl⟩
    · exact ⟨_, _, _, same.symm⟩
  obtain ⟨opened, retained, group, ajar⟩ := ajar
  unfold latchChanged
  split
  · exact ⟨_, _, _, congrArg lessActivity same.symm⟩
  · refine ⟨opened, retained, group, ?_⟩
    dsimp only at ajar ⊢
    rw [ajar]
    let u := latchTold c opened retained group s
    have noted : AgreeButActivity (if old == .unknown || new == .unknown then u else activity u) u := by
      split
      · rfl
      · exact activity_agreesWith u
    generalize (if old == .unknown || new == .unknown then u else activity u) = x at noted
    have judged : AgreeButActivity (if old == .ajar || new == .ajar then recomputeIdle x else x) u := by
      split
      · exact (show AgreeButActivity (recomputeIdle x) x from rfl).trans noted
      · exact noted
    generalize (if old == .ajar || new == .ajar then recomputeIdle x else x) = y at judged
    have stays : y.ctx.state = .awake := (judged.same (fun v => v.ctx.state) fun _ => rfl).trans awake
    split
    · rw [wake_awake .latch stays]
      exact judged
    · exact judged

/-- The locks and the latch read from a report, before the group follows (R12 to R18, R29 to R33). -/
def locksRead (c : Closure) (rep : Report) (recovery : Bool) (s : State) : State :=
  match closureRear c with
  | some d => childReport d rep.childSensed (lockReport c rep recovery s)
  | none => lockReport c rep recovery s

theorem takeLocks_eq (c : Closure) (rep : Report) (recovery : Bool) (s : State) :
    takeLocks c rep recovery s = followGroup (locksRead c rep recovery s) := rfl

/-- The closure's record that a report in RUN gives, before the latch is judged (R12 to R18, R28). -/
def lockSeen (c : Closure) (rep : Report) (recovery : Bool) (s : State) : ClosureLock :=
  let old := closure s c
  let sensed := sensedOf c rep.lockSensed
  { phaseReport s.now rep.pulseActive (old.sensed != sensed || old.senseWaits) recovery
      { old with sensed := sensed, latch := latchOf rep.ajar } with
    senseWaits := old.senseWaits && (manualTarget sensed).isNone }

theorem phaseReport_known (now : Nat) (pulse changed recovery : Bool) (k : ClosureLock) :
    (phaseReport now pulse changed recovery k).sensed = k.sensed ∧
      (phaseReport now pulse changed recovery k).latch = k.latch := by
  have manual : (followManual k).sensed = k.sensed ∧ (followManual k).latch = k.latch := by
    unfold followManual
    split <;> exact ⟨rfl, rfl⟩
  have stands : (standAt .idle k).sensed = k.sensed ∧ (standAt .idle k).latch = k.latch :=
    ⟨standAt_sensed .., standAt_latch ..⟩
  unfold phaseReport
  dsimp only
  split
  · split <;> exact ⟨rfl, rfl⟩
  · split
    · exact stands
    · exact ⟨rfl, rfl⟩
  · split
    · split <;> exact ⟨rfl, rfl⟩
    · split
      · exact stands
      · exact ⟨rfl, rfl⟩
  · split
    · exact stands
    · split
      · exact manual
      · exact ⟨rfl, rfl⟩
  · split
    · exact manual
    · exact ⟨rfl, rfl⟩

theorem lockReport_run (run : s.stage = .run) (recovery : Bool) : lockReport c rep recovery s =
    latchChanged c (closure s c).latch (latchOf rep.ajar) (setClosure c (lockSeen c rep recovery s) s) := by
  have running : running s = true := by simp [Machine.running, run]
  have latch : (lockSeen c rep recovery s).latch = latchOf rep.ajar := (phaseReport_known ..).2
  unfold lockReport
  dsimp only
  rw [if_pos running]
  conv_rhs => rw [← latch]
  rfl

/-- What the reading of the locks leaves in an awake part with the ignition on, and what is then known of the lock. -/
structure LocksRead (c : Closure) (rep : Report) (s t : State) : Prop where
  windows : t.windows = s.windows
  cfg : t.cfg = s.cfg
  channels : t.channels = s.channels
  now : t.now = s.now
  stage : t.stage = s.stage
  faults : t.faults = s.faults
  ctx : quietCtx t.ctx = quietCtx s.ctx
  target : ∀ d, (child t d).target = (child s d).target
  known : knownLocks t.closures c = (sensedOf c rep.lockSensed, latchOf rep.ajar)

theorem locksRead_read (run : s.stage = .run) (on : s.ctx.ignition = .run) (awake : s.ctx.state = .awake)
    (recovery : Bool) : LocksRead c rep s (locksRead c rep recovery s) := by
  obtain ⟨opened, retained, group, agrees⟩ := latchChanged_told (s := setClosure c (lockSeen c rep recovery s) s) on awake
    c (closure s c).latch (latchOf rep.ajar)
  have same {α : Type} (f : State → α) (hf : ∀ u, f (lessActivity u) = f u) : f (lockReport c rep recovery s) =
      f (latchTold c opened retained group (setClosure c (lockSeen c rep recovery s) s)) := by
    rw [lockReport_run run]
    exact agrees.same f hf
  have lock : LocksRead c rep s (lockReport c rep recovery s) := by
    refine ⟨same State.windows fun _ => rfl, same State.cfg fun _ => rfl, same State.channels fun _ => rfl,
      same State.now fun _ => rfl, same State.stage fun _ => rfl, same State.faults fun _ => rfl,
      same (fun u => quietCtx u.ctx) fun _ => rfl, fun d => same (fun u => (child u d).target) fun _ => rfl, ?_⟩
    rw [same (fun u => knownLocks u.closures c) fun _ => rfl]
    simp only [knownLocks, latchTold, Five.get_set_same, closure_setClosure]
    obtain ⟨sensed, latch⟩ := phaseReport_known s.now rep.pulseActive
      ((closure s c).sensed != sensedOf c rep.lockSensed || (closure s c).senseWaits) recovery
      { closure s c with sensed := sensedOf c rep.lockSensed, latch := latchOf rep.ajar }
    exact Prod.ext sensed latch
  unfold locksRead childReport
  split
  · next d _ =>
    refine ⟨lock.windows, lock.cfg, lock.channels, lock.now, lock.stage, lock.faults, lock.ctx, fun e => ?_, lock.known⟩
    rw [← lock.target e]
    by_cases here : e = d
    · subst here
      rw [child_setChild]
      split
      · exact childPhaseReport_target ..
      · rfl
    · rw [child_setChild_other here]
  · exact lock

theorem LocksRead.ownSame (h : LocksRead c rep s t) (w : WindowId) : OwnSame w t s :=
  ownSame_of_fields h.windows h.cfg h.target h.now h.ctx w

theorem LocksRead.stays_awake (h : LocksRead c rep s t) (awake : s.ctx.state = .awake) : t.ctx.state = .awake :=
  (congrArg Context.state h.ctx : (quietCtx t.ctx).state = (quietCtx s.ctx).state).trans awake

/-- The locks of a report reach no window. -/
theorem takeLocks_ownSame (run : s.stage = .run) (on : s.ctx.ignition = .run) (awake : s.ctx.state = .awake)
    (recovery : Bool) (w : WindowId) : OwnSame w (takeLocks c rep recovery s) s := by
  have read : LocksRead c rep s (locksRead c rep recovery s) := locksRead_read run on awake recovery
  rw [takeLocks_eq]
  exact ((followGroup_beside (.refl (read.stays_awake awake))).ownSame w).trans (read.ownSame w)

end

end Sys2Proof.Machine
end

section
/-!
PROOFS. The node faults of a good report: NODE_FAULT, and a window that overtemperature stops (R64, R68, R168, R174, R175).
-/

namespace Sys2Proof.Machine

section
variable {s t : State} {c : Closure} {rep : Report} {w : WindowId}

/-! ## The window of a recovered node (R64, R174) -/

/-- The heat after a report (R64 A and B). -/
def heated (now : Nat) (x : Window) : Window := if motorRunning x then heatUp now x else heatDecay now x

theorem windowReport_eq (w : WindowId) (rep : Report) (s : State) :
    windowReport w rep s = motorData w rep.ripple rep.current (setWindow w (heated s.now (window s w)) s) := rfl

theorem heatDecay_again (now : Nat) (x : Window) : heatDecay now (heatDecay now x) = heatDecay now x := by
  have none : (now - (x.heatStamp + 10 * ((now - x.heatStamp) / 10))) / 10 = 0 := by omega
  simp only [heatDecay, none, Nat.sub_zero, Nat.mul_zero, Nat.add_zero, Bool.and_assoc, Bool.and_self]

/-- The decay before a report is no other than the report's own. -/
theorem heated_heatRest (now : Nat) (x : Window) : heated now (heatRest now x) = heated now x := by
  unfold heatRest
  split
  · rfl
  · next rests =>
    have still : ¬motorRunning (heatDecay now x) = true := rests
    rw [heated, if_neg still, heatDecay_again, heated, if_neg rests]

theorem windowReport_heatRest (w : WindowId) (rep : Report) (s : State) :
    windowReport w rep (setWindow w (heatRest s.now (window s w)) s) = windowReport w rep s := by
  have again (x y : Window) : setWindow w x (setWindow w y s) = setWindow w x s := by
    simp [setWindow]
  rw [windowReport_eq, window_setWindow, setWindow_now, heated_heatRest, again, windowReport_eq]

/-- A window in FAULT stays there through a motor report. -/
theorem windowReport_fault (fault : (window s w).state = .fault) : (window (windowReport w rep s) w).state = .fault := by
  have coasts (dir : Direction) (d : Nat) (x : State) :
      (window (coastReport w dir d x) w).state = (window x w).state := by
    unfold coastReport
    rw [window_setWindow]
    cases dir <;> rfl
  have own : (window (setWindow w (heated s.now (window s w)) s) w).state = .fault := by
    rw [window_setWindow, heated]
    split <;> exact fault
  rw [windowReport_eq]
  generalize setWindow w (heated s.now (window s w)) s = u at own
  have still (dir : Direction) : ¬answersMotion dir (window u w) = true := by
    simp [answersMotion, windowMoving, own]
  unfold motorData
  dsimp only
  split
  · rw [if_neg (still _), coasts, own]
  · rw [if_neg (still _), coasts, own]
  · split
    · rw [coasts, own]
    · exact own

theorem reportCounted_present (present : (channel s c).link ≠ .lost) :
    reportCounted c rep s = setChannel c (countGood rep (channel s c)) s := by
  have linked : nodeLost (setChannel c (countGood rep (channel s c)) s) c = false := by
    simpa [nodeLost, countGood] using present
  unfold reportCounted recoverNode
  rw [if_neg (by simp [linked])]

/-- A recovered node: its channel is counted and PRESENT, and its window is rested and leaves FAULT. -/
theorem reportCounted_lost (own : closureWindow c = some w) (lost : (channel s c).link = .lost) :
    reportCounted c rep s =
      setWindow w (leaveFault (heatRest s.now (window s w)))
        (setChannel c { countGood rep (channel s c) with link := .present } s) := by
  have linked : nodeLost (setChannel c (countGood rep (channel s c)) s) c = true := by
    simpa [nodeLost, countGood] using lost
  have twice (ch ch' : Channel) : setChannel c ch (setChannel c ch' s) = setChannel c ch s := by
    simp [setChannel]
  unfold reportCounted recoverNode
  dsimp only
  rw [if_pos linked, channel_setChannel, twice]
  simp only [own]
  rfl

variable (run : s.stage = .run) (on : s.ctx.ignition = .run) (awake : s.ctx.state = .awake)
include run on awake

/-- A motion or entry that the motor data leave, the locks taken first leave too. -/
theorem motorTaken_state (own : windowClosure w = c) (notFault : (window (windowReport w rep s) w).state ≠ .fault) :
    window (motorTaken c rep s) w = window (windowReport w rep s) w := by
  have here : closureWindow c = some w := closureWindow_eq.mpr own
  obtain ⟨stage, -, -, ctx, -⟩ := reportCounted_fields (s := s) c rep
  have locks : OwnSame w (takeLocks c rep (nodeLost s c) (reportCounted c rep s)) (reportCounted c rep s) :=
    takeLocks_ownSame (stage.trans run) (by rw [ctx, on]) (by rw [ctx, awake]) _ w
  have motor : motorTaken c rep s = windowReport w rep (takeLocks c rep (nodeLost s c) (reportCounted c rep s)) := by
    unfold motorTaken takeMotor
    rw [here]
  rw [motor, (locks.windowReport rep).window]
  by_cases lost : (channel s c).link = .lost
  · have moved : (window s w).state ≠ .fault := fun fault => notFault (windowReport_fault fault)
    have rested : leaveFault (heatRest s.now (window s w)) = heatRest s.now (window s w) := by
      refine if_neg ?_
      have state : (heatRest s.now (window s w)).state = (window s w).state := by
        unfold heatRest
        split <;> rfl
      simpa [state] using moved
    rw [reportCounted_lost here lost, rested]
    let v := setChannel c { countGood rep (channel s c) with link := .present } s
    have same : OwnSame w v s := ⟨rfl, rfl, rfl, rfl, rfl, rfl, rfl⟩
    have again := windowReport_heatRest w rep v
    exact (congrArg (fun u => window u w) again).trans (same.windowReport rep).window
  · rw [reportCounted_present lost]
    have same : OwnSame w (setChannel c (countGood rep (channel s c)) s) s := ⟨rfl, rfl, rfl, rfl, rfl, rfl, rfl⟩
    exact (same.windowReport rep).window

end

/-! ## The node faults -/

section
variable {s : State} {c : Closure} {rep : Report} {dt : Nat} {record : List Byte}

/-- NODE_FAULT is raised by a flag that is new, and by nothing else of a report (R175). -/
theorem nodeFault_record (steady : Steady s) (places : s.faults.length = 14) :
    (ShowsFault rep (comparedReport s c) →
      (faultRecord (reportRecorded c rep s) .nodeFault).count = min 255 ((faultRecord s .nodeFault).count + 1) ∧
        (faultRecord (reportRecorded c rep s) .nodeFault).last = some c) ∧
    (¬ShowsFault rep (comparedReport s c) →
      faultRecord (reportRecorded c rep s) .nodeFault = faultRecord s .nodeFault) := by
  let m := motorTaken c rep s
  obtain ⟨-, -, kept⟩ := reportRecorded_calm c rep steady
  obtain ⟨stage, -, -, -, faults, -⟩ := reportCounted_fields (s := s) c rep
  have motor : Serving (reportCounted c rep s) m := motorTaken_serving c rep (steady.awake steady.run)
  have running : running m = true := by
    obtain ⟨stage', -⟩ := motor.eqs
    simp [running, stage', stage, steady.run]
  have before : faultRecord m .nodeFault = faultRecord s .nodeFault := by
    rw [motor.record .nodeFault nofun nofun, faultRecord, faults, faultRecord]
  have length : m.faults.length = 14 := by rw [motor.length, faults, places]
  have told : faultRaised c (comparedReport s c) rep m =
      if newFault (comparedReport s c) rep = true then raise .nodeFault (some c) m else m := by
    simp [faultRaised, running]
  rw [kept .nodeFault nofun nofun, told]
  refine ⟨fun shows => ?_, fun none => ?_⟩
  · rw [if_pos ((newFault_iff ..).mpr shows), ← before]
    exact ⟨faultRecord_raiseWith nofun length, faultRecord_raiseWith_last nofun length⟩
  · rw [if_neg fun new => none ((newFault_iff ..).mp new), before]

/-- Overtemperature holds its window at rest, and ends its motion or entry with STOPPED (R68). -/
theorem overtemp_stops (steady : Steady s) {w : WindowId} (own : windowClosure w = c) (hot : rep.overtemp = true) :
    ∃ state outcome, Halted w state outcome (reportRecorded c rep s) ∧
      ((window (windowReport w rep s) w).state ≠ .idle → (window (windowReport w rep s) w).state ≠ .fault →
        state = .idle ∧ outcome = some .stopped) := by
  let old := comparedReport s c
  let r := faultRaised c old rep (motorTaken c rep s)
  have awake := steady.awake steady.run
  have raised : lessTraffic r = lessTraffic (motorTaken c rep s) := faultRaised_rest ..
  have stays : r.ctx.state = .awake :=
    (same_of_rest raised (fun u => u.ctx.state) fun _ => rfl).trans (motorTaken_serving c rep awake).stays_awake
  have same : window r w = window (motorTaken c rep s) w := same_of_rest raised (fun u => window u w) fun _ => rfl
  obtain ⟨state, outcome, halted, stopped⟩ := windowOvertemp_halts stays w
  have flagged : takeFaults c old rep (motorTaken c rep s) = windowOvertemp w true r := by
    rw [takeFaults_eq, closureWindow_eq.mpr own, hot]
  refine ⟨state, outcome, ?_, fun notIdle notFault => ?_⟩
  · rw [← flagged] at halted
    have edges := takeEdges_halted c old rep halted
    have handles := edges.of_beside (handleEvents_beside c rep (.refl edges.awake))
    have uplink := handles.of_beside (takeUplink_beside c rep (.refl handles.awake))
    have kept : Halted w state outcome (setChannel c (recordReport rep (isAwake s)
        (channel (reportHandled c old rep (motorTaken c rep s)) c)) (reportHandled c old rep (motorTaken c rep s))) :=
      uplink.of_window rfl rfl
    exact kept.of_beside (followGroup_beside (.refl kept.awake))
  · have moves := motorTaken_state (rep := rep) steady.run (steady.ignition steady.run) awake own notFault
    rw [same, moves] at stopped
    exact stopped notIdle notFault

/-- The node faults of a good report (R68, R175). -/
theorem nodeFaults_taken (due : ReportDue dt c record rep s) (places : s.faults.length = 14) :
    let old := if (channel s c).comparable then (channel s c).lastReport else none
    ∃ u, exec (.nodeReport dt c record) s = .next u ∧
      (ShowsFault rep old →
        (faultRecord u .nodeFault).count = min 255 ((faultRecord s .nodeFault).count + 1) ∧
          (faultRecord u .nodeFault).last = some c) ∧
      (¬ShowsFault rep old → faultRecord u .nodeFault = faultRecord s .nodeFault) ∧
      (∀ w, windowClosure w = c → rep.overtemp = true →
        (window u w).overtemp = true ∧ ((window u w).state = .idle ∨ (window u w).state = .fault) ∧
          (let reported := window (windowReport w rep { s with now := s.now + dt }) w
           reported.state = .waiting ∨ reported.state = .movingManual ∨ reported.state = .movingAuto ∨
              reported.state = .reversing →
            (window u w).state = .idle ∧ (window u w).lastOutcome = some .stopped)) := by
  obtain ⟨u, next, agrees⟩ := exec_goodReport c due
  have steady := due.steady.elapse dt
  have fault : faultRecord u .nodeFault = faultRecord (reportRecorded c rep (elapse dt s)) .nodeFault :=
    agrees.same (fun v => faultRecord v .nodeFault) fun _ => rfl
  obtain ⟨shown, none⟩ := nodeFault_record (c := c) (rep := rep) steady places
  refine ⟨u, next, fun shows => ?_, fun absent => ?_, fun w own hot => ?_⟩
  · rw [fault]
    exact shown shows
  · rw [fault]
    exact none absent
  · have record : window u w = window (reportRecorded c rep (elapse dt s)) w :=
      agrees.same (fun v => window v w) fun _ => rfl
    obtain ⟨state, outcome, halted, stopped⟩ := overtemp_stops steady own hot
    rw [record]
    refine ⟨halted.overtemp, halted.resting, fun moving => ?_⟩
    have ends := stopped (fun e => by rcases moving with h | h | h | h <;> exact absurd (h.symm.trans e) nofun)
      (fun e => by rcases moving with h | h | h | h <;> exact absurd (h.symm.trans e) nofun)
    exact ⟨halted.same.trans ends.1, halted.outcome.trans ends.2⟩

end

end Sys2Proof.Machine
end

section
/-!
PROOFS. A good report of a channel whose motor stands: the items that it leaves alone, and what they do to the window (R43,
R54, R64, R68, R168 to R172).
-/

namespace Sys2Proof.Machine

/-- The state with the window of a closure, if it has one, changed. -/
def onWindow (c : Closure) (f : Window → Window) (s : State) : State :=
  { s with windows := s.windows.mapWith fun w x => if windowClosure w = c then f x else x }

section
variable {s : State} {c : Closure}

theorem onWindow_some {w : WindowId} (own : closureWindow c = some w) (f : Window → Window) (s : State) :
    setWindow w (f (window s w)) s = onWindow c f s := by
  have here := closureWindow_eq.mp own
  have windows : s.windows.set w (f (window s w)) =
      s.windows.mapWith fun v x => if windowClosure v = c then f x else x := by
    refine Four.ext_get fun v => ?_
    rw [Four.get_mapWith]
    by_cases same : v = w
    · subst same
      rw [Four.get_set_same, if_pos here, window]
    · rw [Four.get_set_other same, if_neg]
      intro other
      have : some v = some w := (closureWindow_eq.mpr other).symm.trans own
      exact same (Option.some.inj this)
  rw [setWindow, windows, onWindow]

theorem onWindow_none (none : closureWindow c = none) (f : Window → Window) (s : State) : onWindow c f s = s := by
  have windows : (s.windows.mapWith fun v x => if windowClosure v = c then f x else x) = s.windows := by
    refine Four.ext_get fun v => ?_
    rw [Four.get_mapWith, if_neg]
    intro own
    have : closureWindow c = some v := closureWindow_eq.mpr own
    rw [none] at this
    cases this
  rw [onWindow, windows]

/-- An operation on the window of a closure, where there is one. -/
theorem match_onWindow (f : Window → Window) {g : WindowId → State → State}
    (same : ∀ w, closureWindow c = some w → g w s = setWindow w (f (window s w)) s) :
    (match closureWindow c with
      | some w => g w s
      | none => s) = onWindow c f s := by
  cases own : closureWindow c with
  | none => exact (onWindow_none own f s).symm
  | some w => exact (same w own).trans (onWindow_some own f s)

theorem onWindow_onWindow (f g : Window → Window) (s : State) :
    onWindow c f (onWindow c g s) = onWindow c (fun x => f (g x)) s := by
  have windows : ((s.windows.mapWith fun w x => if windowClosure w = c then g x else x).mapWith fun w x =>
      if windowClosure w = c then f x else x) = s.windows.mapWith fun w x => if windowClosure w = c then f (g x) else x := by
    refine Four.ext_get fun v => ?_
    simp only [Four.get_mapWith]
    split <;> rfl
  simp only [onWindow, windows]

theorem onWindow_window (f : Window → Window) (s : State) (w : WindowId) :
    window (onWindow c f s) w = if windowClosure w = c then f (window s w) else window s w := by
  simp only [window, onWindow, Four.get_mapWith]

/-! ## The items of a report that find nothing to do -/

/-- The window that a report's own-switch level leaves (R54). -/
def unsuppressed (rep : Report) (x : Window) : Window :=
  { x with suppressed := if rep.ownSwitch = .none then false else x.suppressed }

theorem clearSuppressed_eq (w : WindowId) (rep : Report) (s : State) :
    clearSuppressed w rep.ownSwitch s = setWindow w (unsuppressed rep (window s w)) s := by
  unfold clearSuppressed unsuppressed
  by_cases none : rep.ownSwitch = .none
  · simp [none]
  · have same : ({ window s w with suppressed := (window s w).suppressed } : Window) = window s w := rfl
    simp only [none, beq_iff_eq, if_false, same, setWindow_window]

/-- With no edge to take, the own-switch level alone is read. -/
theorem takeEdges_none (c : Closure) (rep : Report) (s : State) :
    takeEdges c none rep s = onWindow c (unsuppressed rep) s :=
  match_onWindow (unsuppressed rep) (g := fun w s => clearSuppressed w rep.ownSwitch s) fun w _ => clearSuppressed_eq w rep s

theorem switchEdge_level (w : WindowId) (origin : Origin) (level other : Switch) (s : State) :
    switchEdge w origin level level other s = s := by simp [switchEdge]

theorem lockSwitchEdge_level (source : LockSource) (level : LockSwitch) (s : State) :
    lockSwitchEdge source level level s = s := by cases level <;> rfl

theorem driverClosure_door (s : State) : driverClosure s ≠ .tg := by
  unfold driverClosure
  split <;> simp

/-- The edges of a report apart from the own-switch level. -/
def edgesTaken (c : Closure) (old rep : Report) (s : State) : State :=
  if running s then ownEdge c old rep (if c == driverClosure s then packEdges c old rep s else s) else s

theorem takeEdges_some (c : Closure) (old rep : Report) (s : State) :
    takeEdges c (some old) rep s = onWindow c (unsuppressed rep) (edgesTaken c old rep s) :=
  match_onWindow (s := edgesTaken c old rep s) (unsuppressed rep) (g := fun w s => clearSuppressed w rep.ownSwitch s)
    fun w _ => clearSuppressed_eq w rep _

/-- The driver pack, the central lock switch, the buttons and the key cylinder give no edge where they stand as they were. -/
theorem packEdges_level {old rep : Report} (same : (levels rep).2 = (levels old).2) : packEdges c old rep s = s := by
  simp only [levels, Prod.mk.injEq] at same
  obtain ⟨pack, central, childButton, lockoutButton, cylinder⟩ := same
  unfold packEdges
  simp only [pack, central, childButton, lockoutButton, cylinder, switchEdge_level, lockSwitchEdge_level]
  simp [childButtonEdge, lockoutButtonEdge]

theorem edgesTaken_unpressed {old rep : Report} (unpressed : c = .tg ∨ levels rep = levels old) :
    edgesTaken c old rep s = s := by
  have own : ownEdge c old rep s = s := by
    unfold ownEdge
    rcases unpressed with tail | same
    · subst tail
      rfl
    · have level : rep.ownSwitch = old.ownSwitch := congrArg Prod.fst same
      split
      · rw [level, switchEdge_level]
      · rfl
  have pack : (if c == driverClosure s then packEdges c old rep s else s) = s := by
    rcases unpressed with tail | same
    · subst tail
      exact if_neg (by simpa using (driverClosure_door s).symm)
    · rw [packEdges_level (congrArg Prod.snd same), ite_self]
  unfold edgesTaken
  rw [pack, own, ite_self]

theorem handleEvents_untouched {rep : Report}
    (untouched : rep.touchUnlock = false ∧ rep.touchLock = false ∧ rep.releaseButton = false) :
    handleEvents c rep s = s := by
  obtain ⟨unlock, lock, release⟩ := untouched
  simp [handleEvents, unlock, lock, release]

theorem takeUplink_none {rep : Report} (none : rep.uplink = none) : takeUplink c rep s = s := by
  simp [takeUplink, none]

/-- The motor data of a standing motor: its window cools (R64). -/
theorem takeMotor_rests {rep : Report} (rests : MotorRests c s) :
    takeMotor c rep s = onWindow c (heatDecay s.now) s := by
  refine match_onWindow (heatDecay s.now) (g := fun w s => windowReport w rep s) fun w own => ?_
  obtain ⟨stop, coast⟩ := rests w (closureWindow_eq.mp own)
  have cools : heated s.now (window s w) = heatDecay s.now (window s w) := if_neg (by simp [motorRunning, stop])
  have stop' : (window (setWindow w (heatDecay s.now (window s w)) s) w).lastDrive = .stop := by
    rw [window_setWindow]
    exact stop
  have coast' : (window (setWindow w (heatDecay s.now (window s w)) s) w).coast = none := by
    rw [window_setWindow]
    exact coast
  rw [windowReport_eq, cools]
  simp only [motorData, stop', coast']

/-- A report without overtemperature stops nothing. -/
theorem takeFaults_unshown {old : Option Report} {rep : Report} (none : newFault old rep = false)
    (cool : rep.overtemp = false) :
    takeFaults c old rep s = onWindow c (fun x => { x with overtemp := false }) s := by
  have raised : faultRaised c old rep s = s := by simp [faultRaised, none]
  rw [takeFaults_eq, raised, cool]
  exact match_onWindow (fun x => { x with overtemp := false }) (g := fun w s => windowOvertemp w false s) fun _ _ => rfl

end

end Sys2Proof.Machine
end

section
/-!
PROOFS. The recovery of a LOST node (R1, R16, R54, R64, R67, R168, R169, R174).
-/

namespace Sys2Proof.Machine

section
variable {s : State} {c : Closure} {rep : Report} {dt : Nat} {record : List Byte}

/-- The channel of a report, counted, before the last report is kept. -/
theorem reportCounted_channels : ∃ link, (reportCounted c rep s).channels =
    s.channels.set c { countGood rep (channel s c) with link := link } := by
  unfold reportCounted recoverNode windowRecovered
  dsimp only
  split
  · have twice : (setChannel c { channel (setChannel c (countGood rep (channel s c)) s) c with link := .present }
        (setChannel c (countGood rep (channel s c)) s)).channels =
          s.channels.set c { countGood rep (channel s c) with link := .present } := by
      rw [channel_setChannel]
      exact Five.set_set ..
    split <;> exact ⟨_, twice⟩
  · exact ⟨_, rfl⟩

/-- A good report in an awake part writes its own channel alone (R165, R169). -/
theorem reportRecorded_channels (awake : s.ctx.state = .awake) : (reportRecorded c rep s).channels =
    s.channels.set c (recordReport rep true (countGood rep (channel s c))) := by
  let m := motorTaken c rep s
  let u := reportHandled c (comparedReport s c) rep m
  obtain ⟨link, counted⟩ := reportCounted_channels (s := s) (c := c) (rep := rep)
  have motor : Serving (reportCounted c rep s) m := motorTaken_serving c rep awake
  have handled : Serving (faultRaised c (comparedReport s c) rep m) u :=
    reportHandled_serving c rep (comparedReport s c) motor.stays_awake
  have channels : u.channels = s.channels.set c { countGood rep (channel s c) with link := link } := by
    obtain ⟨-, -, -, taken, -⟩ := motor.eqs
    obtain ⟨-, -, -, kept, -⟩ := handled.eqs
    rw [kept, same_of_rest (faultRaised_rest ..) State.channels fun _ => rfl, taken, counted]
  have own : channel u c = { countGood rep (channel s c) with link := link } := by
    rw [channel, channels, Five.get_set_same]
  have alert : isAwake s = true := by simp [isAwake, awake]
  have followed : Beside (setChannel c (recordReport rep (isAwake s) (channel u c)) u) (reportRecorded c rep s) :=
    followGroup_beside (.refl handled.stays_awake)
  rw [followed.channels]
  have written : (setChannel c (recordReport rep (isAwake s) (channel u c)) u).channels =
      u.channels.set c (recordReport rep (isAwake s) (channel u c)) := rfl
  rw [written, channels, own, alert, Five.set_set]
  rfl

/-- Overtemperature on a window at rest is noted alone (R68). -/
theorem takeFaults_rests {old : Option Report}
    (rests : ∀ w, windowClosure w = c → (window s w).state = .idle ∨ (window s w).state = .fault) :
    takeFaults c old rep s = onWindow c (fun x => { x with overtemp := rep.overtemp }) (faultRaised c old rep s) := by
  let r := faultRaised c old rep s
  have same (w : WindowId) : window r w = window s w :=
    same_of_rest (faultRaised_rest ..) (fun u => window u w) fun _ => rfl
  rw [takeFaults_eq]
  refine match_onWindow (s := r) (fun x => { x with overtemp := rep.overtemp })
    (g := fun w s => windowOvertemp w rep.overtemp s) fun w own => ?_
  unfold windowOvertemp
  dsimp only
  split
  · refine endMotion_still _ ?_
    rw [window_setWindow, same]
    exact rests w (closureWindow_eq.mp own)
  · rfl

/-- NODE_FAULT leaves the record of every other class but TX_OVERFLOW. -/
theorem faultRaised_other {cls : FaultClass} {old : Option Report} (other : cls ≠ .nodeFault) (tx : cls ≠ .txOverflow) :
    faultRecord (faultRaised c old rep s) cls = faultRecord s cls := by
  have counted : faultRecord (countFault .nodeFault (some c) s) cls = faultRecord s cls := by
    refine faultRecord_countFault_other ?_
    revert other
    cases cls <;> decide
  unfold faultRaised raise raiseWith
  dsimp only
  split
  · split
    · exact counted
    · exact (faultRecord_offer tx ..).trans counted
  · rfl

/-- The window of a recovered node after the report: IDLE, cooled, with the flags of the report (R54, R64, R67, R68). -/
def recoveredWindow (now : Nat) (rep : Report) (x : Window) : Window :=
  { heatDecay now x with
    state := .idle, overtemp := rep.overtemp, suppressed := if rep.ownSwitch = .none then false else x.suppressed }

/-- A recovered node, with a window in FAULT and a motor that stands. -/
structure Recovers (c : Closure) (s : State) : Prop where
  lost : (channel s c).link = .lost
  fresh : (channel s c).comparable = false
  fault : ∀ w, windowClosure w = c → (window s w).state = .fault
  rests : MotorRests c s

theorem reportCounted_recovers (h : Recovers c s) : reportCounted c rep s =
    onWindow c (fun x => leaveFault (heatRest s.now x))
      (setChannel c { countGood rep (channel s c) with link := .present } s) := by
  cases own : closureWindow c with
  | none =>
    have linked : nodeLost (setChannel c (countGood rep (channel s c)) s) c = true := by
      simpa [nodeLost, countGood] using h.lost
    have twice (ch ch' : Channel) : setChannel c ch (setChannel c ch' s) = setChannel c ch s := by
      simp [setChannel]
    rw [onWindow_none own]
    unfold reportCounted recoverNode
    dsimp only
    rw [if_pos linked, channel_setChannel, twice]
    simp only [own]
  | some w =>
    rw [reportCounted_lost own h.lost, ← onWindow_some own]
    rfl

/-- A recovery reads the locks, and what it then does to the windows is what the record says. -/
theorem recovery_taken (steady : Steady s) (h : Recovers c s) :
    ∃ e, Beside e (reportHandled c none rep (motorTaken c rep s)) ∧
    (∀ w, window e w = if windowClosure w = c then recoveredWindow s.now rep (window s w) else window s w) ∧
    e.cfg = s.cfg ∧ (∀ d, (child e d).target = (child s d).target) ∧
    knownLocks e.closures c = (sensedOf c rep.lockSensed, latchOf rep.ajar) ∧
    faultRecord e .linkLost = faultRecord s .linkLost := by
  let p := reportCounted c rep s
  have counted : p = onWindow c (fun x => leaveFault (heatRest s.now x))
      (setChannel c { countGood rep (channel s c) with link := .present } s) := reportCounted_recovers h
  obtain ⟨stage, now, cfg, ctx, faults, children, -⟩ := reportCounted_fields (s := s) c rep
  have awake := steady.awake steady.run
  have awakeP : p.ctx.state = .awake := by rw [ctx, awake]
  have read : LocksRead c rep p (locksRead c rep (nodeLost s c) p) :=
    locksRead_read (stage.trans steady.run) (by rw [ctx, steady.ignition steady.run]) awakeP _
  let l := takeLocks c rep (nodeLost s c) p
  have locks : Beside (locksRead c rep (nodeLost s c) p) l := followGroup_beside (.refl (read.stays_awake awakeP))
  have windowL (w : WindowId) : window l w =
      if windowClosure w = c then { heatDecay s.now (window s w) with state := .idle } else window s w := by
    rw [window, locks.windows, read.windows, counted]
    refine (onWindow_window ..).trans ?_
    split
    · next own =>
      have stop := (h.rests w own).1
      have fault : (heatDecay s.now (window s w)).state = .fault := h.fault w own
      have cools : heatRest s.now (window s w) = heatDecay s.now (window s w) := if_neg (by simp [motorRunning, stop])
      exact (congrArg leaveFault cools).trans (if_pos (by simp [fault]))
    · rfl
  have restsL : MotorRests c l := by
    intro w own
    rw [windowL, if_pos own]
    exact h.rests w own
  have nowL : l.now = s.now := by
    have same : l.now = (locksRead c rep (nodeLost s c) p).now := locks.field State.now fun _ _ e => by
      simp only [Prod.mk.injEq] at e
      tauto
    rw [same, read.now, now]
  have motor : motorTaken c rep s = onWindow c (heatDecay s.now) l := by
    rw [← nowL]
    exact takeMotor_rests restsL
  let m := motorTaken c rep s
  let r := faultRaised c none rep m
  let e := onWindow c (unsuppressed rep) (onWindow c (fun x => { x with overtemp := rep.overtemp }) r)
  have windowM (w : WindowId) : window m w =
      if windowClosure w = c then { heatDecay s.now (window s w) with state := .idle } else window s w := by
    rw [show m = _ from motor, onWindow_window, windowL]
    split
    · exact congrArg (fun x : Window => { x with state := .idle }) (heatDecay_again s.now (window s w))
    · rfl
  have idle (w : WindowId) (own : windowClosure w = c) : (window m w).state = .idle ∨ (window m w).state = .fault := by
    rw [windowM, if_pos own]
    exact .inl rfl
  have taken : takeEdges c none rep (takeFaults c none rep m) = e := by
    rw [takeEdges_none, takeFaults_rests idle]
  have raised {α : Type} (f : State → α) (hf : ∀ u, f (lessTraffic u) = f u) : f r = f m :=
    same_of_rest (faultRaised_rest ..) f hf
  have awakeE : e.ctx.state = .awake :=
    (raised (fun u => u.ctx.state) fun _ => rfl).trans (motorTaken_serving c rep awake).stays_awake
  have handled : Beside e (reportHandled c none rep m) := by
    unfold reportHandled
    rw [taken]
    exact takeUplink_beside c rep (handleEvents_beside c rep (.refl awakeE))
  have sameM {α : Type} (f : State → α) (hf : ∀ u windows, f { u with windows := windows } = f u) : f m = f l := by
    rw [show m = _ from motor]
    exact hf l _
  refine ⟨e, handled, fun w => ?_, ?_, fun d => ?_, ?_, ?_⟩
  · have windowR : window r w = window m w := raised (fun u => window u w) fun _ => rfl
    simp only [e, onWindow_window, windowR, windowM]
    split <;> rfl
  · calc e.cfg = m.cfg := raised State.cfg fun _ => rfl
      _ = l.cfg := sameM State.cfg fun _ _ => rfl
      _ = s.cfg := by rw [locks.cfg, read.cfg, cfg]
  · calc (child e d).target = (child m d).target := raised (fun u => (child u d).target) fun _ => rfl
      _ = (child l d).target := sameM (fun u => (child u d).target) fun _ _ => rfl
      _ = (child p d).target := by rw [child, locks.children]; exact read.target d
      _ = (child s d).target := by rw [child, children, child]
  · calc knownLocks e.closures c = knownLocks m.closures c := raised (fun u => knownLocks u.closures c) fun _ => rfl
      _ = knownLocks l.closures c := sameM (fun u => knownLocks u.closures c) fun _ _ => rfl
      _ = _ := by rw [locks.known]; exact read.known
  · calc faultRecord e .linkLost = faultRecord m .linkLost := faultRaised_other nofun nofun
      _ = faultRecord l .linkLost := sameM (fun u => faultRecord u .linkLost) fun _ _ => rfl
      _ = faultRecord (locksRead c rep (nodeLost s c) p) .linkLost := locks.faults.record .linkLost nofun
      _ = faultRecord s .linkLost := by rw [faultRecord, read.faults, faults, faultRecord]

/-- The first report of a LOST node recovers it. -/
theorem lostNode_recovers (due : ReportDue dt c record rep s) (h : Recovers c s) :
    ∃ u, exec (.nodeReport dt c record) s = .next u ∧ (channel u c).link = .present ∧ (channel u c).missing = 0 ∧
      (channel u c).lastReport = some rep ∧ (channel u c).comparable = true ∧ (channel u c).reported = true ∧
      (channel u c).goodCount = min 65535 ((channel s c).goodCount + 1) ∧ (closure u c).sensed = seenLock c rep ∧
      (closure u c).latch = (if rep.ajar then .ajar else .shut) ∧
      (∀ w, window u w =
        if windowClosure w = c then recoveredWindow (s.now + dt) rep (window s w) else window s w) ∧
      u.cfg = s.cfg ∧ (∀ d, (child u d).target = (child s d).target) ∧
      faultRecord u .linkLost = faultRecord s .linkLost := by
  let v := elapse dt s
  obtain ⟨u, next, agrees⟩ := exec_goodReport c due
  have steady : Steady v := due.steady.elapse dt
  have recovers : Recovers c v := ⟨h.lost, h.fresh, h.fault, h.rests⟩
  obtain ⟨e, handled, windows, cfg, target, known, linkLost⟩ := recovery_taken (rep := rep) steady recovers
  have uncompared : comparedReport v c = none := if_neg (by simp [show (channel v c).comparable = false from h.fresh])
  let t := reportHandled c none rep (motorTaken c rep v)
  have followed : Beside (setChannel c (recordReport rep (isAwake v) (channel t c)) t) (reportRecorded c rep v) := by
    rw [reportRecorded_eq, uncompared]
    exact followGroup_beside (.refl handled.stays_awake)
  have same {α : Type} (f : State → α) (hf : ∀ x, f (lessActivity x) = f x) : f u = f (reportRecorded c rep v) :=
    agrees.same f hf
  have own : channel u c = recordReport rep true (countGood rep (channel s c)) := by
    rw [same (fun x => channel x c) fun _ => rfl, channel, reportRecorded_channels (steady.awake steady.run),
      Five.get_set_same]
    rfl
  have seen : knownLocks u.closures c = (sensedOf c rep.lockSensed, latchOf rep.ajar) := by
    rw [same (fun x => knownLocks x.closures c) fun _ => rfl, followed.known]
    exact (congrFun handled.known c).trans known
  have sensed : sensedOf c rep.lockSensed = seenLock c rep := by
    simp [sensedOf, seenLock]
  refine ⟨u, next, ?_⟩
  rw [own]
  refine ⟨rfl, rfl, rfl, rfl, Bool.or_true _, rfl, (congrArg Prod.fst seen).trans sensed, congrArg Prod.snd seen,
    fun w => ?_, ?_, fun d => ?_, ?_⟩
  · rw [same (fun x => window x w) fun _ => rfl, window, followed.windows]
    exact (congrArg (fun x : Four Window => x.get w) handled.windows).trans (windows w)
  · rw [same State.cfg fun _ => rfl, followed.cfg]
    exact handled.cfg.trans cfg
  · rw [same (fun x => (child x d).target) fun _ => rfl, child, followed.children]
    exact (congrArg (fun x : Two ChildLock => (x.get d).target) handled.children).trans (target d)
  · rw [same (fun x => faultRecord x .linkLost) fun _ => rfl, followed.faults.record .linkLost nofun]
    exact (handled.faults.record .linkLost nofun).trans linkLost

end

end Sys2Proof.Machine
end

section
/-!
PROOFS. A report that a channel's present cycle takes, compared with the last one: what it makes of a channel at rest (R43,
R54, R165, R168 to R172).
-/

namespace Sys2Proof.Machine

/-! ## A discarded report (R165) -/

/-- A report that cannot be read, or of a cycle that has ended or was answered, changes nothing. -/
theorem report_discarded {s : State} {dt : Nat} {c : Closure} {record : List Byte} (calm : Calm s)
    (idle : readReport record = none ∨ (channel s c).answered = true ∨ (channel s c).cycleEnd = none ∨
      ∃ d, (channel s c).cycleEnd = some d ∧ d < s.now + dt) :
    Answers (.nodeReport dt c record) s { s with now := s.now + dt } := by
  refine answers_calm (f := fun t =>
    match readReport record with
    | some rep => if cycleOpen t c then goodReport c rep t else t
    | none => t) rfl calm.supplied ?_ (calm.elapse dt)
  cases reads : readReport record with
  | none => rfl
  | some rep =>
    have closed : cycleOpen (elapse dt s) c = false := by
      rcases idle with unread | answered | absent | ⟨d, ends, late⟩
      · rw [reads] at unread
        cases unread
      · have same : (channel (elapse dt s) c).answered = true := answered
        simp [cycleOpen, same]
      · have same : (channel (elapse dt s) c).cycleEnd = none := absent
        simp [cycleOpen, same, live]
      · have same : (channel (elapse dt s) c).cycleEnd = some d := ends
        have passed : ¬s.now + dt ≤ d := Nat.not_le.mpr late
        simp [cycleOpen, same, live, passed]
    exact if_neg (by simp [closed])

/-! ## A channel at rest -/

/-- The channel counted. -/
def channelCounted (c : Closure) (rep : Report) (s : State) : State := setChannel c (countGood rep (channel s c)) s

/-- The window of a channel whose motor stands and whose node is cool. -/
def windowRead (now : Nat) (x : Window) : Window := { heatDecay now x with overtemp := false }

/-- The state before the edges of a report of a channel at rest. -/
def reportRead (dt : Nat) (c : Closure) (rep : Report) (s : State) : State :=
  onWindow c (windowRead (s.now + dt)) (channelCounted c rep (elapse dt s))

/-- The own-switch level and the report kept. -/
def reportDressed (c : Closure) (rep : Report) (s : State) : State :=
  setChannel c (recordReport rep true (channel s c)) (onWindow c (unsuppressed rep) s)

section
variable {s : State} {dt : Nat} {c : Closure} {record : List Byte} {rep old : Report}

theorem reportTaken_eq (dt : Nat) (c : Closure) (rep : Report) (s : State) :
    reportTaken dt c rep s = reportDressed c rep (reportRead dt c rep s) := by
  have channels : (reportDressed c rep (reportRead dt c rep s)).channels =
      s.channels.set c (recordReport rep true (countGood rep (channel s c))) := by
    have own : channel (reportRead dt c rep s) c = countGood rep (channel s c) := channel_setChannel ..
    unfold reportDressed
    rw [own]
    exact Five.set_set ..
  have kept : recordReport rep true (countGood rep (channel s c)) =
      { channel s c with
        answered := true, missing := 0, goodCount := min 65535 ((channel s c).goodCount + 1)
        firstSense := (channel s c).firstSense <|> some (rep.lockSensed, rep.childSensed), lastReport := some rep
        comparable := true, link := .present, reported := true } := by
    simp [recordReport, countGood]
  have windows : (reportDressed c rep (reportRead dt c rep s)).windows = (reportTaken dt c rep s).windows := by
    refine Four.ext_get fun w => ?_
    simp only [reportDressed, reportRead, channelCounted, onWindow, setChannel, reportTaken, Four.get_mapWith, elapse]
    split <;> rfl
  have rest : reportDressed c rep (reportRead dt c rep s) =
      { s with
        now := s.now + dt, channels := (reportDressed c rep (reportRead dt c rep s)).channels
        windows := (reportDressed c rep (reportRead dt c rep s)).windows } := rfl
  rw [rest, channels, windows, kept]
  rfl

/-- What a report that comes in RUN does, item by item. -/
theorem reportRecorded_comes (comes : ReportComes dt c record rep old s) : reportRecorded c rep (elapse dt s) =
    reportKept c rep true (takeUplink c rep (handleEvents c rep (onWindow c (unsuppressed rep) (edgesTaken c old rep
      (onWindow c (fun x => { x with overtemp := false }) (takeMotor c rep
        (takeLocks c rep false (channelCounted c rep (elapse dt s))))))))) := by
  let v := elapse dt s
  have present : (channel v c).link ≠ .lost := by
    have link : (channel v c).link = .present := comes.present
    simp [link]
  have compared : comparedReport v c = some old := by
    have comparable : (channel v c).comparable = true := comes.compared
    have last : (channel v c).lastReport = some old := comes.last
    simp [comparedReport, comparable, last]
  obtain ⟨cool, closed, supplied⟩ := comes.flags
  have none : newFault (some old) rep = false := by simp [newFault, cool, closed, supplied]
  have recovery : nodeLost v c = false := by simpa [nodeLost] using present
  have alert : isAwake v = true := by
    have awake : v.ctx.state = .awake := comes.steady.awake comes.steady.run
    simp [isAwake, awake]
  rw [reportRecorded_eq, compared, alert, reportHandled, takeFaults_unshown none cool, takeEdges_some, motorTaken, recovery,
    reportCounted_present present]
  rfl

/-- The answer to a report that comes, by the state it leaves. -/
theorem report_answers (comes : ReportComes dt c record rep old s) {t : State}
    (recorded : AgreeButActivity (reportRecorded c rep (elapse dt s)) t) : Answers (.nodeReport dt c record) s t := by
  obtain ⟨u, next, agrees⟩ := exec_goodReport c comes.toReportDue
  exact ⟨u, next, agrees.trans recorded⟩

/-- The answer to one that is an activity event. -/
theorem report_acts (comes : ReportComes dt c record rep old s) {t : State}
    (recorded : AgreeButActivity (reportRecorded c rep (elapse dt s)) t)
    (fresh : Fresh (reportRecorded c rep (elapse dt s))) : AnswersActive (.nodeReport dt c record) s t := by
  obtain ⟨calm, run, -⟩ := reportRecorded_calm c rep (comes.steady.elapse dt)
  have alert : Alert (reportRecorded c rep (elapse dt s)) := Steady.alert ⟨calm, run⟩
  have isOpen := cycleOpen_due comes.toReportDue
  refine ⟨reportRecorded c rep (elapse dt s), ?_, recorded, fresh⟩
  rw [exec_nodeReport comes.steady.supplied isOpen comes.read, goodReport_eq, pollCheck_run run,
    finish_active alert fresh.1 fresh.2]

end

end Sys2Proof.Machine
end

section
/-!
PROOFS. The lock field of a report: a lock at rest, a manual change, the end of a pulse, and a lock that has come to its
target (R1, R12 to R18, R21, R23, R28, R39).
-/

namespace Sys2Proof.Machine

/-- The state with other locks, child locks, group and timed pattern. -/
def relocked (closures : Five ClosureLock) (children : Two ChildLock) (group : LockGroup) (timed : Option TimedPattern)
    (s : State) : State :=
  { s with closures := closures, children := children, group := group, timed := timed }

section
variable {s t : State} {dt : Nat} {c : Closure} {record : List Byte} {rep old : Report}

theorem onWindow_windowRead (t : State) (now : Nat) :
    onWindow c (fun x => { x with overtemp := false }) (onWindow c (heatDecay now) t) = onWindow c (windowRead now) t :=
  onWindow_onWindow ..

/-- A report of a channel whose motor stands, with no edge, no handle event and no uplink, by what it makes of the locks. -/
theorem answers_relocked (comes : ReportComes dt c record rep old s) (rests : MotorRests c s)
    (unpressed : c = .tg ∨ levels rep = levels old) (untouched : Untouched rep) {closures : Five ClosureLock}
    {children : Two ChildLock} {group : LockGroup} {timed : Option TimedPattern}
    (locks : takeLocks c rep false (channelCounted c rep (elapse dt s)) =
      relocked closures children group timed (channelCounted c rep (elapse dt s)))
    (still : followGroup (relocked closures children group timed (reportTaken dt c rep s)) =
      relocked closures children group timed (reportTaken dt c rep s)) :
    Answers (.nodeReport dt c record) s (relocked closures children group timed (reportTaken dt c rep s)) := by
  obtain ⟨unlock, lock, release, uplink⟩ := untouched
  let p := channelCounted c rep (elapse dt s)
  have motor : takeMotor c rep (relocked closures children group timed p) =
      onWindow c (heatDecay (s.now + dt)) (relocked closures children group timed p) := takeMotor_rests rests
  refine report_answers comes ?_
  rw [reportRecorded_comes comes, locks, motor, onWindow_windowRead, edgesTaken_unpressed unpressed,
    handleEvents_untouched ⟨unlock, lock, release⟩, takeUplink_none uplink]
  have dressed : setChannel c (recordReport rep true (channel (onWindow c (unsuppressed rep) (onWindow c
      (windowRead (s.now + dt)) (relocked closures children group timed p))) c)) (onWindow c (unsuppressed rep) (onWindow c
      (windowRead (s.now + dt)) (relocked closures children group timed p))) =
        relocked closures children group timed (reportTaken dt c rep s) := by
    rw [reportTaken_eq]
    rfl
  rw [reportKept, dressed, still]
  rfl

/-! ## The record of the lock -/

theorem setClosure_closure (c : Closure) (s : State) : setClosure c (closure s c) s = s := by
  simp [setClosure, closure]

theorem sensedOf_seen (c : Closure) (rep : Report) : sensedOf c rep.lockSensed = seenLock c rep := by
  simp [sensedOf, seenLock]

/-- The latch is as it was, so the lock's own field is all that its record takes. -/
theorem lockReport_comes (comes : ReportComes dt c record rep old s) :
    lockReport c rep false (channelCounted c rep (elapse dt s)) =
      setClosure c (lockSeen c rep false (elapse dt s)) (channelCounted c rep (elapse dt s)) := by
  have latch : (closure (channelCounted c rep (elapse dt s)) c).latch = latchOf rep.ajar := comes.latch
  rw [lockReport_run (s := channelCounted c rep (elapse dt s)) comes.steady.run, latch]
  exact if_pos (by simp)

/-- A child lock at rest that its report shows as it was known (R33). -/
theorem childReport_unmoved {d : RearDoor} (own : rearClosure d = c) (unmoved : ChildUnmoved c rep t) :
    childReport d rep.childSensed t = t := by
  obtain ⟨idle, sensed, there⟩ := unmoved d own
  have same : ({ child t d with sensed := rep.childSensed } : ChildLock) = child t d := by rw [← sensed]
  have stays : childPhaseReport t.now (child t d) = child t d := by
    have quiet : ((child t d).sensed == .unknown || childThere (child t d)) = true := by
      rw [childThere, sensed]
      revert there
      cases rep.childSensed <;> cases (child t d).target <;> simp
    simp only [childPhaseReport, idle, quiet, if_true]
  have written : setChild d (child t d) t = t := by simp [setChild, child]
  unfold childReport
  dsimp only
  rw [same, stays, ite_self, written]

theorem locksRead_childUnmoved {recovery : Bool} (unmoved : ChildUnmoved c rep (lockReport c rep recovery t)) :
    locksRead c rep recovery t = lockReport c rep recovery t := by
  unfold locksRead
  split
  · next d own => exact childReport_unmoved (closureRear_eq.mp own) unmoved
  · rfl

/-- The locks of a report whose child lock rests. -/
theorem takeLocks_lock (comes : ReportComes dt c record rep old s) (unmoved : ChildUnmoved c rep s) :
    takeLocks c rep false (channelCounted c rep (elapse dt s)) =
      followGroup (setClosure c (lockSeen c rep false (elapse dt s)) (channelCounted c rep (elapse dt s))) := by
  have lock := lockReport_comes comes
  rw [takeLocks_eq, locksRead_childUnmoved (by rw [lock]; exact unmoved), lock]

/-! ## The record that the report gives a lock -/

/-- `lockSeen` by the record before the report. -/
def lockSeenFrom (now : Nat) (seen : LockSensed) (rep : Report) (k : ClosureLock) : ClosureLock :=
  { phaseReport now rep.pulseActive (k.sensed != seen || k.senseWaits) false
      { k with sensed := seen, latch := latchOf rep.ajar } with
    senseWaits := k.senseWaits && (manualTarget seen).isNone }

theorem lockSeen_from (c : Closure) (rep : Report) (s : State) :
    lockSeen c rep false s = lockSeenFrom s.now (seenLock c rep) rep (closure s c) := by
  rw [← sensedOf_seen]
  rfl

section
variable {k : ClosureLock} {now : Nat} {seen : LockSensed} (latch : k.latch = latchOf rep.ajar)
include latch

/-- A lock at rest that shows what it showed (R15). -/
theorem lockSeenFrom_unmoved (idle : k.phase = .idle) (same : k.sensed = seen) (settled : k.senseWaits = false) :
    lockSeenFrom now seen rep k = k := by
  obtain ⟨⟩ := k
  simp only at idle same settled latch
  subst idle same settled latch
  simp [lockSeenFrom, phaseReport]

/-- A lock at rest that shows another known state (R15, R18, R28). -/
theorem lockSeenFrom_manual {target : LockTarget} (idle : k.phase = .idle) (moved : k.sensed ≠ seen ∨ k.senseWaits = true)
    (known : seen = .unlocked ∧ target = .unlocked ∨ seen = .locked ∧ target = .locked ∨
      seen = .deadlocked ∧ target = .deadlocked) :
    lockSeenFrom now seen rep k =
      { k with sensed := seen, target := target, lastSource := .manual, senseWaits := false } := by
  have changed : (k.sensed != seen || k.senseWaits) = true := by simpa using moved
  have follows : manualTarget seen = some target := by
    rcases known with ⟨rfl, rfl⟩ | ⟨rfl, rfl⟩ | ⟨rfl, rfl⟩ <;> rfl
  simp only [lockSeenFrom, changed, follows]
  simp [phaseReport, idle, followManual, follows, latch]

/-- The report that ends a pulse (R12, R14). -/
theorem lockSeenFrom_pulseOver (runs : k.driveDeadline.isSome) (off : rep.pulseActive = false)
    (driven : k.phase = .driving ∨ k.phase = .retrying) :
    lockSeenFrom now seen rep k =
      { k with
        sensed := seen, senseWaits := k.senseWaits && (seen == .between || seen == .unknown)
        phase := if k.phase = .driving then .settling else .retrying
        driveDeadline := none, settleDeadline := some (now + 300) } := by
  have unknown : (manualTarget seen).isNone = (seen == .between || seen == .unknown) := by cases seen <;> rfl
  rw [← unknown]
  rcases driven with phase | phase <;>
    simp [lockSeenFrom, phaseReport, phase, runs, off, settleFrom, latch, Config.settleTime]

/-- A lock that has come to its target (R13, R14). -/
theorem lockSeenFrom_there
    (settles : k.phase = .settling ∨ k.phase = .retrying ∧ k.driveDeadline = none ∧ k.settleDeadline.isSome)
    (there : atTarget seen k.target = true) (sent : k.command = .idle ∨ k.command = .abandon) :
    lockSeenFrom now seen rep k =
      { k with
        sensed := seen, senseWaits := false, phase := .idle, driveDeadline := none, settleDeadline := none } := by
  have known : (manualTarget seen).isNone = false := by
    revert there
    cases seen <;> cases k.target <;> simp [atTarget, manualTarget]
  have stands (x : ClosureLock) (command : x.command = k.command) : dropPulse x = x := by
    refine if_neg ?_
    rw [command]
    rcases sent with h | h <;> simp [h, isPulse]
  rcases settles with phase | ⟨phase, driven, settles⟩
  · simp [lockSeenFrom, phaseReport, phase, there, standAt, stands, known, latch]
  · simp [lockSeenFrom, phaseReport, phase, driven, settles, there, standAt, stands, known, latch]

end

end

end Sys2Proof.Machine
end

section
/-!
PROOFS. The lock field of a report, as the group follows it (R12 to R18, R21, R23, R39).
-/

namespace Sys2Proof.Machine

section
variable {s : State} {dt : Nat} {c : Closure} {record : List Byte} {rep old : Report}
  (comes : ReportComes dt c record rep old s) (unmoved : ChildUnmoved c rep s) (rests : MotorRests c s)
  (unpressed : c = .tg ∨ levels rep = levels old) (untouched : Untouched rep)
include comes unmoved rests unpressed untouched

/-- A lock that its report moves in a group that stays as it is. -/
theorem answers_lock {x : ClosureLock} (seen : lockSeenFrom (s.now + dt) (seenLock c rep) rep (closure s c) = x)
    (still : s.group.inFlight = none ∧ s.group.slot = none ∨
      ∃ e, ((s.closures.set c x).get e).phase = .driving ∨ ((s.closures.set c x).get e).phase = .settling ∨
        ((s.closures.set c x).get e).phase = .retrying) :
    Answers (.nodeReport dt c record) s { reportTaken dt c rep s with closures := s.closures.set c x } := by
  have rested (t : State) (closures : t.closures = s.closures.set c x) (group : t.group = s.group) : followGroup t = t := by
    rcases still with ⟨noFlight, noSlot⟩ | ⟨e, busy⟩
    · exact followGroup_still (by rw [group, noFlight]) (by rw [group, noSlot])
    · refine followGroup_waits (groupBusy_of (c := e) ?_)
      rw [closure, closures]
      exact busy
  have locks : takeLocks c rep false (channelCounted c rep (elapse dt s)) =
      relocked (s.closures.set c x) s.children s.group s.timed (channelCounted c rep (elapse dt s)) := by
    have lock : lockSeen c rep false (elapse dt s) = x := (lockSeen_from ..).trans seen
    rw [takeLocks_lock comes unmoved, lock]
    exact rested _ rfl rfl
  exact answers_relocked comes rests unpressed untouched locks (rested _ rfl rfl)

/-- A lock that comes to its target and completes the request in flight, which leaves nothing behind it. -/
theorem answers_completes {x : ClosureLock} (seen : lockSeenFrom (s.now + dt) (seenLock c rep) rep (closure s c) = x)
    (idle : x.phase = .idle) (others : ∀ e, e ≠ c → closureBusy (closure s e) = false) {f : InFlight}
    (flight : s.group.inFlight = some f) (noDue : f.request.releaseAfter = false)
    {group : LockGroup} {timed : Option TimedPattern}
    (completes : ∀ t : State, t.closures = s.closures.set c x → t.group = s.group → t.timed = s.timed → t.now = s.now + dt →
      t.cfg = s.cfg → completeItems f t = { t with group := group, timed := timed })
    (done : group.inFlight = none ∧ group.slot = none) :
    Answers (.nodeReport dt c record) s
      { reportTaken dt c rep s with closures := s.closures.set c x, group := group, timed := timed } := by
  obtain ⟨noFlight, empty⟩ := done
  let p := channelCounted c rep (elapse dt s)
  have locks : takeLocks c rep false p = relocked (s.closures.set c x) s.children group timed p := by
    have lock : lockSeen c rep false (elapse dt s) = x := (lockSeen_from ..).trans seen
    have free : groupBusy (setClosure c x p) = false := by
      refine List.any_eq_false.mpr fun e _ => ?_
      by_cases here : e = c
      · subst here
        rw [closure_setClosure]
        simp [closureBusy, idle]
      · rw [closure_setClosure_other here]
        have same : closureBusy (closure p e) = false := others e here
        simp [same]
    rw [takeLocks_lock comes unmoved, lock]
    exact followGroup_completes (t := relocked (s.closures.set c x) s.children group timed p) flight free
      (completes _ rfl rfl rfl rfl rfl) noDue noFlight empty
  exact answers_relocked comes rests unpressed untouched locks (followGroup_still noFlight empty)

end

/-! ## The completion of the request in flight (R17, R21, R23, R39) -/

section
variable {f : InFlight} {t : State}

theorem completeItems_locks (lock : f.request.kind = .lockAll ∨ f.request.kind = .deadlockAll) :
    completeItems f t =
      { t with
        group := { t.group with inFlight := none }
        timed := if ∀ c ∈ requestNames f.driver f.request.kind, (closure t c).phase = .idle then
          some ⟨.steady, t.now + 5000⟩ else t.timed } := by
  have kind : lockType f.request.kind = true := by rcases lock with h | h <;> rw [h] <;> rfl
  have judged : ((named f.request.kind f.driver).all fun c => (closure t c).phase == .idle) = true ↔
      ∀ c ∈ requestNames f.driver f.request.kind, (closure t c).phase = .idle := by
    simp [named_eq]
  unfold completeItems
  dsimp only
  rw [if_pos kind]
  by_cases all : ∀ c ∈ requestNames f.driver f.request.kind, (closure t c).phase = .idle
  · rw [if_pos all]
    exact if_pos (judged.mpr all)
  · rw [if_neg all]
    exact if_neg fun stands => all (judged.mp stands)

theorem completeItems_unlocks (notLock : f.request.kind ≠ .lockAll) (notDeadlock : f.request.kind ≠ .deadlockAll)
    (notCrash : f.request.kind ≠ .crashUnlock) :
    completeItems f t =
      { t with group := { t.group with
          inFlight := none, driveAwayArmed := true
          relockTimer :=
            if (f.request.source = .fob ∨ f.request.source = .passive ∨ f.request.source = .remote) ∧
                t.cfg.car.relockTime ≠ 0 ∧ anyAjar t = false ∧
                ((requestNames f.driver f.request.kind).all fun e => !(closure t e).openedSinceUnlock) then
              some ⟨t.now + t.cfg.car.relockTime * 1000, .locked⟩
            else t.group.relockTimer } } := by
  have lock : lockType f.request.kind = false := by
    revert notLock notDeadlock
    cases f.request.kind <;> simp [lockType]
  have unlock : unlockType f.request.kind = true := by
    revert notLock notDeadlock notCrash
    cases f.request.kind <;> simp [unlockType]
  let p : Prop := (f.request.source = .fob ∨ f.request.source = .passive ∨ f.request.source = .remote) ∧
    t.cfg.car.relockTime ≠ 0 ∧ anyAjar t = false ∧
    ((requestNames f.driver f.request.kind).all fun e => !(closure t e).openedSinceUnlock) = true
  have judged : (unlockType f.request.kind &&
      (f.request.source == .fob || f.request.source == .passive || f.request.source == .remote) &&
      t.cfg.car.relockTime ≠ 0 && !anyAjar t &&
      !((named f.request.kind f.driver).any fun c => (closure t c).openedSinceUnlock)) = true ↔ p := by
    simp only [p, unlock, named_eq, Bool.true_and, Bool.and_eq_true, Bool.or_eq_true, beq_iff_eq, decide_eq_true_eq,
      Bool.not_eq_true', and_assoc, or_assoc]
    refine and_congr_right fun _ => and_congr_right fun _ => and_congr_right fun _ => ?_
    simp
  unfold completeItems startRelock
  dsimp only
  rw [if_neg (by simp [lock])]
  by_cases h : p
  · refine (if_pos (judged.mpr h)).trans ?_
    rw [if_pos h]
  · refine (if_neg fun g => h (judged.mp g)).trans ?_
    rw [if_neg h]

end

/-! ## The lock of a report -/

/-- A closure that keeps its group busy. -/
abbrev LockBusy (s : State) (e : Closure) : Prop :=
  (closure s e).phase = .driving ∨ (closure s e).phase = .settling ∨ (closure s e).phase = .retrying

section
variable {s : State} {dt : Nat} {c : Closure} {record : List Byte} {rep old : Report}
  (comes : ReportComes dt c record rep old s) (unmoved : ChildUnmoved c rep s) (rests : MotorRests c s)
  (unpressed : c = .tg ∨ levels rep = levels old) (untouched : Untouched rep)
include comes unmoved rests unpressed untouched

theorem report_lockUnmoved (same : LockUnmoved c rep s)
    (still : s.group.inFlight = none ∧ s.group.slot = none ∨ ∃ e, e ≠ c ∧ LockBusy s e) :
    Answers (.nodeReport dt c record) s (reportTaken dt c rep s) := by
  obtain ⟨idle, sensed, settled⟩ := same
  have written : s.closures.set c (closure s c) = s.closures := Five.set_get ..
  have answers := answers_lock comes unmoved rests unpressed untouched (x := closure s c)
    (lockSeenFrom_unmoved comes.latch idle sensed settled) (still.imp_right fun ⟨e, _, busy⟩ => ⟨e, by rwa [written]⟩)
  rw [written] at answers
  exact answers

theorem report_lockManual {target : LockTarget} (idle : (closure s c).phase = .idle)
    (resting : s.group.inFlight = none ∧ s.group.slot = none)
    (moved : (closure s c).sensed ≠ seenLock c rep ∨ (closure s c).senseWaits = true)
    (known : seenLock c rep = .unlocked ∧ target = .unlocked ∨ seenLock c rep = .locked ∧ target = .locked ∨
      seenLock c rep = .deadlocked ∧ target = .deadlocked) :
    Answers (.nodeReport dt c record) s
      { reportTaken dt c rep s with closures := s.closures.set c { closure s c with
          sensed := seenLock c rep, target := target, lastSource := .manual, senseWaits := false } } :=
  answers_lock comes unmoved rests unpressed untouched (lockSeenFrom_manual comes.latch idle moved known) (.inl resting)

theorem report_pulseOver (runs : (closure s c).driveDeadline.isSome) (off : rep.pulseActive = false)
    (driven : (closure s c).phase = .driving ∨ (closure s c).phase = .retrying) :
    Answers (.nodeReport dt c record) s
      { reportTaken dt c rep s with closures := s.closures.set c { closure s c with
          sensed := seenLock c rep
          senseWaits := (closure s c).senseWaits && (seenLock c rep == .between || seenLock c rep == .unknown)
          phase := if (closure s c).phase = .driving then .settling else .retrying
          driveDeadline := none, settleDeadline := some (s.now + dt + 300) } } := by
  refine answers_lock comes unmoved rests unpressed untouched (lockSeenFrom_pulseOver comes.latch runs off driven)
    (.inr ⟨c, ?_⟩)
  rw [Five.get_set_same]
  dsimp only
  split <;> simp

section
variable (settles : (closure s c).phase = .settling ∨
    (closure s c).phase = .retrying ∧ (closure s c).driveDeadline = none ∧ (closure s c).settleDeadline.isSome)
  (there : atTarget (seenLock c rep) (closure s c).target = true)
  (sent : (closure s c).command = .idle ∨ (closure s c).command = .abandon)
include settles there sent

/-- A lock that has come to its target. -/
def lockThere (c : Closure) (rep : Report) (s : State) : ClosureLock :=
  { closure s c with
    sensed := seenLock c rep, senseWaits := false, phase := .idle, driveDeadline := none, settleDeadline := none }

theorem report_lockThere (busy : ∃ e, e ≠ c ∧ LockBusy s e) :
    Answers (.nodeReport dt c record) s
      { reportTaken dt c rep s with closures := s.closures.set c (lockThere c rep s) } := by
  obtain ⟨e, other, busy⟩ := busy
  refine answers_lock comes unmoved rests unpressed untouched (lockSeenFrom_there comes.latch settles there sent)
    (.inr ⟨e, ?_⟩)
  rw [Five.get_set_other other]
  exact busy

variable {f : InFlight} (last : ∀ e, e ≠ c → ¬LockBusy s e) (flight : s.group.inFlight = some f)
  (noSlot : s.group.slot = none) (noDue : f.request.releaseAfter = false)
include last flight noSlot noDue

theorem report_lockCompletes (lock : f.request.kind = .lockAll ∨ f.request.kind = .deadlockAll) :
    Answers (.nodeReport dt c record) s
      { reportTaken dt c rep s with
        closures := s.closures.set c (lockThere c rep s), group := { s.group with inFlight := none }
        timed := if ∀ e ∈ requestNames f.driver f.request.kind, e = c ∨ (closure s e).phase = .idle then
          some ⟨.steady, s.now + dt + 5000⟩ else s.timed } := by
  refine answers_completes comes unmoved rests unpressed untouched (x := lockThere c rep s)
    (lockSeenFrom_there comes.latch settles there sent) rfl
    (fun e other => by simpa [closureBusy, LockBusy, not_or, and_assoc] using last e other) flight noDue
    (fun t closures group timed now cfg => ?_) ⟨rfl, noSlot⟩
  have phases (e : Closure) : (closure t e).phase = .idle ↔ e = c ∨ (closure s e).phase = .idle := by
    rw [closure, closures]
    by_cases here : e = c
    · subst here
      simp [lockThere]
    · rw [Five.get_set_other here]
      simp [here, closure]
  rw [completeItems_locks lock]
  simp only [phases, group, timed, now]

theorem report_unlockCompletes (notLock : f.request.kind ≠ .lockAll) (notDeadlock : f.request.kind ≠ .deadlockAll)
    (notCrash : f.request.kind ≠ .crashUnlock) :
    Answers (.nodeReport dt c record) s
      { reportTaken dt c rep s with
        closures := s.closures.set c (lockThere c rep s)
        group := { s.group with
          inFlight := none, driveAwayArmed := true
          relockTimer :=
            if (f.request.source = .fob ∨ f.request.source = .passive ∨ f.request.source = .remote) ∧
                s.cfg.car.relockTime ≠ 0 ∧ anyAjar s = false ∧
                ((requestNames f.driver f.request.kind).all fun e => !(closure s e).openedSinceUnlock) then
              some ⟨s.now + dt + s.cfg.car.relockTime * 1000, .locked⟩
            else s.group.relockTimer } } := by
  refine answers_completes comes unmoved rests unpressed untouched (x := lockThere c rep s)
    (lockSeenFrom_there comes.latch settles there sent) rfl
    (fun e other => by simpa [closureBusy, LockBusy, not_or, and_assoc] using last e other) flight noDue
    (fun t closures group timed now cfg => ?_) ⟨rfl, noSlot⟩
  have kept {α : Type} (g : ClosureLock → α) (same : g (lockThere c rep s) = g (closure s c)) (e : Closure) :
      g (closure t e) = g (closure s e) := by
    rw [closure, closures]
    by_cases here : e = c
    · subst here
      rw [Five.get_set_same, same]
    · rw [Five.get_set_other here, closure]
  have ajar : anyAjar t = anyAjar s := by
    unfold anyAjar
    simp only [kept ClosureLock.latch rfl]
  rw [completeItems_unlocks notLock notDeadlock notCrash]
  simp only [kept ClosureLock.openedSinceUnlock rfl, ajar, group, timed, now, cfg]
  rfl

end

end

end Sys2Proof.Machine
end

section
/-!
PROOFS. The child-lock field of a report (R29, R31 to R33).
-/

namespace Sys2Proof.Machine

section
variable {s t : State} {dt : Nat} {c : Closure} {record : List Byte} {rep old : Report} {d : RearDoor}

/-- The child lock that a report gives (R32, R33). -/
theorem childReport_run (run : t.stage = .run) (d : RearDoor) (sensed : ChildSensed) :
    childReport d sensed t = setChild d (childPhaseReport t.now { child t d with sensed := sensed }) t := by
  have running : running t = true := by simp [Machine.running, run]
  unfold childReport
  dsimp only
  rw [if_pos running]

/-- The locks of a report whose lock rests. -/
theorem takeLocks_child (comes : ReportComes dt c record rep old s) (own : rearClosure d = c)
    (lock : LockUnmoved c rep s) (resting : s.group.inFlight = none ∧ s.group.slot = none) :
    takeLocks c rep false (channelCounted c rep (elapse dt s)) =
      setChild d (childPhaseReport (s.now + dt) { child s d with sensed := rep.childSensed })
        (channelCounted c rep (elapse dt s)) := by
  let p := channelCounted c rep (elapse dt s)
  obtain ⟨idle, sensed, settled⟩ := lock
  have seen : lockSeen c rep false (elapse dt s) = closure s c :=
    (lockSeen_from ..).trans (lockSeenFrom_unmoved comes.latch idle sensed settled)
  have unlocked : lockReport c rep false p = p := by
    rw [lockReport_comes comes, seen]
    exact setClosure_closure c p
  rw [takeLocks_eq, locksRead, closureRear_eq.mpr own]
  dsimp only
  rw [unlocked, childReport_run (t := p) comes.steady.run]
  exact followGroup_still resting.1 resting.2

/-- A report that moves its rear door's child lock alone. -/
theorem answers_child (comes : ReportComes dt c record rep old s) (own : rearClosure d = c) (lock : LockUnmoved c rep s)
    (resting : s.group.inFlight = none ∧ s.group.slot = none) (rests : MotorRests c s) (unpressed : levels rep = levels old)
    (untouched : Untouched rep) {x : ChildLock}
    (seen : childPhaseReport (s.now + dt) { child s d with sensed := rep.childSensed } = x) :
    Answers (.nodeReport dt c record) s { reportTaken dt c rep s with children := s.children.set d x } := by
  refine answers_relocked (closures := s.closures) (children := s.children.set d x) (group := s.group) (timed := s.timed)
    comes rests (.inr unpressed) untouched ?_ (followGroup_still resting.1 resting.2)
  rw [takeLocks_child comes own lock resting, seen]
  rfl

/-! ## The record of the child lock -/

section
variable {k : ChildLock} {now : Nat}

theorem childPhaseReport_sent (driving : k.phase = .driving) (gone : k.command = none) :
    childPhaseReport now k = { k with phase := .settling, settleDeadline := some (now + 800) } := by
  simp [childPhaseReport, driving, gone, Config.childSettleTime]

theorem childPhaseReport_settled (settles : k.phase = .settling ∨ k.phase = .fault) (there : childThere k = true) :
    childPhaseReport now k = { k with phase := .idle, command := none, settleDeadline := none } := by
  rcases settles with h | h <;> simp [childPhaseReport, h, there, childStand]

theorem childPhaseReport_drifts (idle : k.phase = .idle) (known : k.sensed ≠ .unknown) (away : childThere k = false) :
    childPhaseReport now k =
      { k with
        phase := .driving, retried := false, settleDeadline := none
        command := some (if k.target = .engaged then .engage else .disengage) } := by
  have command : childCommandFor k.target = if k.target = .engaged then .engage else .disengage := by
    cases k.target <;> rfl
  rw [← command]
  unfold childPhaseReport
  rw [idle]
  exact if_neg (by simp [known, away])

end

end

end Sys2Proof.Machine
end

section
/-!
PROOFS. A report in which nothing but a switch, a handle or an uplink moved (R48, R51 to R54, R168 to R172).
-/

namespace Sys2Proof.Machine

section
variable {s : State} {dt : Nat} {c : Closure} {record : List Byte} {rep old : Report}

/-- With the locks at rest nothing of item B is left to do (R168 B). -/
theorem LocksRest.takeLocks (h : LocksRest dt c record rep old s) :
    takeLocks c rep false (channelCounted c rep (elapse dt s)) = channelCounted c rep (elapse dt s) := by
  obtain ⟨idle, sensed, settled⟩ := h.lock
  have seen : lockSeen c rep false (elapse dt s) = closure s c :=
    (lockSeen_from ..).trans (lockSeenFrom_unmoved h.latch idle sensed settled)
  rw [takeLocks_lock h.toReportComes h.child, seen]
  exact (congrArg followGroup (setClosure_closure c (channelCounted c rep (elapse dt s)))).trans
    (followGroup_still h.noFlight h.noSlot)

theorem LocksRest.takeMotor (h : LocksRest dt c record rep old s) (rests : MotorRests c s) :
    onWindow c (fun x => { x with overtemp := false }) (takeMotor c rep (Machine.takeLocks c rep false
      (channelCounted c rep (elapse dt s)))) = reportRead dt c rep s := by
  have motor : Machine.takeMotor c rep (channelCounted c rep (elapse dt s)) =
      onWindow c (heatDecay (s.now + dt)) (channelCounted c rep (elapse dt s)) := takeMotor_rests rests
  rw [h.takeLocks, motor, onWindow_windowRead]
  rfl

/-- Of a channel at rest, the edges, the handle events and the uplink are left. -/
theorem reportRecorded_rests (h : LocksRest dt c record rep old s) (rests : MotorRests c s) :
    reportRecorded c rep (elapse dt s) =
      reportKept c rep true (takeUplink c rep (handleEvents c rep (onWindow c (unsuppressed rep)
        (edgesTaken c old rep (reportRead dt c rep s))))) := by
  rw [reportRecorded_comes h.toReportComes, h.takeMotor rests]

/-- The edges alone. -/
theorem reportRecorded_edges (h : LocksRest dt c record rep old s) (rests : MotorRests c s) (untouched : Untouched rep) :
    reportRecorded c rep (elapse dt s) =
      followGroup (reportDressed c rep (edgesTaken c old rep (reportRead dt c rep s))) := by
  obtain ⟨unlock, lock, release, uplink⟩ := untouched
  rw [reportRecorded_rests h rests, handleEvents_untouched ⟨unlock, lock, release⟩, takeUplink_none uplink]
  rfl

/-- An edge that is an activity event, by the state `e` that it leaves before the report is kept. -/
theorem acts_edges (h : LocksRest dt c record rep old s) (rests : MotorRests c s) (untouched : Untouched rep) {e t : State}
    (edges : edgesTaken c old rep (reportRead dt c rep s) = e) (fresh : Fresh e)
    (still : followGroup (reportDressed c rep e) = reportDressed c rep e)
    (agrees : AgreeButActivity (reportDressed c rep e) t) : AnswersActive (.nodeReport dt c record) s t := by
  have recorded : reportRecorded c rep (elapse dt s) = reportDressed c rep e := by
    rw [reportRecorded_edges h rests untouched, edges, still]
  refine report_acts h.toReportComes (by rw [recorded]; exact agrees) ?_
  rw [recorded]
  exact fresh.of_same rfl rfl rfl fun _ => rfl

/-! ## The channel as its report is read -/

/-- Any field of a channel that the count leaves. -/
theorem reportRead_channel {α : Type} (f : Channel → α) (hf : ∀ ch, f (countGood rep ch) = f ch) (d : Closure) :
    f (channel (reportRead dt c rep s) d) = f (channel s d) := by
  have written : channel (reportRead dt c rep s) d = channel (channelCounted c rep (elapse dt s)) d := rfl
  rw [written, channelCounted]
  by_cases here : d = c
  · rw [here, channel_setChannel, hf]
    rfl
  · rw [channel_setChannel_other here]
    rfl

theorem reportRead_presentReport {d : Closure} (other : d ≠ c) :
    presentReport (reportRead dt c rep s) d = presentReport s d := by
  have same : channel (reportRead dt c rep s) d = channel s d := channel_setChannel_other other ..
  rw [presentReport, same, presentReport]

theorem reportRead_packLevel (w : WindowId) : packLevel (reportRead dt c rep s) c rep w = packLevel s c rep w := by
  have driver : driverClosure (reportRead dt c rep s) = driverClosure s := rfl
  unfold packLevel
  rw [driver]
  split
  · rfl
  · next other => rw [reportRead_presentReport (by simpa using other)]

theorem reportRead_ownLevel (w : WindowId) : ownLevel (reportRead dt c rep s) c rep w = ownLevel s c rep w := by
  unfold ownLevel
  split
  · rfl
  · next other => rw [reportRead_presentReport (by simpa using other)]

/-- Any field of a window that a report of a standing motor leaves. -/
theorem reportRead_window {α : Type} (f : Window → α)
    (hf : ∀ (y : Window) heat stamp hot, f { y with heat := heat, heatStamp := stamp, hot := hot, overtemp := false } = f y)
    (w : WindowId) : f (window (reportRead dt c rep s) w) = f (window s w) := by
  have written := onWindow_window (c := c) (windowRead (s.now + dt)) (channelCounted c rep (elapse dt s)) w
  rw [reportRead, written]
  split
  · exact hf (window s w) _ _ _
  · rfl

/-- A free window is free when its report is read. -/
theorem WindowFree.read {w : WindowId} (free : WindowFree w s) : WindowFree w (reportRead dt c rep s) := by
  have same {α : Type} (f : Window → α) (hf : ∀ (y : Window) heat stamp hot,
      f { y with heat := heat, heatStamp := stamp, hot := hot, overtemp := false } = f y) :
      f (window (reportRead dt c rep s) w) = f (window s w) := reportRead_window f hf w
  have written := onWindow_window (c := c) (windowRead (s.now + dt)) (channelCounted c rep (elapse dt s)) w
  refine ⟨(same (·.state) fun _ _ _ _ => rfl).trans free.idle, (same (·.origin) fun _ _ _ _ => rfl).trans free.noOrigin,
    (same (·.normalized) fun _ _ _ _ => rfl).trans free.normalized, ?_, ?_, free.notForced, free.supply⟩
  · rw [reportRead, written]
    split
    · have cold : (window (channelCounted c rep (elapse dt s)) w).hot = false := free.cold
      exact Bool.and_eq_false_imp.mpr fun hot => absurd hot (by simp [cold])
    · exact free.cold
  · rw [reportRead, written]
    split
    · rfl
    · exact free.cool

end

end Sys2Proof.Machine
end

section
/-!
PROOFS. The window switches that a report shows: a press on the own switch and on the driver pack, one under the rear window
inhibit, and the release of a held entry (R36, R45 to R54, R59).
-/

namespace Sys2Proof.Machine

/-! ## Presses (R45 to R49, R52 A) -/

section
variable {w : WindowId} {origin : Origin} {level : Switch} {s : State}

theorem activity_activity (run : s.stage = .run) (awake : s.ctx.state = .awake) : activity (activity s) = activity s := by
  obtain ⟨v, lively⟩ := lively_activity run awake
  exact activity_again lively

theorem honoured_on (run : s.stage = .run) (on : s.ctx.ignition = .run) : honoured s = true := by
  simp [honoured, running, run, on]

theorem isUp_iff (level : Switch) : isUp level = true ↔ level = .up ∨ level = .upAuto := by
  cases level <;> simp [isUp]

/-- A press on a free window, as the record says. -/
theorem pressRequest_free (free : WindowFree w s) (travel : Nat) :
    pressRequest w origin level (window s w) travel =
      ⟨w, if level = .up ∨ level = .upAuto then 0 else travel, origin, level == .up || level == .down⟩ := by
  simp [pressRequest, free.normalized, ← isUp_iff]

/-- A press on a free window with somewhere to go waits for its grant at the tail of the switch class. -/
theorem press_waits (run : s.stage = .run) (awake : s.ctx.state = .awake) (free : WindowFree w s)
    (switch : origin = .ownSwitch ∨ origin = .driverPack)
    (goes : level = .up ∨ level = .upAuto ∨ (window s w).position < min (windowCfg s w).travel (currentLimit s w)) :
    press w origin level (activity s) = pressWaits w origin level (activity s) := by
  obtain ⟨last, idle, active⟩ := activity_eq s
  have again := activity_activity run awake
  rw [active] at again ⊢
  let t := withActivity last idle s
  have freeT : WindowFree w t := free.of_same rfl rfl rfl
  let r : WindowRequest :=
    ⟨w, if level = .up ∨ level = .upAuto then 0 else (windowCfg s w).travel, origin, level == .up || level == .down⟩
  have asks : press w origin level t = checkRequest r t := by
    have request : pressRequest w origin level (window t w) (windowCfg t w).travel = r := pressRequest_free freeT _
    have idle' : (window t w).state = .idle := freeT.idle
    unfold press
    dsimp only
    rw [if_neg (by simp [idle']), if_neg (by simp [idle']), request,
      requestMotion_awake (s := t) run awake, again]
  have queue : switchOrigin (some r.origin) = true := by rcases switch with rfl | rfl <;> rfl
  rw [asks]
  have wanted : requestedOf r t = if level = .up ∨ level = .upAuto then 0 else (windowCfg s w).travel := by
    change min (if level = .up ∨ level = .upAuto then 0 else (windowCfg s w).travel) (windowCfg s w).travel = _
    split
    · exact Nat.zero_min _
    · exact Nat.min_self _
  have waits : checkRequest r t = waitsFor r (if level = .up ∨ level = .upAuto then .up else .down) t := by
    by_cases closing : level = .up ∨ level = .upAuto
    · rw [if_pos closing] at wanted ⊢
      exact checkRequest_waits freeT (by rw [wanted]; exact requestDirection_up (.inl rfl))
        (.inr ⟨rfl, .inl (by rw [wanted, Nat.zero_min])⟩)
    · rw [if_neg closing] at wanted ⊢
      have below : (window s w).position < min (windowCfg s w).travel (currentLimit s w) := by
        rcases goes with up | up | below
        · exact absurd (.inl up) closing
        · exact absurd (.inr up) closing
        · exact below
      have way : requestDirection (windowCfg s w).travel (window s w).position = .down :=
        requestDirection_down (by omega) (by omega)
      exact checkRequest_waits freeT (by rw [wanted]; exact way) (.inl ⟨rfl, by rw [wanted]; exact below⟩)
  rw [waits]
  unfold waitsFor pressWaits accepted
  rw [wanted, queue]
  rfl

/-- The edge of a press that is neither ignored nor under the other switch. -/
theorem switchEdge_presses (run : s.stage = .run) (on : s.ctx.ignition = .run) (pressed : level ≠ .none)
    (idle : (window s w).state = .idle)
    (heard : origin = .ownSwitch → (window s w).suppressed = false ∧ inhibited s w = false) :
    switchEdge w origin .none level .none s = press w origin level (activity s) := by
  obtain ⟨last, idleDeadline, active⟩ := activity_eq s
  have edge : (Switch.none == level || !honoured s) = false := by
    simp [honoured_on run on, pressed.symm]
  have idle' : (window (activity s) w).state = .idle := by rw [active]; exact idle
  have suppressed : (window (activity s) w).suppressed = (window s w).suppressed := by rw [active]; rfl
  have inhibit : inhibited (activity s) w = inhibited s w := by rw [active]; rfl
  have notIgnored : ((window (activity s) w).state == .reversing ||
      (origin == .ownSwitch && ((window (activity s) w).suppressed || inhibited (activity s) w))) = false := by
    rw [idle', suppressed, inhibit]
    cases origin <;> simp [heard]
  unfold switchEdge
  rw [edge]
  simp only [Bool.false_eq_true, if_false]
  rw [notIgnored]
  simp only [Bool.false_eq_true, if_false, interpretEdge]
  simp [pressed, pressUnder]

end

end Sys2Proof.Machine
end

section
/-!
PROOFS. The switches of a report of a channel at rest (R36, R45 to R54, R59, R168 to R171).
-/

namespace Sys2Proof.Machine

section
variable {s t : State} {dt : Nat} {c : Closure} {record : List Byte} {rep old : Report} {w : WindowId}

/-! ## The edges of one switch -/

/-- The own switch alone. -/
theorem edgesTaken_own (run : s.stage = .run) (own : windowClosure w = c)
    (same : levels rep = levels { old with ownSwitch := rep.ownSwitch }) :
    edgesTaken c old rep s = switchEdge w .ownSwitch old.ownSwitch rep.ownSwitch (packLevel s c rep w) s := by
  have running : running s = true := by simp [Machine.running, run]
  have here : closureWindow c = some w := closureWindow_eq.mpr own
  have pack : (if c == driverClosure s then packEdges c old rep s else s) = s := by
    have others := congrArg Prod.snd same
    rw [packEdges_level (old := old) others, ite_self]
  unfold edgesTaken ownEdge
  rw [if_pos running, pack, here]

/-- One edge of the driver pack alone. -/
theorem edgesTaken_pack {level : Switch} (run : s.stage = .run) (driver : c = driverClosure s)
    (same : levels rep = levels { old with pack := old.pack.set w level }) :
    edgesTaken c old rep s = switchEdge w .driverPack (old.pack.get w) level (ownLevel s c rep w) s := by
  have running : running s = true := by simp [Machine.running, run]
  simp only [levels, Prod.mk.injEq] at same
  obtain ⟨own, pack, central, childButton, lockoutButton, cylinder⟩ := same
  have turns (l : List WindowId) (once : l.Nodup) (t : State) :
      l.foldl (fun t v => switchEdge v .driverPack (old.pack.get v) (rep.pack.get v) (ownLevel t c rep v) t) t =
        if w ∈ l then switchEdge w .driverPack (old.pack.get w) level (ownLevel t c rep w) t else t := by
    induction l generalizing t with
    | nil => rfl
    | cons v l ih =>
      obtain ⟨fresh, once⟩ := List.nodup_cons.mp once
      rw [List.foldl_cons, ih once]
      by_cases here : v = w
      · subst here
        rw [if_neg fresh, if_pos List.mem_cons_self, pack, Four.get_set_same]
      · have still : rep.pack.get v = old.pack.get v := by rw [pack, Four.get_set_other here]
        simp only [still, switchEdge_level, List.mem_cons, Ne.symm here, false_or]
  have edges : packEdges c old rep s = switchEdge w .driverPack (old.pack.get w) level (ownLevel s c rep w) s := by
    unfold packEdges
    rw [turns allWindows (by decide), if_pos (by cases w <;> decide)]
    simp only [central, childButton, lockoutButton, cylinder, lockSwitchEdge_level]
    simp [childButtonEdge, lockoutButtonEdge]
  have quiet (t : State) : ownEdge c old rep t = t := by
    unfold ownEdge
    split
    · rw [own, switchEdge_level]
    · rfl
  unfold edgesTaken
  rw [if_pos running, if_pos (by simp [driver]), edges, quiet]

/-! ## The inhibit (R36) -/

theorem inhibited_iff (w : WindowId) (s : State) : inhibited s w = false ↔ Uninhibited w s := by
  have named (d : RearDoor) : rearWindow d = w ↔ windowRear w = some d := by
    cases d <;> cases w <;> decide
  unfold inhibited Uninhibited
  simp only [named]
  cases windowRear w with
  | none => simp
  | some d => cases h : (child s d).target <;> simp [h]

/-! ## What the report keeps of a press -/

theorem unsuppressed_heatRest (now : Nat) (x : Window) :
    unsuppressed rep (heatRest now x) = heatRest now (unsuppressed rep x) := by
  have same : motorRunning (unsuppressed rep x) = motorRunning x := rfl
  rw [heatRest, heatRest, same]
  split <;> rfl

/-- The state with one window and the motion record changed. -/
def windowMoved (w : WindowId) (f : Window → Window) (motion : Motion) (s : State) : State :=
  { s with windows := s.windows.set w (f (window s w)), motion := motion }

/-- A change of a window that the own-switch level does not meet. -/
theorem reportDressed_moved {f : Window → Window} (apart : ∀ x, unsuppressed rep (f x) = f (unsuppressed rep x))
    (w : WindowId) (motion : Motion) (t : State) :
    reportDressed c rep (windowMoved w f motion t) = windowMoved w f motion (reportDressed c rep t) := by
  have windows : (reportDressed c rep (windowMoved w f motion t)).windows =
      (windowMoved w f motion (reportDressed c rep t)).windows := by
    refine Four.ext_get fun v => ?_
    simp only [reportDressed, setChannel, onWindow, windowMoved, Four.get_mapWith]
    by_cases here : v = w
    · subst here
      simp only [Four.get_set_same, window, Four.get_mapWith]
      split
      · exact apart _
      · rfl
    · rw [Four.get_set_other here, Four.get_set_other here, Four.get_mapWith]
  have rest : reportDressed c rep (windowMoved w f motion t) =
      { windowMoved w f motion (reportDressed c rep t) with
        windows := (reportDressed c rep (windowMoved w f motion t)).windows } := rfl
  rw [rest, windows]

theorem reportDressed_pressWaits (w : WindowId) (origin : Origin) (level : Switch) (t : State) :
    reportDressed c rep (pressWaits w origin level t) = pressWaits w origin level (reportDressed c rep t) := by
  let f (x : Window) : Window :=
    { heatRest t.now x with
      state := .waiting, direction := if level = .up ∨ level = .upAuto then .up else .down
      requested := if level = .up ∨ level = .upAuto then 0 else (windowCfg t w).travel, origin := some origin
      held := level == .up || level == .down, normHold := none, lastRefusal := none }
  have apart (x : Window) : unsuppressed rep (f x) = f (unsuppressed rep x) := by
    simp only [f, ← unsuppressed_heatRest]
    rfl
  exact reportDressed_moved apart w { t.motion with switchQueue := t.motion.switchQueue ++ [w] } t

end

/-! ## The switches of a channel at rest -/

section
variable {s : State} {dt : Nat} {c : Closure} {record : List Byte} {rep old : Report} {w : WindowId} {level : Switch}
  (h : LocksRest dt c record rep old s) (rests : MotorRests c s) (untouched : Untouched rep)
include h rests untouched

/-- A press that waits for its grant. -/
theorem report_presses {origin : Origin} (switch : origin = .ownSwitch ∨ origin = .driverPack) (pressed : level ≠ .none)
    (edges : edgesTaken c old rep (reportRead dt c rep s) = switchEdge w origin .none level .none (reportRead dt c rep s))
    (heard : origin = .ownSwitch → (window s w).suppressed = false ∧ Uninhibited w s) (free : WindowFree w s)
    (goes : level = .up ∨ level = .upAuto ∨ (window s w).position < min (windowCfg s w).travel (currentLimit s w)) :
    AnswersActive (.nodeReport dt c record) s (pressWaits w origin level (reportTaken dt c rep s)) := by
  let x := reportRead dt c rep s
  have run : x.stage = .run := h.steady.run
  have on : x.ctx.ignition = .run := h.steady.ignition h.steady.run
  have awake : x.ctx.state = .awake := h.steady.awake h.steady.run
  have freeX : WindowFree w x := free.read
  have position : (window x w).position = (window s w).position := reportRead_window (·.position) (fun _ _ _ _ => rfl) w
  have suppressed : (window x w).suppressed = (window s w).suppressed :=
    reportRead_window (·.suppressed) (fun _ _ _ _ => rfl) w
  have acted : edgesTaken c old rep x = pressWaits w origin level (activity x) := by
    rw [edges, switchEdge_presses run on pressed freeX.idle]
    · exact press_waits run awake freeX switch (by rw [position]; exact goes)
    · intro own
      rw [suppressed]
      exact (heard own).imp_right fun free => (inhibited_iff w x).mpr free
  obtain ⟨last, idle, active⟩ := activity_eq x
  refine acts_edges h rests untouched acted ((activity_fresh run).of_same rfl rfl rfl fun _ => rfl) ?_ ?_
  · refine followGroup_still ?_ ?_
    · rw [active]; exact h.noFlight
    · rw [active]; exact h.noSlot
  · rw [active, reportDressed_pressWaits, reportTaken_eq]
    rfl

theorem report_ownPress (own : windowClosure w = c) (up : old.ownSwitch = .none)
    (same : levels rep = levels { old with ownSwitch := rep.ownSwitch }) (pressed : rep.ownSwitch ≠ .none)
    (alone : packLevel s c rep w = .none) (free : PressFree w s)
    (goes : rep.ownSwitch = .up ∨ rep.ownSwitch = .upAuto ∨
      (window s w).position < min (windowCfg s w).travel (currentLimit s w)) :
    AnswersActive (.nodeReport dt c record) s (pressWaits w .ownSwitch rep.ownSwitch (reportTaken dt c rep s)) := by
  refine report_presses h rests untouched (.inl rfl) pressed ?_ (fun _ => ⟨free.unsuppressed, free.uninhibited⟩)
    free.toWindowFree goes
  rw [edgesTaken_own (s := reportRead dt c rep s) h.steady.run own same, up, reportRead_packLevel, alone]

theorem report_packPress (driver : c = driverClosure s) (up : old.pack.get w = .none) (pressed : level ≠ .none)
    (same : levels rep = levels { old with pack := old.pack.set w level }) (alone : ownLevel s c rep w = .none)
    (free : WindowFree w s)
    (goes : level = .up ∨ level = .upAuto ∨ (window s w).position < min (windowCfg s w).travel (currentLimit s w)) :
    AnswersActive (.nodeReport dt c record) s (pressWaits w .driverPack level (reportTaken dt c rep s)) := by
  refine report_presses h rests untouched (.inr rfl) pressed ?_ nofun free goes
  rw [edgesTaken_pack (s := reportRead dt c rep s) h.steady.run driver same, up, reportRead_ownLevel, alone]

/-- An edge of the own switch under the inhibit is activity alone. -/
theorem report_inhibited (own : windowClosure w = c) (up : old.ownSwitch = .none)
    (same : levels rep = levels { old with ownSwitch := rep.ownSwitch }) (pressed : rep.ownSwitch ≠ .none)
    (inhibit : ¬Uninhibited w s) :
    AnswersActive (.nodeReport dt c record) s (reportTaken dt c rep s) := by
  let x := reportRead dt c rep s
  have run : x.stage = .run := h.steady.run
  obtain ⟨last, idle, active⟩ := activity_eq x
  have edge : (old.ownSwitch == rep.ownSwitch || !honoured x) = false := by
    simp [honoured_on run (h.steady.ignition h.steady.run), up, pressed.symm]
  have barred : inhibited (activity x) w = true := by
    have free := (inhibited_iff w s).not.mpr inhibit
    rw [active]
    exact (Bool.not_eq_false _).mp free
  have acted : edgesTaken c old rep x = activity x := by
    rw [edgesTaken_own (s := x) run own same]
    unfold switchEdge
    rw [edge]
    simp [barred]
  refine acts_edges h rests untouched acted (activity_fresh run) ?_ ?_
  · refine followGroup_still ?_ ?_
    · rw [active]; exact h.noFlight
    · rw [active]; exact h.noSlot
  · rw [active, reportTaken_eq]
    rfl

end

end Sys2Proof.Machine
end

section
/-!
PROOFS. The release of a switch, the central lock switch, the key cylinder, the child and the lockout button in a report of a
channel at rest (R4, R30, R31, R35, R36, R52, R60, R171).
-/

namespace Sys2Proof.Machine

/-! ## The release of a held entry (R52 D, R60 A) -/

/-- A window whose waiting entry its switch has released. -/
def releasedWindow (x : Window) : Window :=
  { x with state := .idle, lastOutcome := some .released, origin := none, held := false }

/-- A held waiting entry of the own switch ends RELEASED. -/
theorem releaseSwitch_waiting {w : WindowId} {t : State} (waits : (window t w).state = .waiting)
    (origin : (window t w).origin = some .ownSwitch) (held : (window t w).held = true) :
    releaseSwitch w .ownSwitch t = windowMoved w releasedWindow (dequeue w t.motion) t := by
  have from_ : heldFrom .ownSwitch (window t w) = true := by simp [heldFrom, waits, origin, held]
  have ended : endMotionRecord w .released t = endWaiting w .released t := if_pos (by simp [waits])
  have plain (u : State) : handOutcome (window t w).origin w .released u = u := by simp [handOutcome, origin, operationOrigin]
  unfold releaseSwitch endMotion
  dsimp only
  rw [if_pos from_, ended, plain, ite_self]
  rfl

section
variable {s : State} {dt : Nat} {c : Closure} {record : List Byte} {rep old : Report} {w : WindowId}
  (h : LocksRest dt c record rep old s) (rests : MotorRests c s) (untouched : Untouched rep)
include h rests untouched

theorem report_releases (own : windowClosure w = c) (down : old.ownSwitch ≠ .none) (up : rep.ownSwitch = .none)
    (same : levels rep = levels { old with ownSwitch := .none }) (unsuppressed : (window s w).suppressed = false)
    (uninhibited : Uninhibited w s) (waits : (window s w).state = .waiting)
    (origin : (window s w).origin = some .ownSwitch) (held : (window s w).held = true) :
    AnswersActive (.nodeReport dt c record) s
      { reportTaken dt c rep s with
        windows := (reportTaken dt c rep s).windows.set w (releasedWindow (window (reportTaken dt c rep s) w))
        motion := { s.motion with
          switchQueue := s.motion.switchQueue.filter (· ≠ w)
          otherQueue := s.motion.otherQueue.filter (· ≠ w) } } := by
  let x := reportRead dt c rep s
  have run : x.stage = .run := h.steady.run
  obtain ⟨last, idle, active⟩ := activity_eq x
  have field {α : Type} (f : Window → α) (hf : ∀ (y : Window) heat stamp hot,
      f { y with heat := heat, heatStamp := stamp, hot := hot, overtemp := false } = f y) :
      f (window (activity x) w) = f (window s w) := by
    rw [active]
    exact reportRead_window f hf w
  have state := (field (·.state) fun _ _ _ _ => rfl).trans waits
  have source := (field (·.origin) fun _ _ _ _ => rfl).trans origin
  have holds := (field (·.held) fun _ _ _ _ => rfl).trans held
  have heard := (field (·.suppressed) fun _ _ _ _ => rfl).trans unsuppressed
  have free : inhibited (activity x) w = false := by
    rw [active]
    exact (inhibited_iff w x).mpr uninhibited
  have edge : (old.ownSwitch == rep.ownSwitch || !honoured x) = false := by
    simp [honoured_on run (h.steady.ignition h.steady.run), up, down]
  have motion : dequeue w x.motion = { s.motion with
      switchQueue := s.motion.switchQueue.filter (· ≠ w), otherQueue := s.motion.otherQueue.filter (· ≠ w) } := by
    have pick : (fun v => v != w) = fun v => Decidable.decide (v ≠ w) := by
      funext v
      by_cases here : v = w <;> simp [here]
    simp only [dequeue, pick]
    rfl
  have ended : edgesTaken c old rep x = windowMoved w releasedWindow (dequeue w x.motion) (activity x) := by
    have kept : (activity x).motion = x.motion := by rw [active]; rfl
    rw [edgesTaken_own (s := x) run own (by rw [same, up]), ← kept, ← releaseSwitch_waiting state source holds]
    unfold switchEdge
    rw [edge]
    simp [state, heard, free, interpretEdge, up]
  refine acts_edges h rests untouched ended ((activity_fresh run).of_same rfl rfl rfl fun _ => rfl) ?_ ?_
  · refine followGroup_still ?_ ?_
    · rw [active]; exact h.noFlight
    · rw [active]; exact h.noSlot
  · rw [reportDressed_moved (f := releasedWindow) (fun _ => rfl), active, reportTaken_eq, motion]
    rfl

end

end Sys2Proof.Machine
end

section
/-!
PROOFS. The central lock switch, the key cylinder, the child and the lockout button in a report of the driver closure's
channel at rest (R4, R30, R31, R35, R36, R171).
-/

namespace Sys2Proof.Machine

section
variable {s t : State} {dt : Nat} {c : Closure} {record : List Byte} {rep old : Report}

/-- With the window switches as they were, the switches and buttons of the driver pack are left. -/
theorem edgesTaken_buttons (run : s.stage = .run) (driver : c = driverClosure s) (own : rep.ownSwitch = old.ownSwitch)
    (pack : rep.pack = old.pack) : edgesTaken c old rep s =
      lockSwitchEdge .keyCylinder old.keyCylinder rep.keyCylinder
        (lockoutButtonEdge old.lockoutButton rep.lockoutButton
          (childButtonEdge old.childButton rep.childButton
            (lockSwitchEdge .insideSwitch old.central rep.central s))) := by
  have running : running s = true := by simp [Machine.running, run]
  have quiet (t : State) : ownEdge c old rep t = t := by
    unfold ownEdge
    split
    · rw [own, switchEdge_level]
    · rfl
  have switches (l : List WindowId) :
      l.foldl (fun t v => switchEdge v .driverPack (old.pack.get v) (rep.pack.get v) (ownLevel t c rep v) t) s = s := by
    induction l with
    | nil => rfl
    | cons v l ih =>
      have level : switchEdge v .driverPack (old.pack.get v) (rep.pack.get v) (ownLevel s c rep v) s = s := by
        rw [pack, switchEdge_level]
      rw [List.foldl_cons, level, ih]
  unfold edgesTaken
  rw [if_pos running, if_pos (by simp [driver]), quiet, packEdges, switches]

theorem childButtonEdge_level (b : Bool) (s : State) : childButtonEdge b b s = s := by simp [childButtonEdge]

theorem lockoutButtonEdge_level (b : Bool) (s : State) : lockoutButtonEdge b b s = s := by simp [lockoutButtonEdge]

theorem reportRead_steady (steady : Steady s) : Steady (reportRead dt c rep s) :=
  ⟨Calm.of_rates steady.toCalm rfl rfl rfl rfl fun d => reportRead_channel Channel.rate (fun _ => rfl) d, steady.run⟩

/-- A group that is ready is ready when the report is read. -/
theorem LockReady.read (ready : LockReady s) (steady : Steady s) : LockReady (reportRead dt c rep s) where
  alert := (reportRead_steady steady).alert
  room := ready.room
  idle := ready.idle
  unsent := ready.unsent
  noFlight := ready.noFlight
  noSlot := ready.noSlot
  reported d := (reportRead_channel Channel.reported (fun _ => rfl) d).trans (ready.reported d)
  present d := by
    rw [reportRead_channel Channel.link (fun _ => rfl) d]
    exact ready.present d
  notForced := ready.notForced
  tokens := ready.tokens
  noHold := ready.noHold
  noAjar := ready.noAjar

/-- What the windows follow where the limits of the front ones stand and the rear ones rest (R36, R37, R46). -/
theorem followSettings_rear (limits : ∀ w, windowRear w = none → currentLimit s w = currentLimit t w)
    (rest : ∀ d, (window t (rearWindow d)).state = .idle ∨ (window t (rearWindow d)).state = .fault) :
    followSettings s t = t := by
  have stays (w : WindowId) : followInhibit s w (followLimit s w t) = t := by
    cases rear : windowRear w with
    | none =>
      have front : inhibited t w = false := by rw [inhibited, rear]
      rw [followLimit, if_pos (limits w rear)]
      simp [followInhibit, front]
    | some d =>
      have own : rearWindow d = w := by
        revert rear
        cases w <;> cases d <;> simp [windowRear, rearWindow]
      have at_ := rest d
      rw [own] at at_
      have limit : followLimit s w t = t :=
        followLimit_resting s (by rcases at_ with h | h <;> simp [h]) (by rcases at_ with h | h <;> simp [h])
      rw [limit]
      rcases at_ with h | h <;> simp [followInhibit, inMotion, h]
  simp [followSettings, allWindows, stays]

/-- The child locks that a toggle leaves where both doors report and rest (R31). -/
theorem childRecord_aimed {t : State} {d : RearDoor} (target : ChildTarget)
    (present : (channel t (rearClosure d)).link ≠ .lost) (sends : t.cfg.modes.get (rearClosure d) ≠ .forcedOff) :
    childRecord target d t = childAimed target (child t d) := by
  unfold childRecord childAimed
  dsimp only
  rw [if_neg (by simp [present, sends])]
  cases (child t d).sensed <;> cases target <;> rfl

end

section
variable {s : State} {dt : Nat} {c : Closure} {record : List Byte} {rep old : Report}
  (h : LocksRest dt c record rep old s) (rests : MotorRests c s) (untouched : Untouched rep)
  (driver : c = driverClosure s)
include h rests untouched

/-- A lock request from an edge that is taken and actuated. -/
theorem report_locks {r : LockRequest} (ready : LockReady s) (relock : r.source ≠ .autoRelock) (plain : r.kind ≠ .crashUnlock)
    (drives : Drives r.kind s)
    (edges : edgesTaken c old rep (reportRead dt c rep s) = arriveLock r (reportRead dt c rep s)) :
    AnswersActive (.nodeReport dt c record) s (lockTaken 0 r (reportTaken dt c rep s)) := by
  let x := reportRead dt c rep s
  have run : x.stage = .run := h.steady.run
  obtain ⟨last, idle, active⟩ := activity_eq x
  have taken : edgesTaken c old rep x = lockTaken 0 r (activity x) :=
    edges.trans (arriveLock_taken (ready.read h.steady) (.inl relock) plain drives)
  have dressed : reportDressed c rep (lockTaken 0 r (activity x)) = lockTaken 0 r (reportDressed c rep (activity x)) := rfl
  refine acts_edges h rests untouched taken ((activity_fresh run).of_same rfl rfl rfl fun d => ?_) ?_ ?_
  · rw [lockTaken_closure]
    split
    · exact actuated_latch ..
    · rfl
  · rw [dressed, active]
    exact followGroup_taken 0 ready.noSlot drives
  · rw [dressed, active, reportTaken_eq]
    rfl

include driver

/-- The central lock switch and the key cylinder (R4). -/
theorem report_lockEdge {edge : LockSwitch} {kind : LockKind} (ready : LockReady s)
    (named : edge = .lock ∧ kind = .lockAll ∨ edge = .unlock ∧ kind = .unlockAll) (drives : Drives kind s) :
    (old.central = .none → levels rep = levels { old with central := edge } →
      AnswersActive (.nodeReport dt c record) s (lockTaken 0 ⟨kind, .insideSwitch, false⟩ (reportTaken dt c rep s))) ∧
    (old.keyCylinder = .none → levels rep = levels { old with keyCylinder := edge } →
      AnswersActive (.nodeReport dt c record) s (lockTaken 0 ⟨kind, .keyCylinder, false⟩ (reportTaken dt c rep s))) := by
  have plain : kind ≠ .crashUnlock := by rcases named with ⟨-, rfl⟩ | ⟨-, rfl⟩ <;> simp
  have asks (source : LockSource) (t : State) : lockSwitchEdge source .none edge t = arriveLock ⟨kind, source, false⟩ t := by
    rcases named with ⟨rfl, rfl⟩ | ⟨rfl, rfl⟩ <;> rfl
  have driver' : c = driverClosure (reportRead dt c rep s) := driver
  have buttons := edgesTaken_buttons (s := reportRead dt c rep s) (rep := rep) (old := old) h.steady.run driver'
  refine ⟨fun up same => ?_, fun up same => ?_⟩
  · simp only [levels, Prod.mk.injEq] at same
    obtain ⟨own, pack, central, childButton, lockoutButton, cylinder⟩ := same
    refine report_locks h rests untouched ready nofun plain drives ?_
    rw [buttons own pack, central, childButton, lockoutButton, cylinder, up, childButtonEdge_level,
      lockoutButtonEdge_level, lockSwitchEdge_level, asks]
  · simp only [levels, Prod.mk.injEq] at same
    obtain ⟨own, pack, central, childButton, lockoutButton, cylinder⟩ := same
    refine report_locks h rests untouched ready nofun plain drives ?_
    rw [buttons own pack, central, childButton, lockoutButton, cylinder, up, lockSwitchEdge_level,
      childButtonEdge_level, lockoutButtonEdge_level, asks]

/-! ## The child and the lockout button (R30, R31, R35) -/

theorem report_childToggle (resting : ∀ d, (window s (rearWindow d)).state = .idle ∨ (window s (rearWindow d)).state = .fault)
    (up : old.childButton = false) (same : levels rep = levels { old with childButton := true })
    (idle : ∀ d, (child s d).phase = .idle ∨ (child s d).phase = .fault)
    (reports : ∀ d, (channel s (rearClosure d)).link ≠ .lost ∧ s.cfg.modes.get (rearClosure d) ≠ .forcedOff) :
    AnswersActive (.nodeReport dt c record) s
      { reportTaken dt c rep s with
        children := s.children.mapWith fun _ x =>
          childAimed
            (if (child s .rl).target = .engaged ∧ (child s .rr).target = .engaged then .disengaged else .engaged) x } := by
  let x := reportRead dt c rep s
  let target : ChildTarget :=
    if (child s .rl).target = .engaged ∧ (child s .rr).target = .engaged then .disengaged else .engaged
  have run : x.stage = .run := h.steady.run
  have awake : x.ctx.state = .awake := h.steady.awake h.steady.run
  obtain ⟨last, idle', active⟩ := activity_eq x
  let y := withActivity last idle' x
  let e : State := { y with children := s.children.mapWith fun _ x => childAimed target x }
  have toggles : toggleTarget x = target := by
    have all : (allRearDoors.all fun d => (child x d).target == .engaged) =
        Decidable.decide ((child s .rl).target = .engaged ∧ (child s .rr).target = .engaged) := by
      simp only [allRearDoors, List.all_cons, List.all_nil, Bool.and_true, Bool.decide_and]
      rfl
    simp only [toggleTarget, all, decide_eq_true_eq, target]
  have aimed (d : RearDoor) : childRecord target d y = childAimed target (child s d) := by
    obtain ⟨present, sends⟩ := reports d
    refine childRecord_aimed target ?_ sends
    rw [show channel y (rearClosure d) = channel x (rearClosure d) from rfl,
      reportRead_channel Channel.link (fun _ => rfl)]
    exact present
  have both : [RearDoor.rl, RearDoor.rr].foldl (fun t d => aimChild target d t) y = e := by
    have first : aimChild target .rl y = setChild .rl (childAimed target (child s .rl)) y :=
      (aimChild_rest (s := y) (d := .rl) (idle .rl)).trans (by rw [aimed])
    have second : childRecord target .rr (setChild .rl (childAimed target (child s .rl)) y) =
        childAimed target (child s .rr) := aimed .rr
    rw [List.foldl_cons, List.foldl_cons, List.foldl_nil, first,
      aimChild_rest (s := setChild .rl (childAimed target (child s .rl)) y) (d := .rr) (idle .rr), second]
    rfl
  have taken : edgesTaken c old rep x = e := by
    simp only [levels, Prod.mk.injEq] at same
    obtain ⟨own, pack, central, childButton, lockoutButton, cylinder⟩ := same
    have driver' : c = driverClosure x := driver
    have running : running x = true := by simp [Machine.running, run]
    have toggled : childToggle x =
        followSettings y ([RearDoor.rl, RearDoor.rr].foldl (fun t d => aimChild target d t) y) := by
      unfold childToggle setChildTargets
      rw [if_pos running, wake_activity .request awake, active, toggles]
      rfl
    rw [edgesTaken_buttons run driver' own pack, central, childButton, lockoutButton, cylinder, up, lockSwitchEdge_level,
      lockoutButtonEdge_level, lockSwitchEdge_level]
    refine toggled.trans ?_
    rw [both]
    refine followSettings_rear (fun w front => ?_) fun d => ?_
    · simp only [currentLimit, front]
      rfl
    · have state : (window e (rearWindow d)).state = (window s (rearWindow d)).state :=
        reportRead_window (·.state) (fun _ _ _ _ => rfl) _
      rw [state]
      exact resting d
  have fresh : Fresh y := by
    rw [show y = activity x from active.symm]
    exact activity_fresh run
  refine acts_edges h rests untouched taken (fresh.of_same rfl rfl rfl fun _ => rfl)
    (followGroup_still h.noFlight h.noSlot) ?_
  rw [reportTaken_eq]
  rfl

theorem report_lockout (resting : ∀ d, (window s (rearWindow d)).state = .idle ∨ (window s (rearWindow d)).state = .fault)
    (up : old.lockoutButton = false) (same : levels rep = levels { old with lockoutButton := true }) :
    AnswersActive (.nodeReport dt c record) s
      { reportTaken dt c rep s with cfg := { s.cfg with car := { s.cfg.car with lockout := !s.cfg.car.lockout } } } := by
  let x := reportRead dt c rep s
  have run : x.stage = .run := h.steady.run
  have awake : x.ctx.state = .awake := h.steady.awake h.steady.run
  obtain ⟨last, idle, active⟩ := activity_eq x
  let y := withActivity last idle x
  let e : State := { y with cfg := { s.cfg with car := { s.cfg.car with lockout := !s.cfg.car.lockout } } }
  have taken : edgesTaken c old rep x = e := by
    simp only [levels, Prod.mk.injEq] at same
    obtain ⟨own, pack, central, childButton, lockoutButton, cylinder⟩ := same
    have driver' : c = driverClosure x := driver
    have pressed : lockoutButtonEdge false true x = setLockout (!s.cfg.car.lockout) y := by
      have woke : wake .button (activity x) = y := (wake_activity .button awake).trans active
      unfold lockoutButtonEdge
      rw [woke]
      rfl
    rw [edgesTaken_buttons run driver' own pack, central, childButton, lockoutButton, cylinder, up,
      lockSwitchEdge_level .insideSwitch, childButtonEdge_level, pressed, lockSwitchEdge_level]
    refine followSettings_rear (t := e) (fun w front => ?_) fun d => ?_
    · simp only [currentLimit, front]
      rfl
    · have state : (window e (rearWindow d)).state = (window s (rearWindow d)).state :=
        reportRead_window (·.state) (fun _ _ _ _ => rfl) _
      rw [state]
      exact resting d
  have fresh : Fresh y := by
    rw [show y = activity x from active.symm]
    exact activity_fresh run
  refine acts_edges h rests untouched taken ⟨fresh.1, fresh.2⟩ (followGroup_still h.noFlight h.noSlot) ?_
  rw [reportTaken_eq]
  rfl

end

end Sys2Proof.Machine
end

section
/-!
PROOFS. The handle events and the uplink of a report of a channel at rest (R113 to R119, R159, R172).
-/

namespace Sys2Proof.Machine

/-- The search purpose that a report's handle events ask for (R115, R117). -/
def HandleAsks (c : Closure) (rep : Report) (purpose : Purpose) (s : State) : Prop :=
  c = .tg ∧ rep.releaseButton = true ∧ (closure s c).target ≠ .unlocked ∧ purpose = .tailgate ∨
    s.cfg.key.touch.get c = true ∧
      (c ≠ .tg ∧ rep.touchUnlock = true ∧ purpose = .unlock ∨
        (c = .tg → rep.releaseButton = false) ∧ rep.touchUnlock = false ∧ rep.touchLock = true ∧ purpose = .lock)

theorem handleEvents_touch {s : State} {c : Closure} {rep : Report} {purpose : Purpose} (run : s.stage = .run)
    (asks : HandleAsks c rep purpose s) : handleEvents c rep s = touch c purpose .handle s := by
  have running : running s = true := by simp [Machine.running, run]
  unfold handleEvents
  rw [running]
  simp only [Bool.not_true, Bool.false_eq_true, if_false]
  rcases asks with ⟨rfl, button, locked, rfl⟩ | ⟨on, ⟨door, unlock, rfl⟩ | ⟨free, notUnlock, lock, rfl⟩⟩
  · simp [button, releaseButton, locked]
  · simp [door, on, unlock]
  · have unpressed : (c == .tg && rep.releaseButton) = false := by
      by_cases tail : c = .tg
      · simp [free tail]
      · simp [tail]
    simp [unpressed, on, notUnlock, lock]

section
variable {s : State} {dt : Nat} {c : Closure} {record : List Byte} {rep old : Report}
  (h : LocksRest dt c record rep old s) (rests : MotorRests c s) (unpressed : c = .tg ∨ levels rep = levels old)
include h rests unpressed

/-- With no edge, the handle events and the uplink are left. -/
theorem reportRecorded_handles : reportRecorded c rep (elapse dt s) =
    reportKept c rep true (takeUplink c rep (handleEvents c rep
      (onWindow c (unsuppressed rep) (reportRead dt c rep s)))) := by
  rw [reportRecorded_rests h rests, edgesTaken_unpressed unpressed]

/-- A handle event that opens a search. -/
theorem report_touch (noUplink : rep.uplink = none) (on : s.cfg.key.passive = true)
    (free : s.search.slots = [none, none, none, none]) (room : s.tx.length < 16) {purpose : Purpose}
    (asks : HandleAsks c rep purpose s) :
    AnswersActive (.nodeReport dt c record) s (searchBegun .handle c purpose (reportTaken dt c rep s)) := by
  let x := onWindow c (unsuppressed rep) (reportRead dt c rep s)
  have run : x.stage = .run := h.steady.run
  have touched : handleEvents c rep x = activity (searchBegun .handle c purpose x) :=
    (handleEvents_touch run asks).trans (touch_begins run (h.steady.awake h.steady.run) on free room)
  obtain ⟨last, idle, active⟩ := activity_eq (searchBegun .handle c purpose x)
  let e := activity (searchBegun .handle c purpose x)
  have recorded : reportRecorded c rep (elapse dt s) = setChannel c (recordReport rep true (channel e c)) e := by
    rw [reportRecorded_handles h rests unpressed, touched, takeUplink_none noUplink, reportKept]
    refine followGroup_still ?_ ?_
    · rw [active]; exact h.noFlight
    · rw [active]; exact h.noSlot
  refine report_acts h.toReportComes ?_ ?_
  · rw [recorded, reportTaken_eq]
    simp only [e, active]
    rfl
  · rw [recorded]
    exact (activity_fresh (s := searchBegun .handle c purpose x) run).of_same rfl rfl rfl fun _ => rfl

/-- An uplink payload goes out on its channel's identifier. -/
theorem report_uplink (untouched : rep.touchUnlock = false ∧ rep.touchLock = false ∧ rep.releaseButton = false)
    {data : List Byte} {id : CanId} (carries : rep.uplink = some data) (names : s.cfg.frame.uplinkIds.get c = some id)
    (room : s.tx.length < 16) :
    Answers (.nodeReport dt c record) s
      { reportTaken dt c rep s with tx := s.tx ++ [⟨.other, id, data, false⟩] } := by
  let x := onWindow c (unsuppressed rep) (reportRead dt c rep s)
  have run : x.stage = .run := h.steady.run
  have running : running x = true := by simp [Machine.running, run]
  have named : x.cfg.frame.uplinkIds.get c = some id := names
  have offered : takeUplink c rep x = { x with tx := s.tx ++ [⟨.other, id, data, false⟩] } := by
    unfold takeUplink
    simp only [carries, named, running, if_true]
    exact offer_other (s := x) rfl run room
  let y : State := { x with tx := s.tx ++ [⟨.other, id, data, false⟩] }
  have recorded : reportRecorded c rep (elapse dt s) = setChannel c (recordReport rep true (channel y c)) y := by
    rw [reportRecorded_handles h rests unpressed, handleEvents_untouched untouched, offered, reportKept]
    exact followGroup_still h.noFlight h.noSlot
  refine report_answers h.toReportComes ?_
  rw [recorded, reportTaken_eq]
  rfl

end

end Sys2Proof.Machine
end

section
/-!
PROOFS. What a motor report does to the windows and the engine asks nothing of the channels but their rates (R58, R62, R70
to R91).
-/

namespace Sys2Proof.Machine

/-- The same state with other channels of the same rates. -/
structure Recounted (chs : Five Channel) (s t : State) : Prop where
  eq : t = { s with channels := chs }
  rates : ∀ d, (chs.get d).rate = (channel s d).rate

section
variable {chs : Five Channel} {w : WindowId} {s t u v : State}

namespace Recounted

theorem ite {c d : Prop} [Decidable c] [Decidable d] (same : c ↔ d) (yes : Recounted chs s t) (no : Recounted chs u v) :
    Recounted chs (if c then s else u) (if d then t else v) := by
  by_cases h : c
  · rw [if_pos h, if_pos (same.mp h)]
    exact yes
  · rw [if_neg h, if_neg fun g => h (same.mpr g)]
    exact no

theorem setWindow (h : Recounted chs s t) (w : WindowId) (x : Window) :
    Recounted chs (setWindow w x s) (setWindow w x t) := by
  obtain ⟨rfl, rates⟩ := h
  exact ⟨rfl, rates⟩

theorem activity (h : Recounted chs s t) : Recounted chs (activity s) (activity t) := by
  obtain ⟨rfl, rates⟩ := h
  exact .ite Iff.rfl ⟨rfl, rates⟩ ⟨rfl, rates⟩

/-! ## Frames and faults (R160, R205) -/

theorem queued (h : Recounted chs s t) (q : Option (List TxFrame)) {f g : State} (full : Recounted chs f g) :
    Recounted chs (match q with | some q => { s with tx := q } | none => f)
      (match q with | some q => { t with tx := q } | none => g) := by
  obtain ⟨rfl, rates⟩ := h
  cases q with
  | none => exact full
  | some q => exact ⟨rfl, rates⟩

theorem countFault (h : Recounted chs s t) (cls : FaultClass) (who : Option Closure) :
    Recounted chs (countFault cls who s) (countFault cls who t) := by
  obtain ⟨rfl, rates⟩ := h
  exact ⟨rfl, rates⟩

theorem raiseTxOverflow (h : Recounted chs s t) : Recounted chs (raiseTxOverflow s) (raiseTxOverflow t) := by
  have counted := h.countFault .txOverflow none
  obtain ⟨rfl, -⟩ := h
  unfold Machine.raiseTxOverflow
  dsimp only
  exact .ite Iff.rfl counted (counted.queued _ counted)

theorem offer (h : Recounted chs s t) (f : TxFrame) : Recounted chs (offer f s) (offer f t) := by
  have full := h.raiseTxOverflow
  have placed := h.queued (enqueue f s.tx) full
  obtain ⟨rfl, rates⟩ := h
  exact .ite Iff.rfl placed ⟨rfl, rates⟩

theorem raiseWith (h : Recounted chs s t) (detail : Option PinchDetail) (cls : FaultClass) (who : Option Closure) :
    Recounted chs (raiseWith detail cls who s) (raiseWith detail cls who t) := by
  have counted := h.countFault cls who
  have offered := counted.offer (faultNotice cls detail (Machine.countFault cls who s))
  obtain ⟨rfl, -⟩ := h
  exact .ite Iff.rfl counted offered

/-! ## The engine (R129, R132 to R137) -/

theorem setOp (h : Recounted chs s t) (op : OpEngine) : Recounted chs { s with op := op } { t with op := op } := by
  obtain ⟨rfl, rates⟩ := h
  exact ⟨rfl, rates⟩

theorem endOperation (h : Recounted chs s t) (op : ActiveOp) :
    Recounted chs (endOperation op s) (endOperation op t) := by
  let last := endedOp op op.abortCause op.steps
  have ended := (h.setOp { s.op with active := none, lastOp := some last }).offer
    { kind := .other, id := noticeId s, data := operationNoticeData last, started := false }
  obtain ⟨rfl, -⟩ := h
  exact ended

theorem keepOrEnd (h : Recounted chs s t) (op : ActiveOp) : Recounted chs (keepOrEnd op s) (keepOrEnd op t) := by
  have ended := h.endOperation op
  obtain ⟨rfl, rates⟩ := h
  exact .ite Iff.rfl ended ⟨rfl, rates⟩

theorem endRunning (h : Recounted chs s t) (w : WindowId) (outcome : Option MotionOutcome) :
    Recounted chs (endRunning w outcome s) (endRunning w outcome t) := by
  obtain ⟨rfl, rates⟩ := h
  have off : channelOff { s with channels := chs } (windowClosure w) = channelOff s (windowClosure w) := by
    unfold channelOff
    rw [← rates (windowClosure w)]
    rfl
  refine ⟨?_, rates⟩
  have slots : (Machine.endRunning w outcome { s with channels := chs }).motion.slots =
      endSlot w (channelOff { s with channels := chs } (windowClosure w)) s.motion.slots := rfl
  rw [off] at slots
  have same : Machine.endRunning w outcome { s with channels := chs } =
      { Machine.endRunning w outcome s with
        channels := chs, motion := (Machine.endRunning w outcome { s with channels := chs }).motion } := rfl
  have motion : (Machine.endRunning w outcome { s with channels := chs }).motion =
      (Machine.endRunning w outcome s).motion := congrArg (fun l => ({ s.motion with slots := l } : Motion)) slots
  rw [same, motion]

theorem endMotionRecord (h : Recounted chs s t) (w : WindowId) (outcome : MotionOutcome) :
    Recounted chs (endMotionRecord w outcome s) (endMotionRecord w outcome t) := by
  have running := h.endRunning w (some outcome)
  obtain ⟨rfl, rates⟩ := h
  exact .ite Iff.rfl ⟨rfl, rates⟩ (.ite Iff.rfl running ⟨rfl, rates⟩)

theorem stopForEngine (h : Recounted chs s t) (w : WindowId) :
    Recounted chs (stopForEngine w s) (stopForEngine w t) := by
  have active := h.activity
  have ended := active.endMotionRecord w .cancelled
  obtain ⟨same, -⟩ := active
  refine .ite (by rw [same]; exact Iff.rfl) ended h.activity

theorem abort (h : Recounted chs s t) (cause : AbortCause) : Recounted chs (abort cause s) (abort cause t) := by
  have stops (steps : List OpStep) : ∀ {s t}, Recounted chs s t →
      Recounted chs (steps.foldl (fun t x => Machine.stopForEngine x.window t) s)
        (steps.foldl (fun t x => Machine.stopForEngine x.window t) t) := by
    induction steps with
    | nil => exact id
    | cons x rest ih => exact fun h => ih (h.stopForEngine x.window)
  have same : t.op = s.op := by rw [h.eq]
  unfold Machine.abort
  rw [same]
  split
  · exact h
  · exact (stops _ h).endOperation _

theorem crashTest (h : Recounted chs s t) : Recounted chs (crashTest s) (crashTest t) := by
  have aborted := h.abort .crashAbort
  have same : t.group = s.group := by rw [h.eq]
  exact .ite (by rw [same]) aborted h

theorem handStatus (h : Recounted chs s t) (w : WindowId) (status : StepStatus) :
    Recounted chs (handStatus w status s) (handStatus w status t) := by
  have tested := h.crashTest
  have same : (Machine.crashTest t).op = (Machine.crashTest s).op := by rw [tested.eq]
  unfold Machine.handStatus
  dsimp only
  rw [same]
  split
  · exact tested
  · split
    · exact tested
    · exact .ite Iff.rfl ((tested.setOp _).abort _) (tested.keepOrEnd _)

theorem handOutcome (h : Recounted chs s t) (origin : Option Origin) (w : WindowId) (outcome : MotionOutcome) :
    Recounted chs (handOutcome origin w outcome s) (handOutcome origin w outcome t) := by
  unfold Machine.handOutcome
  refine .ite Iff.rfl ?_ h
  split
  · exact h.handStatus ..
  · exact h

/-! ## The window (R62, R70 to R91) -/

theorem endMotion (h : Recounted chs s t) (w : WindowId) (outcome : MotionOutcome) :
    Recounted chs (endMotion w outcome s) (endMotion w outcome t) := by
  have recorded := h.endMotionRecord w outcome
  have same : window t w = window s w := by rw [h.eq]; rfl
  unfold Machine.endMotion
  dsimp only
  rw [same]
  exact .ite Iff.rfl (recorded.handOutcome ..) recorded

theorem endIfReached (h : Recounted chs s t) (w : WindowId) : Recounted chs (endIfReached w s) (endIfReached w t) := by
  have ended := h.endMotion w .reached
  obtain ⟨rfl, rates⟩ := h
  exact .ite Iff.rfl ended ⟨rfl, rates⟩

theorem takePinch (h : Recounted chs s t) (w : WindowId) (cause : PinchCause) (zone current : Nat) :
    Recounted chs (takePinch w cause zone current s) (takePinch w cause zone current t) := by
  have pinched := h.setWindow w (pinchedRecord (windowCfg s w) cause (window s w))
  have raised := (pinched.handOutcome (window s w).origin w .pinched).raiseWith
    (some ⟨zone, (window s w).position, cause, current, (pinchedRecord (windowCfg s w) cause (window s w)).pinchCount⟩) .pinch
    (some (windowClosure w))
  obtain ⟨rfl, -⟩ := h
  exact raised

theorem endStop (h : Recounted chs s t) (w : WindowId) : Recounted chs (endStop w s) (endStop w t) := by
  obtain ⟨rfl, rates⟩ := h
  have same : Recounted chs s { s with channels := chs } := ⟨rfl, rates⟩
  have adapted (profile : List Nat) :
      Recounted chs (setProfile w profile s) (setProfile w profile { s with channels := chs }) := ⟨rfl, rates⟩
  exact ((Recounted.ite Iff.rfl (adapted _) same).setWindow w _).endMotion w _

theorem carryOut (h : Recounted chs s t) (w : WindowId) (zone current : Nat) (decision : Decision) :
    Recounted chs (carryOut w zone current decision s) (carryOut w zone current decision t) := by
  cases decision with
  | none => exact h
  | endStop => exact h.endStop w
  | normHold =>
    obtain ⟨rfl, rates⟩ := h
    exact ⟨rfl, rates⟩
  | pinch cause => exact h.takePinch ..

theorem closingReport (h : Recounted chs s t) (w : WindowId) (d i : Nat) :
    Recounted chs (closingReport w d i s) (closingReport w d i t) := by
  obtain ⟨rfl, rates⟩ := h
  have same : Recounted chs s { s with channels := chs } := ⟨rfl, rates⟩
  unfold Machine.closingReport
  dsimp only
  exact endIfReached (.ite Iff.rfl ((same.setWindow w _).carryOut ..) (same.setWindow w _)) w

theorem openingReport (h : Recounted chs s t) (w : WindowId) (d : Nat) :
    Recounted chs (openingReport w d s) (openingReport w d t) := by
  obtain ⟨rfl, rates⟩ := h
  have same : Recounted chs s { s with channels := chs } := ⟨rfl, rates⟩
  exact .ite Iff.rfl ((same.setWindow w _).endMotion ..) ((same.setWindow w _).endIfReached w)

theorem reversalReport (h : Recounted chs s t) (w : WindowId) (d : Nat) :
    Recounted chs (reversalReport w d s) (reversalReport w d t) := by
  obtain ⟨rfl, rates⟩ := h
  have same : Recounted chs s { s with channels := chs } := ⟨rfl, rates⟩
  exact .ite Iff.rfl ((same.setWindow w _).endRunning ..) (same.setWindow w _)

theorem coastReport (h : Recounted chs s t) (w : WindowId) (dir : Direction) (d : Nat) :
    Recounted chs (coastReport w dir d s) (coastReport w dir d t) := by
  obtain ⟨rfl, rates⟩ := h
  exact ⟨rfl, rates⟩

theorem motorData (h : Recounted chs s t) (w : WindowId) (d i : Nat) :
    Recounted chs (motorData w d i s) (motorData w d i t) := by
  have same : window t w = window s w := by rw [h.eq]; rfl
  unfold Machine.motorData
  dsimp only
  rw [same]
  split
  · exact .ite Iff.rfl (h.closingReport ..) (h.coastReport ..)
  · exact .ite Iff.rfl (.ite Iff.rfl (h.reversalReport ..) (h.openingReport ..)) (h.coastReport ..)
  · split
    · exact h.coastReport ..
    · exact h

theorem windowReport (h : Recounted chs s t) (w : WindowId) (rep : Report) :
    Recounted chs (windowReport w rep s) (windowReport w rep t) := by
  have heated := h.setWindow w (heated s.now (window s w))
  obtain ⟨rfl, -⟩ := h
  exact heated.motorData ..

end Recounted

end

end Sys2Proof.Machine
end

section
/-!
PROOFS. A report of a running motor, taken with nothing else (R43, R62, R70 to R91, R168 C).
-/

namespace Sys2Proof.Machine

section
variable {s : State} {dt : Nat} {c : Closure} {record : List Byte} {rep old : Report} {w : WindowId}

/-- The motor data of a counted report: the channel is counted, and its window takes them. -/
theorem takeMotor_counted (own : windowClosure w = c) :
    takeMotor c rep (channelCounted c rep (elapse dt s)) =
      { windowReport w rep (elapse dt s) with channels := s.channels.set c (countGood rep (channel s c)) } := by
  have counted : Recounted (s.channels.set c (countGood rep (channel s c))) (elapse dt s)
      (channelCounted c rep (elapse dt s)) :=
    ⟨rfl, setChannel_rates (s := elapse dt s) (ch := countGood rep (channel s c)) rfl⟩
  have taken : takeMotor c rep (channelCounted c rep (elapse dt s)) =
      windowReport w rep (channelCounted c rep (elapse dt s)) := by
    unfold takeMotor
    rw [closureWindow_eq.mpr own]
  rw [taken, (counted.windowReport w rep).eq]

/-- The state that a report of a running motor leaves. -/
def motorReported (dt : Nat) (c : Closure) (w : WindowId) (rep : Report) (s : State) : State :=
  let u := windowReport w rep { s with now := s.now + dt }
  { u with
    channels := (reportTaken dt c rep s).channels
    windows := u.windows.set w
      { window u w with
        overtemp := false, suppressed := if rep.ownSwitch = .none then false else (window u w).suppressed } }

theorem report_motor (h : LocksRest dt c record rep old s) (own : windowClosure w = c) (level : levels rep = levels old)
    (untouched : Untouched rep) : Answers (.nodeReport dt c record) s (motorReported dt c w rep s) := by
  let u := windowReport w rep (elapse dt s)
  let ch := countGood rep (channel s c)
  let m : State := { u with channels := s.channels.set c ch }
  obtain ⟨unlock, lock, release, uplink⟩ := untouched
  have here : closureWindow c = some w := closureWindow_eq.mpr own
  have view : startView u = startView s := (startView_windowReport (elapse dt s) w rep).trans rfl
  simp only [startView, Prod.mk.injEq] at view
  obtain ⟨-, -, -, flight, slot, -⟩ := view
  have windows : onWindow c (unsuppressed rep) (onWindow c (fun x => { x with overtemp := false }) m) =
      setWindow w (unsuppressed rep { window m w with overtemp := false }) m := by
    rw [onWindow_onWindow]
    exact (onWindow_some here (fun x => unsuppressed rep { x with overtemp := false }) m).symm
  have recorded : reportRecorded c rep (elapse dt s) =
      setChannel c (recordReport rep true ch) (setWindow w (unsuppressed rep { window m w with overtemp := false }) m) := by
    have channelRead : channel (setWindow w (unsuppressed rep { window m w with overtemp := false }) m) c = ch :=
      Five.get_set_same ..
    rw [reportRecorded_comes h.toReportComes, h.takeLocks, takeMotor_counted own,
      edgesTaken_unpressed (.inr level), handleEvents_untouched ⟨unlock, lock, release⟩, takeUplink_none uplink, windows,
      reportKept, channelRead]
    exact followGroup_still (flight.trans h.noFlight) (slot.trans h.noSlot)
  refine report_answers h.toReportComes ?_
  have channels : (setChannel c (recordReport rep true ch)
      (setWindow w (unsuppressed rep { window m w with overtemp := false }) m)).channels =
        (reportTaken dt c rep s).channels := by
    rw [reportTaken_eq]
    have counted : channel (reportRead dt c rep s) c = ch := channel_setChannel ..
    unfold reportDressed
    rw [counted]
    rfl
  rw [recorded, motorReported, ← channels]
  rfl

end

end Sys2Proof.Machine
end

section
/-!
PROOFS. A report of an opening motion and of a reversal (R62, R86).
-/

namespace Sys2Proof.Machine

section
variable {s : State} {w : WindowId} {rep : Report}

/-- The record of a window that the report of an opening motor moves. -/
def openedReport (w : WindowId) (rep : Report) (s : State) : Window :=
  countReport rep.ripple (windowCfg s w).blanking
    (integrate .down rep.ripple (windowCfg s w).travel (heatUp s.now (window s w)))

/-- The state with that record. -/
def openedTo (w : WindowId) (rep : Report) (s : State) : State := setWindow w (openedReport w rep s) s

theorem window_openedTo : window (openedTo w rep s) w = openedReport w rep s := window_setWindow ..

theorem effectiveTarget_openedTo :
    effectiveTarget (openedTo w rep s) w = min (window s w).requested (currentLimit s w) := by
  rw [effectiveTarget, window_openedTo]
  rfl

/-- A report that shows ripple shows no block, or comes in blanking. -/
theorem openedReport_unblocked (ripple : rep.ripple ≠ 0) :
    (blocked (openedReport w rep s) && afterBlanking (windowCfg s w).blanking (openedReport w rep s)) = false := by
  simp only [openedReport, countReport, blocked, afterBlanking, ripple, if_false]
  split
  · next blanking => simp [Nat.not_lt.mpr blanking]
  · rfl

/-- A report that answers DOWN of the present motion of a window (R70, R84). -/
structure MovesDown (w : WindowId) (s : State) : Prop where
  direction : (window s w).direction = .down
  drive : (window s w).lastDrive = .down
  noStop : (window s w).stopDue = false

theorem MovesDown.motorData (down : MovesDown w s) (moves : windowMoving (window s w) = true) :
    windowReport w rep s =
      if (window s w).state == .reversing then
        reversalReport w rep.ripple (setWindow w (heatUp s.now (window s w)) s)
      else openingReport w rep.ripple (setWindow w (heatUp s.now (window s w)) s) := by
  obtain ⟨direction, drive, noStop⟩ := down
  have running : motorRunning (window s w) = true := by simp [motorRunning, drive]
  have answers : answersMotion .down (heatUp s.now (window s w)) = true := by
    have same : answersMotion .down (heatUp s.now (window s w)) =
        (windowMoving (window s w) && (window s w).direction == .down && !(window s w).stopDue) := rfl
    rw [same, moves, direction, noStop]
    rfl
  have own : (heatUp s.now (window s w)).lastDrive = .down := drive
  rw [windowReport_eq, heated, if_pos running, Machine.motorData, window_setWindow, own]
  exact if_pos answers

/-- A window in motion, which is no reversal. -/
abbrev Moves (w : WindowId) (s : State) : Prop :=
  (window s w).state = .movingManual ∨ (window s w).state = .movingAuto

theorem windowReport_opening (down : MovesDown w s) (moves : Moves w s) : windowReport w rep s =
    if blocked (openedReport w rep s) && afterBlanking (windowCfg s w).blanking (openedReport w rep s) then
      endMotion w .reached (openedTo w rep s)
    else endIfReached w (openedTo w rep s) := by
  have moving : windowMoving (window s w) = true := by rcases moves with h | h <;> simp [windowMoving, h]
  have noReversal : ((window s w).state == .reversing) = false := by rcases moves with h | h <;> simp [h]
  rw [down.motorData moving, noReversal, if_neg nofun, openingReport, window_setWindow, setWindow_setWindow]
  rfl

/-- The record of a motion or reversal that ends. -/
theorem endMotion_moved {outcome : MotionOutcome} (kept : outcome ≠ .lost) (moves : windowMoving (window s w) = true) :
    window (endMotion w outcome s) w = endedRecord (windowCfg s w).travel (some outcome) (window s w) := by
  have notWaiting : ¬((window s w).state == .waiting) = true := by
    intro waits
    rw [windowMoving, beq_iff_eq.mp waits] at moves
    cases moves
  rw [endMotion_ended kept (.inr moves), endMotionRecord, if_neg notWaiting, if_pos moves]
  exact window_setWindow ..

theorem endedRecord_clear {travel : Nat} {outcome : Option MotionOutcome} {x : Window} (clear : x.clearPending = false)
    (kept : outcome ≠ some .lost) :
    (endedRecord travel outcome x).state = .idle ∧ (endedRecord travel outcome x).position = x.position ∧
      (endedRecord travel outcome x).lastOutcome = (outcome <|> x.lastOutcome) ∧
      (endedRecord travel outcome x).stopDue = true := by
  simp [endedRecord, clear, kept]

/-- An opening motion that has come to its target ends REACHED. -/
theorem windowReport_reached (down : MovesDown w s) (moves : Moves w s)
    (reached : min (window s w).requested (currentLimit s w) ≤
      min (windowCfg s w).travel ((window s w).position + rep.ripple)) :
    windowReport w rep s = endMotion w .reached (openedTo w rep s) := by
  have ends : endIfReached w (openedTo w rep s) = endMotion w .reached (openedTo w rep s) := by
    refine if_pos ?_
    rw [window_openedTo, effectiveTarget_openedTo]
    have direction : (openedReport w rep s).direction = .down := down.direction
    have inMotion : inMotion (openedReport w rep s) = true := by
      have state : (openedReport w rep s).state = (window s w).state := rfl
      rcases moves with h | h <;> simp [inMotion, state, h]
    rw [inMotion, direction]
    exact decide_eq_true reached
  rw [windowReport_opening down moves, ends, ite_self]

/-- One that has not, and is not blocked, goes on. -/
theorem windowReport_opens (down : MovesDown w s) (moves : Moves w s) (ripple : rep.ripple ≠ 0)
    (short : min (windowCfg s w).travel ((window s w).position + rep.ripple) <
      min (window s w).requested (currentLimit s w)) :
    windowReport w rep s = openedTo w rep s := by
  have goes : endIfReached w (openedTo w rep s) = openedTo w rep s := by
    refine if_neg ?_
    rw [window_openedTo, effectiveTarget_openedTo]
    have direction : (openedReport w rep s).direction = .down := down.direction
    rw [direction]
    have left : nothingLeft .down (min (window s w).requested (currentLimit s w)) (openedReport w rep s).position = false :=
      decide_eq_false (Nat.not_le.mpr short)
    simp [left]
  rw [windowReport_opening down moves, goes, openedReport_unblocked ripple]
  exact if_neg nofun

/-- A reversal that has come to its target is over (R86 A). -/
theorem windowReport_reversed (down : MovesDown w s) (reverses : (window s w).state = .reversing) {target : Nat}
    (aims : (window s w).reversalTarget = some target)
    (reached : target ≤ min (windowCfg s w).travel ((window s w).position + rep.ripple)) :
    ∃ ripple, windowReport w rep s =
      endRunning w none (setWindow w { openedReport w rep s with reversalRipple := ripple } s) := by
  have moving : windowMoving (window s w) = true := by simp [windowMoving, reverses]
  let x := openedReport w rep s
  let y : Window := { x with reversalRipple := min 8191 (x.reversalRipple + rep.ripple) }
  have ends : reversalOver (windowCfg s w).blanking y = true := by
    have target' : y.reversalTarget = some target := aims
    unfold reversalOver
    rw [target']
    exact Bool.or_eq_true_iff.mpr (.inl (decide_eq_true reached))
  refine ⟨y.reversalRipple, ?_⟩
  rw [down.motorData moving, if_pos (beq_iff_eq.mpr reverses), reversalReport, window_setWindow, setWindow_setWindow]
  exact if_pos ends

end

end Sys2Proof.Machine
end

section
/-!
PROOFS. What a report of an opening motion and of a reversal answers (R62, R86, R132).
-/

namespace Sys2Proof.Machine

/-- The end of an operation's step depends on the engine, the queue and the identifiers alone. -/
theorem stepEndedAs_congr {s t : State} (w : WindowId) (status : StepStatus) (op : ActiveOp) (engine : t.op = s.op)
    (tx : t.tx = s.tx) (mgmt : t.mgmt = s.mgmt) :
    (stepEndedAs w status op t).op = (stepEndedAs w status op s).op ∧
      (stepEndedAs w status op t).tx = (stepEndedAs w status op s).tx := by
  unfold stepEndedAs operationNotice
  dsimp only
  rw [engine, tx, mgmt]
  split
  · exact ⟨rfl, rfl⟩
  · exact ⟨rfl, rfl⟩

section
variable {s : State} {dt : Nat} {c : Closure} {record : List Byte} {rep old : Report} {w : WindowId}

theorem motorReported_window : window (motorReported dt c w rep s) w =
    { window (windowReport w rep (elapse dt s)) w with
      overtemp := false
      suppressed := if rep.ownSwitch = .none then false else (window (windowReport w rep (elapse dt s)) w).suppressed } :=
  Four.get_set_same ..

theorem motorReported_other {v : WindowId} (other : v ≠ w) :
    window (motorReported dt c w rep s) v = window (windowReport w rep (elapse dt s)) v :=
  Four.get_set_other other ..

variable (h : LocksRest dt c record rep old s) (own : windowClosure w = c) (level : levels rep = levels old)
  (untouched : Untouched rep)
include h own level untouched

/-- Any field that a report of a running motor leaves, but for the activity. -/
theorem report_motor_same : ∃ u, exec (.nodeReport dt c record) s = .next u ∧
    u.op = (windowReport w rep (elapse dt s)).op ∧ u.tx = (windowReport w rep (elapse dt s)).tx ∧
      u.motion = (windowReport w rep (elapse dt s)).motion ∧ u.windows = (motorReported dt c w rep s).windows := by
  obtain ⟨u, next, agrees⟩ := report_motor h own level untouched
  exact ⟨u, next, agrees.same State.op fun _ => rfl, agrees.same State.tx fun _ => rfl,
    agrees.same State.motion fun _ => rfl, agrees.same State.windows fun _ => rfl⟩

/-- An opening motion moves, and ends REACHED at its target. -/
theorem report_opening (moves : Moves w s) (down : MovesDown w s) (clear : (window s w).clearPending = false) :
    let x := window s w
    let opened := min (windowCfg s w).travel (x.position + rep.ripple)
    ∃ u, exec (.nodeReport dt c record) s = .next u ∧ (window u w).position = opened ∧
      (min x.requested (currentLimit s w) ≤ opened →
        (window u w).state = .idle ∧ (window u w).lastOutcome = some .reached ∧ (window u w).stopDue = true ∧
          ∀ op, StepOut w op s → s.tx.length < 16 →
            u.op = (stepEndedAs w .done op s).op ∧ u.tx = (stepEndedAs w .done op s).tx) ∧
      (opened < min x.requested (currentLimit s w) → rep.ripple ≠ 0 →
        (window u w).state = x.state ∧ (window u w).lastOutcome = x.lastOutcome ∧ u.motion = s.motion) := by
  intro x opened
  let v := elapse dt s
  let m := openedTo w rep v
  have down' : MovesDown w v := ⟨down.direction, down.drive, down.noStop⟩
  have moves' : Moves w v := moves
  obtain ⟨u, next, engine, tx, motion, windows⟩ := report_motor_same h own level untouched
  have record : window u w = _ := (congrArg (fun l => l.get w) windows).trans motorReported_window
  have moving : windowMoving (window m w) = true := by
    have state : (openedReport w rep v).state = x.state := rfl
    rw [window_openedTo]
    rcases moves with e | e <;> simp [windowMoving, state, x, e]
  have ended : window (endMotion w .reached m) w =
      endedRecord (windowCfg s w).travel (some .reached) (openedReport w rep v) := by
    rw [endMotion_moved (by simp) moving, window_openedTo]
    rfl
  obtain ⟨idle, at_, outcome, stops⟩ := endedRecord_clear (travel := (windowCfg s w).travel) (outcome := some .reached)
    (x := openedReport w rep v) clear (by simp)
  refine ⟨u, next, ?_, fun reached => ?_, fun short ripple => ?_⟩
  · have still : (window (endIfReached w m) w).position = opened := by
      unfold endIfReached
      dsimp only
      split
      · rw [ended, at_]
        rfl
      · rw [window_openedTo]
        rfl
    rw [record, windowReport_opening down' moves']
    split
    · have position : (window (endMotion w .reached m) w).position = opened := by
        rw [ended, at_]
        rfl
      exact position
    · exact still
  · have taken := windowReport_reached down' moves' reached
    rw [record, taken]
    refine ⟨by rw [ended, idle], by rw [ended, outcome]; rfl, by rw [ended, stops], fun op step room => ?_⟩
    have out : StepOut w op m := by
      refine ⟨step.active, step.distinct, step.counted, step.noCause, step.noHold, step.issued, ?_, ?_⟩
      · rw [window_openedTo]
        exact step.out
      · rw [window_openedTo]
        exact step.origin
    have ends := endMotion_step (outcome := .reached) (status := .done) (s := m) h.steady.run room out rfl (by simp)
    rw [engine, tx, taken, ends]
    exact stepEndedAs_congr w .done op (endMotionRecord_same State.op (fun _ _ _ => rfl) ..)
      (endMotionRecord_same State.tx (fun _ _ _ => rfl) ..) (endMotionRecord_same State.mgmt (fun _ _ _ => rfl) ..)
  · have taken : windowReport w rep v = m := windowReport_opens down' moves' ripple short
    have own : window m w = openedReport w rep v := window_openedTo
    rw [record, taken, own, motion, taken]
    exact ⟨rfl, rfl, rfl⟩

/-- A reversal moves, and is over at its target. -/
theorem report_reversal (reverses : (window s w).state = .reversing) (down : MovesDown w s)
    (clear : (window s w).clearPending = false) {target : Nat} (aims : (window s w).reversalTarget = some target)
    (reached : target ≤ min (windowCfg s w).travel ((window s w).position + rep.ripple)) :
    ∃ u, exec (.nodeReport dt c record) s = .next u ∧ (window u w).state = .idle ∧
      (window u w).position = min (windowCfg s w).travel ((window s w).position + rep.ripple) ∧
      (window u w).lastOutcome = (window s w).lastOutcome ∧ (window u w).stopDue = true := by
  let v := elapse dt s
  obtain ⟨u, next, -, -, -, windows⟩ := report_motor_same h own level untouched
  obtain ⟨ripple, taken⟩ := windowReport_reversed (s := v) ⟨down.direction, down.drive, down.noStop⟩ reverses aims reached
  let y : Window := { openedReport w rep v with reversalRipple := ripple }
  have ended : window (windowReport w rep v) w = endedRecord (windowCfg s w).travel none y := by
    rw [taken]
    refine (window_setWindow ..).trans ?_
    rw [window_setWindow]
    rfl
  have record : window u w = _ := (congrArg (fun l => l.get w) windows).trans motorReported_window
  obtain ⟨idle, at_, outcome, stops⟩ := endedRecord_clear (travel := (windowCfg s w).travel) (outcome := none)
    (x := y) clear (by simp)
  refine ⟨u, next, ?_⟩
  rw [record, ended]
  exact ⟨idle, at_, outcome, stops⟩

end

end Sys2Proof.Machine
end

section
/-!
PROOFS. A report that pinches a closing window on CURRENT, and the abort of the operation that moved it (R72, R74, R80,
R85, R134, R135).
-/

namespace Sys2Proof.Machine

/-! ## The queue keeps the notices that it holds (R160) -/

/-- A frame that is neither page nor fault notice is replaced by none. -/
theorem enqueue_keeps {f g : TxFrame} {q r : List TxFrame} (joined : enqueue f q = some r) (plain : g.kind = .other)
    (mem : g ∈ q) : g ∈ r := by
  unfold enqueue at joined
  split at joined
  · next k found =>
    obtain rfl := Option.some.inj joined
    obtain ⟨i, inside, rfl⟩ := List.getElem_of_mem mem
    obtain ⟨inside', replaced, -⟩ := List.findIdx?_eq_some_iff_getElem.mp found
    have other : k ≠ i := by
      rintro rfl
      simp only [replaces, plain] at replaced
      revert replaced
      cases f.kind <;> simp
    rw [← List.getElem_set_ne other (by simpa using inside)]
    exact List.getElem_mem _
  · split at joined
    · obtain rfl := Option.some.inj joined
      exact List.mem_append_left _ mem
    · cases joined

theorem raiseTxOverflow_keeps {g : TxFrame} {s : State} (plain : g.kind = .other) (mem : g ∈ s.tx) :
    g ∈ (raiseTxOverflow s).tx := by
  unfold raiseTxOverflow
  dsimp only
  split
  · exact mem
  · split
    · next r joined => exact enqueue_keeps (r := r) joined plain mem
    · exact mem

theorem offer_keeps {f g : TxFrame} {s : State} (plain : g.kind = .other) (mem : g ∈ s.tx) : g ∈ (offer f s).tx := by
  unfold offer
  split
  · split
    · next r joined => exact enqueue_keeps (r := r) joined plain mem
    · exact raiseTxOverflow_keeps plain mem
  · exact mem

theorem raiseWith_keeps {g : TxFrame} {detail : Option PinchDetail} {cls : FaultClass} {who : Option Closure} {s : State}
    (plain : g.kind = .other) (mem : g ∈ s.tx) : g ∈ (raiseWith detail cls who s).tx := by
  unfold raiseWith
  dsimp only
  split
  · exact mem
  · exact offer_keeps (s := countFault cls who s) plain mem

/-! ## The current of a report (R74) -/

theorem byteNat_le (data : List Byte) (k : Nat) : byteNat data k ≤ 255 := by
  unfold byteNat
  omega

/-- The current of a report is a byte. -/
theorem readReport_current {record : List Byte} {rep : Report} (read : readReport record = some rep) :
    rep.current ≤ 255 := by
  obtain ⟨-, fields⟩ := Option.ite_none_left_eq_some.mp read
  simp only [readReportFields, Option.bind_eq_bind, Option.bind_eq_some_iff] at fields
  obtain ⟨_, -, _, -, _, -, _, -, _, -, _, -, _, -, _, -, _, -, made⟩ := fields
  obtain ⟨-, made⟩ := Option.ite_none_right_eq_some.mp made
  obtain rfl := Option.some.inj made
  exact byteNat_le ..

/-- Without a fresh voltage a current counts as it is. -/
theorem reportCurrent_plain {rep : Report} {s : State} (stale : s.ctx.voltageFresh = none) (byte : rep.current ≤ 255) :
    reportCurrent rep s = rep.current := by
  have volts : pinchVoltage s = 135 := by simp [pinchVoltage, voltageFresh, stale, live]
  rw [reportCurrent, volts, compensate]
  omega

/-! ## The pinch (R80, R85) -/

section
variable {s : State} {w : WindowId} {rep : Report}

/-- A closing window whose current comes to the ceiling pinches, whatever else the report shows. -/
theorem windowReport_pinches (closing : Closing w s) (high : (windowCfg s w).ceiling ≤ reportCurrent rep s) :
    windowReport w rep s =
      takePinch w .current (reportZone w rep s) (reportCurrent rep s) (setWindow w (judgedReport w rep s) s) := by
  have pinches := decide_pinches (p := windowCfg s w) (x := judgedReport w rep s) (.inl high)
  have reverses : inMotion (window (takePinch w .current (reportZone w rep s) (reportCurrent rep s)
      (setWindow w (judgedReport w rep s) s)) w) = false := by
    rw [takePinch_window]
    rfl
  rw [windowReport_closing closing, pinches, if_pos high, carryOut]
  exact endIfReached_still reverses

/-- The window that has pinched. -/
theorem windowReport_pinched (closing : Closing w s) (high : (windowCfg s w).ceiling ≤ reportCurrent rep s) :
    window (windowReport w rep s) w = pinchedRecord (windowCfg s w) .current (judgedReport w rep s) := by
  rw [windowReport_pinches closing high, takePinch_window, window_setWindow]
  rfl

end

/-! ## The abort of a pinch (R134, R135) -/

section
variable {s : State} {w : WindowId} {op : ActiveOp}

/-- The operation with the step of a pinched window marked. -/
def pinchedOp (w : WindowId) (op : ActiveOp) : ActiveOp :=
  { op with steps := stepsMarked w .pinched op.steps, remaining := op.remaining - 1 }

/-- PINCHED, handed to an operation with an open step for the window, aborts it. -/
theorem handStatus_pinched (noHold : s.group.crashHold = none) (active : s.op.active = some op)
    (distinct : (op.steps.map (·.window)).Nodup) (out : ∃ x ∈ op.steps, x.window = w ∧ openStep x = true) :
    handStatus w .pinched s = abort .pinchAbort { s with op := { s.op with active := some (pinchedOp w op) } } := by
  unfold handStatus
  simp only [crashTest_free noHold, active, markStep_marked .pinched distinct out]
  rfl

/-- What the abort leaves: the ended operation with its notice, and every other open step's motion stopped. -/
structure PinchAborted (w : WindowId) (op : ActiveOp) (s t : State) : Prop where
  ended : t.op.active = none ∧
    t.op.lastOp = some (endedOp op (some .pinchAbort) (stepsCancelled (stepsMarked w .pinched op.steps)))
  notice : s.tx.length < 16 →
    operationNotice s (endedOp op (some .pinchAbort) (stepsCancelled (stepsMarked w .pinched op.steps))) ∈ t.tx
  stopped : ∀ y ∈ op.steps, y.window ≠ w → openStep y = true → EnginesOwn (window s y.window) →
    EngineStopped (window s y.window) (window t y.window)

theorem abort_pinched (run : s.stage = .run) (active : s.op.active = some (pinchedOp w op))
    (noCause : op.abortCause = none) :
    PinchAborted w op s (abort .pinchAbort s) := by
  let p := pinchedOp w op
  have made := abort_active (cause := .pinchAbort) active
  have rest : lessMotion (stopsMade p s) = lessMotion s := foldl_lessMotion _ (fun _ _ => stopForEngine_lessMotion _ _) _
  have stage : (stopsMade p s).stage = .run := (same_of_motion rest State.stage fun _ => rfl).trans run
  have mgmt : (stopsMade p s).mgmt = s.mgmt := same_of_motion rest State.mgmt fun _ => rfl
  have tx : (stopsMade p s).tx = s.tx :=
    foldl_stopForEngine_same State.tx (fun _ _ _ => rfl) _
      (fun _ _ u => endMotionRecord_same State.tx (fun _ _ _ => rfl) _ _ u) s
  have cause : ((pinchedOp w op).abortCause <|> some .pinchAbort) = some .pinchAbort := by
    have none_ : (pinchedOp w op).abortCause = none := noCause
    rw [none_]
    rfl
  refine ⟨?_, fun room => ?_, fun y mem other isOpen out => ?_⟩
  · rw [made, endOperation_op, cause]
    exact ⟨rfl, rfl⟩
  · rw [made, endOperation_room stage (by rw [tx]; exact room)]
    refine List.mem_append_right _ (List.mem_singleton.mpr ?_)
    rw [operationNotice, operationNotice, mgmt, cause]
    rfl
  · have there : y ∈ p.steps := by
      refine List.mem_map.mpr ⟨y, mem, ?_⟩
      simp [other]
    have windows : window (abort .pinchAbort s) y.window = window (stopsMade p s) y.window := by
      rw [made, window, endOperation_windows, window]
    rw [windows]
    rcases stops_window (p.steps.filter fun x => !stepEnded x.status) s y.window with ⟨_, freed⟩ | ⟨_, stopped⟩
    · exact absurd out (freed ⟨y, List.mem_filter.mpr ⟨there, by rw [stepEnded_open, isOpen]⟩, rfl⟩)
    · exact stopped

/-- A pinch aborts the operation whose step it ends. -/
theorem takePinch_aborts {x : Window} {zone current : Nat} (run : s.stage = .run) (step : StepOut w op s)
    (same : x.origin = (window s w).origin) :
    PinchAborted w op s (takePinch w .current zone current (setWindow w x s)) := by
  let v := setWindow w x s
  let p := setWindow w (pinchedRecord (windowCfg v w) .current (window v w)) v
  let a : State := { p with op := { p.op with active := some (pinchedOp w op) } }
  have out : ∃ x ∈ op.steps, x.window = w ∧ openStep x = true := by
    obtain ⟨x, hx, own, issued⟩ := step.issued
    exact ⟨x, hx, own, by simp [openStep, issued]⟩
  have own : (window v w).origin = (window s w).origin := (congrArg Window.origin (window_setWindow ..)).trans same
  have origin : operationOrigin (window v w).origin = true := by
    rw [own]
    rcases step.origin with h | h <;> simp [h, operationOrigin]
  have handed : handOutcome (window v w).origin w .pinched p = abort .pinchAbort a := by
    rw [handOutcome, if_pos origin]
    exact handStatus_pinched step.noHold step.active step.distinct out
  obtain ⟨⟨ended, last⟩, notice, stopped⟩ := abort_pinched (s := a) run rfl step.noCause
  have pinched : takePinch w .current zone current v =
      raiseWith (some ⟨zone, (window v w).position, .current, current,
        (pinchedRecord (windowCfg v w) .current (window v w)).pinchCount⟩) .pinch (some (windowClosure w))
        (abort .pinchAbort a) := by
    rw [← handed]
    rfl
  rw [pinched]
  refine ⟨?_, fun room => raiseWith_keeps rfl (notice room), fun y mem other isOpen out => ?_⟩
  · rw [raiseWith_same State.op fun _ => rfl]
    exact ⟨ended, last⟩
  · have kept : window a y.window = window s y.window :=
      (window_setWindow_other other _ v).trans (window_setWindow_other other x s)
    rw [raiseWith_same (fun u => window u y.window) fun _ => rfl, ← kept]
    exact stopped y mem other isOpen (by rw [kept]; exact out)

end

/-! ## The report -/

section
variable {s : State} {dt : Nat} {c : Closure} {record : List Byte} {rep old : Report} {w : WindowId}

/-- A closing window whose current comes to the ceiling reverses, and the operation that moved it is aborted. -/
theorem report_pinch (h : LocksRest dt c record rep old s) (own : windowClosure w = c) (level : levels rep = levels old)
    (untouched : Untouched rep) (closing : Closing w s) (stale : s.ctx.voltageFresh = none)
    (high : (windowCfg s w).ceiling ≤ rep.current) :
    let x := window s w
    ∃ u, exec (.nodeReport dt c record) s = .next u ∧ (window u w).state = .reversing ∧
      (window u w).direction = .down ∧ (window u w).lastOutcome = some .pinched ∧
      (window u w).lastPinchCause = some .current ∧ (window u w).position = x.position - rep.ripple ∧
      ∀ op, StepOut w op s →
        let last := endedOp op (some .pinchAbort) (stepsCancelled (stepsMarked w .pinched op.steps))
        u.op.active = none ∧ u.op.lastOp = some last ∧
          (s.tx.length < 16 → operationNotice s last ∈ u.tx) ∧
          ∀ y ∈ op.steps, y.window ≠ w → openStep y = true →
            (window s y.window).origin = x.origin →
            (window s y.window).state = .waiting ∨ (window s y.window).state = .movingAuto →
            (window u y.window).state = .idle ∧ (window u y.window).lastOutcome = some .cancelled := by
  intro x
  let v := elapse dt s
  have closing' : Closing w v :=
    ⟨closing.moving, closing.direction, closing.drive, closing.noStop, closing.past, closing.bound⟩
  have high' : (windowCfg v w).ceiling ≤ reportCurrent rep v := by
    rw [reportCurrent_plain (s := v) stale (readReport_current h.read)]
    exact high
  obtain ⟨u, next, engine, tx, -, windows⟩ := report_motor_same h own level untouched
  have record : window u w = _ := (congrArg (fun l => l.get w) windows).trans motorReported_window
  have position : (judgedReport w rep v).position = x.position - rep.ripple := judgedReport_position
  refine ⟨u, next, ?_⟩
  rw [record, windowReport_pinched closing' high']
  refine ⟨rfl, rfl, rfl, rfl, position, fun op step => ?_⟩
  have step' : StepOut w op v := step.of_same rfl rfl rfl
  have same : (judgedReport w rep v).origin = x.origin :=
    judgedReport_same w rep v (·.origin) fun _ _ _ _ _ _ _ _ _ _ => rfl
  obtain ⟨⟨ended, last⟩, notice, stopped⟩ := takePinch_aborts (s := v) (zone := reportZone w rep v)
    (current := reportCurrent rep v) h.steady.run step' same
  rw [engine, tx, windowReport_pinches closing' high']
  refine ⟨ended, last, notice, fun y mem other isOpen origin out => ?_⟩
  have theirs : window u y.window = _ :=
    (congrArg (fun l => l.get y.window) windows).trans (motorReported_other other)
  have owned : EnginesOwn (window v y.window) := by
    refine ⟨?_, out.elim .inl fun h => .inr (.inr h)⟩
    have origin' : (window v y.window).origin = (window s w).origin := origin
    rw [origin']
    rcases step.origin with h | h <;> simp [h, operationOrigin]
  have halted := stopped y mem other isOpen owned
  rw [theirs, windowReport_pinches closing' high']
  exact ⟨halted.idle, halted.outcome⟩

end

end Sys2Proof.Machine
end

section
/-!
PROOFS. A node report (R165, R168 to R175): a discarded one, a recovery, the node faults, and each change that one shows.
-/

namespace Sys2Proof.Machine

theorem childThere_cases (k : ChildLock) : childThere k = true ↔
    k.sensed = .engaged ∧ k.target = .engaged ∨ k.sensed = .disengaged ∧ k.target = .disengaged := by
  unfold childThere
  cases k.sensed <;> cases k.target <;> simp

/-- Settles O51. -/
theorem nodeReportIsTaken : Obligations.NodeReportIsTaken := by
  intro s dt c record
  refine ⟨report_discarded, fun rep due lost fresh fault rests => lostNode_recovers due ⟨lost, fresh, fault, rests⟩,
    fun rep due places => nodeFaults_taken due places, fun rep old comes => ?_⟩
  intro k seen now taken answers acts withLock busy resting unpressed rearRest
  refine ⟨fun unmoved rests level untouched => ⟨?same, ?manual, ?pulse, ?there⟩,
    fun d own lock rest rests level untouched => ⟨?sent, ?settled, ?drifts⟩,
    fun h => ⟨fun rests untouched => ⟨?own, ?inhibited, ?pack, ?releases, ?edges, ?buttons⟩, ?handles, ?uplink, ?motor⟩⟩
  case same => exact report_lockUnmoved comes unmoved rests level untouched
  case manual => exact fun target => report_lockManual comes unmoved rests level untouched
  case pulse => exact report_pulseOver comes unmoved rests level untouched
  case there =>
    intro settles there sent _
    refine ⟨report_lockThere comes unmoved rests level untouched settles there sent,
      fun f last flight noSlot noDue notCrash => ⟨fun lock => ?_, fun notLock notDeadlock => ?_⟩⟩
    · exact report_lockCompletes comes unmoved rests level untouched settles there sent last flight noSlot noDue lock
    · exact report_unlockCompletes comes unmoved rests level untouched settles there sent last flight noSlot noDue
        notLock notDeadlock notCrash
  case sent =>
    exact fun driving gone => answers_child comes own lock rest rests level untouched (childPhaseReport_sent driving gone)
  case settled =>
    exact fun settles there => answers_child comes own lock rest rests level untouched
      (childPhaseReport_settled settles ((childThere_cases _).mpr there))
  case drifts =>
    exact fun idle known away => answers_child comes own lock rest rests level untouched
      (childPhaseReport_drifts idle known (eq_false_of_ne_true fun there => away ((childThere_cases _).mp there)))
  case own =>
    exact fun w own up same pressed alone free goes =>
      report_ownPress h rests untouched own up same pressed alone free goes
  case inhibited =>
    exact fun w own up same pressed inhibit =>
      report_inhibited h rests untouched own up same pressed inhibit
  case pack =>
    exact fun w level driver up pressed same alone free goes =>
      report_packPress h rests untouched driver up pressed same alone free goes
  case releases =>
    exact fun w own down up same clear free waits origin held =>
      report_releases h rests untouched own down up same clear free waits origin held
  case edges =>
    exact fun driver ready edge kind named drives =>
      report_lockEdge h rests untouched driver ready named drives
  case buttons =>
    exact fun driver rear =>
      ⟨report_childToggle h rests untouched driver rear, report_lockout h rests untouched driver rear⟩
  case handles =>
    exact fun rests level noUplink enabled free _ room purpose asks =>
      report_touch h rests level noUplink enabled free room asks
  case uplink =>
    exact fun data id rests level untouched carries names room =>
      report_uplink h rests level untouched carries names room
  case motor =>
    intro w own level untouched x p opened u
    refine ⟨report_motor h own level untouched, fun moves direction drive noStop clear _ => ?_,
      fun target reverses direction drive noStop clear aims reached => ?_,
      fun moves direction drive noStop past bound stale high => ?_⟩
    · exact report_opening h own level untouched moves ⟨direction, drive, noStop⟩ clear
    · exact report_reversal h own level untouched reverses ⟨direction, drive, noStop⟩ clear aims reached
    · exact report_pinch h own level untouched ⟨moves, direction, drive, noStop, past, bound⟩ stale high

end Sys2Proof.Machine
end
